-- ==== Sys2Proof/Word.lean ====
section
/-! DEFINITION. The byte of the command port and of the formatter link (R188, R78): the one bit-vector type
of the model.  Everything else the manual counts in whole units (spec/00_scope.md, "Units") is a `Nat` or an `Int`. -/

namespace Sys2Proof

/-- One byte clocked on the SPI command port or on the formatter link. -/
abbrev Byte := BitVec 8

end Sys2Proof
end

