-- ==== Sys2Proof/Syntax.lean ====
section
/-! DEFINITION. The commands of the ZP640: one constructor per row of spec/opcode_table.json, in the table's order.
A host request carries the part of its transaction that is taken and every byte the host clocks in after its request code
(`HostWrite`: the two length bytes and the payload of R188, R207), so that the length check of R189 and the field layouts of R207 belong
to the command's meaning. -/

namespace Sys2Proof

/-- A six-byte formatter link message (R78, R207). -/
structure LinkMessage where
  code : Byte
  b1 : Byte
  b2 : Byte
  b3 : Byte
  b4 : Byte
  check : Byte
  deriving DecidableEq, Repr

/-- The part of a response read that is taken (R188): its first byte, which fixes the port status byte and the frame;
its release after `clocked` bytes in all; or both with no event of another block between them. -/
inductive ReadPhase where
  | firstByte
  | release (clocked : Nat)
  | whole (clocked : Nat)
  deriving DecidableEq, Repr

/-- The part of a request write that is taken (R188): its first byte, the request code, at which the port status byte clocked out is
fixed; its release, with every byte clocked in after the code; or both with no event of another block between them. -/
inductive HostWrite where
  | firstByte
  | release (body : List Byte)
  | whole (body : List Byte)
  deriving DecidableEq, Repr

/-- The levels a reset finds at its first observation of the lines WGATE, KEEP, SLA, SLB, SHOME, FOK and FLAY, an
observation that raises no event (R104, R124, R187). -/
structure FoundLines where
  wgate : Bool
  keep : Bool
  sla : Bool
  slb : Bool
  shome : Bool
  fok : Bool
  flay : Nat
  deriving DecidableEq, Repr

/-- A SOFT_RESET request, with the levels that its reset finds. -/
structure ResetWrite where
  write : HostWrite
  found : FoundLines
  deriving DecidableEq, Repr

/-- The commands: requests of the host, messages of the formatter, completions inside the part, pin events and
time-driven events, as spec/opcode_table.json lists them. -/
inductive Instr where
  | mediaInstall (w : HostWrite)
  | mediaAmend (w : HostWrite)
  | mediaMount (w : HostWrite)
  | mediaUnmount (w : HostWrite)
  | mediaRetire (w : HostWrite)
  | mediaRead (w : HostWrite)
  | recInstall (w : HostWrite)
  | recAmend (w : HostWrite)
  | recPromote (w : HostWrite)
  | recRetire (w : HostWrite)
  | recRetireMatch (w : HostWrite)
  | recRead (w : HostWrite)
  | recFind (w : HostWrite)
  | recScan (w : HostWrite)
  | diodeSet (w : HostWrite)
  | diodeRead (w : HostWrite)
  | limitsSet (w : HostWrite)
  | zoneMap (w : HostWrite)
  | speedMap (w : HostWrite)
  | pickupRead (w : HostWrite)
  | laserOn (w : HostWrite)
  | laserOff (w : HostWrite)
  | holdClear (w : HostWrite)
  | supplyAck (w : HostWrite)
  | queueRead (w : HostWrite)
  | queueAbort (w : HostWrite)
  | counterSet (w : HostWrite)
  | counterRead (w : HostWrite)
  | settings (w : HostWrite)
  | status (w : HostWrite)
  | noticesRead (w : HostWrite)
  | ident (w : HostWrite)
  /-- The levels are those the first observations after the reset find. -/
  | softReset (r : ResetWrite)
  /-- A request write whose code names no request. -/
  | unknownRequest (code : Byte) (w : HostWrite)
  | responseRead (phase : ReadPhase)
  | powerOnReset (found : FoundLines)
  | pinReset (found : FoundLines)
  /-- The SEG message with its four payload bytes (R207). -/
  | seg (b1 b2 b3 b4 : Byte)
  /-- The CANCEL message with its first payload byte, tag × 16; the other three are 0. -/
  | cancel (b1 : Byte)
  /-- The END message with its first payload byte, tag × 16; the other three are 0. -/
  | endMsg (b1 : Byte)
  | linkMessageDiscarded (msg : LinkMessage)
  | resyncIdleByte
  | segmentLookupCompletion
  | recFindCompletion
  | recScanCompletion
  | recRetireMatchCompletion
  | wgateRise
  | wgateFall
  | writeBack
  | msTick
  | keepaliveExpiry
  | keepStrobe
  | settleExpiry
  | ldtripAssert
  | ldwarnAssert
  /-- A reading of the diode temperature sensor, in temperature steps, not yet held within range. -/
  | temperatureSample (reading : Int)
  /-- `count` boundaries of CCLK in a row, each with the same level of WDATA (R126).  The boundary at which a mark is known builds its
  train. -/
  | markRead (wdata : Bool) (count : Nat)
  | markStart
  | spaceSample
  /-- The front-monitor reading, 0..1500 power units (R159). -/
  | peakSample (reading : Nat)
  /-- The return sampler reading, 0..255 (R156). -/
  | returnSample (reading : Nat)
  /-- The observation of SLA, SLB that differs from the one before it, with the level of SHOME at it (R106, R107). -/
  | sledStep (sla slb shome : Bool)
  | wobPulse
  | measurementCompletion
  /-- A rise of FOK, with the layer FLAY shows at it (R119). -/
  | fokRise (flay : Nat)
  | fokFall
  /-- The layer FLAY comes to show (R121). -/
  | flayChange (flay : Nat)
  | jumpTimerExpiry
  | ldwarnDeassert
  | ldtripDeassert
  /-- One byte period of the full-duplex link (R78, R79).  `rx` is the byte received in it; `none` when that byte belongs
  to a message taken by one of the message-level rows (SEG, CANCEL, END, LINK_MESSAGE_DISCARDED, RESYNC_IDLE_BYTE). -/
  | linkBytePeriod (rx : Option Byte)
  | outputLevelChange
  /-- The front-monitor reading, 0..1500 power units, at the midpoint of a space of 5T or more being output. -/
  | spaceMidpointReading (reading : Nat)
  deriving DecidableEq, Repr

end Sys2Proof
end

