-- ==== Sys2Proof/Decode.lean ====
section
/-! DEFINITION. The decoder asked of a block.  No row of spec/opcode_table.json gives bits (each "fields" list is empty and no row has
"fixed" bits): the commands are requests, messages and events, so no word spells one. -/

namespace Sys2Proof

/-- The command that a word spells by the table's bits: none, since no row gives bits. -/
def decodeTableWord (nbits w : Nat) : Option Instr :=
  let _ := nbits
  let _ := w
  none

end Sys2Proof
end

