-- ==== Sys2Proof/Config.lean ====
section
/-! DEFINITION. What the part fixes: the capacities of spec/00_scope.md ("Capacities at a glance"), the limits of the
units, the credit allotments (R80), the identity of R200 and the default zone map and speed windows (R111, R115).
`sampleSurvivesTrip` is the one value that the spec leaves open and the machine goes on with: an opaque constant. -/

namespace Sys2Proof.Config

/-- Record places of the Strategy Table (R3). -/
abbrev places : Nat := 96
/-- Media slots (R21). -/
abbrev slots : Nat := 8
/-- Segment Queue entry positions (R82). -/
abbrev entries : Nat := 6
/-- Messages the outgoing link queue holds (R79). -/
abbrev outgoing : Nat := 32
/-- Records in one REC_SCAN page (R54). -/
abbrev scanPage : Nat := 24
/-- The notice kinds of the notice set (R194). -/
abbrev noticeKinds : Nat := 13
/-- The highest on-time, tally or age threshold in ms (R4, R93). -/
abbrev maxOnTime : Nat := 16777215
/-- The highest optical power in power units (R4). -/
abbrev maxPower : Nat := 1200
/-- The bound of the correction, in either direction (R4). -/
abbrev maxCorr : Int := 160
/-- One more than the highest counter value (R204). -/
abbrev counterModulus : Nat := 4294967296
/-- The highest sled count (R109). -/
abbrev maxSled : Nat := 32767
/-- Where the wobble count stops (R114). -/
abbrev maxWobble : Nat := 65535
/-- ms ticks between two temperature samples (R146). -/
abbrev tempPeriod : Nat := 16
/-- The lowest and highest temperature step (R146). -/
abbrev minTemp : Int := -160
abbrev maxTemp : Int := 400
/-- Samples of a return accumulation (R156), and of each side of a tracking accumulation (R159). -/
abbrev returnSamples : Nat := 16
abbrev trackSamples : Nat := 32

/-- Whether a space or peak sample that the output has come to in WRITE is still judged when a trip of the supply is taken before it: R173 says
that it is, since the cause set then holds both causes whichever came first, R163 that it is never offered.  The spec decides for neither, so
this is a free value (log entry 29). -/
opaque sampleSurvivesTrip : Bool

/-- Vendor code, part code and revision of IDENT (R200). -/
abbrev vendorCode : Nat := 7
abbrev partCode : Nat := 640
abbrev revision : Nat := 1

/-- The 23 default zone boundaries, 1344 × (z + 1) (R111). -/
def defaultZoneMap : List Nat := (List.range 23).map fun z => 1344 * (z + 1)

end Sys2Proof.Config
end

