-- ==== Sys2Proof/Machine/State.lean ====
section
/-! DEFINITION. The state of the ZP640, block by block (spec/00_scope.md, "Block overview"), as plain data, its reasons to
stop, and `State.reset`, the part right after power-on reset. -/

namespace Sys2Proof.Machine

/-- No command of the part ends in a fault: every request has a status, and an event that meets nothing to act on changes
nothing.  The type is closed and empty, so no step can fault. -/
inductive Fault where
  deriving DecidableEq, Repr

/-- The one refusal: a row of the table without a meaning.  No arm of `exec` raises it. -/
inductive Refusal where
  /-- Raised by an arm of `exec` that has no meaning yet; safe, since it stops the run. -/
  | notModelled (mnemonic : String)
  deriving DecidableEq, Repr

/-! ### Strategy Table (STB) -/

/-- The four values that name a record (R4). -/
structure Key where
  media : Nat
  layer : Nat
  zone : Nat
  speed : Nat
  deriving DecidableEq, Repr

/-- An override list entry (R4): a mark length and its lead and cool adjusts. -/
structure Override where
  len : Nat
  lead : Int
  cool : Int
  deriving DecidableEq, Repr

/-- How to write: powers, shape, overrides and depth target (R4, R7, R8). -/
structure Strategy where
  pp : Nat
  ps : Nat
  pc : Nat
  dT : Int
  tf : Nat
  tm : Nat
  tl : Nat
  tc : Nat
  overrides : List Override
  dt : Nat
  deriving DecidableEq, Repr

/-- The states of a record that is not FREE (R14). -/
inductive RecState where
  | provisional
  | active
  | suspect
  | retiring
  deriving DecidableEq, Repr

/-- A strategy record (R4); its generation belongs to its place (R10). -/
structure Record where
  key : Key
  strat : Strategy
  corr : Int
  onTime : Nat
  ageThreshold : Nat
  state : RecState
  pins : Nat
  deriving DecidableEq, Repr

/-- A record place: FREE when it holds no record.  It keeps its generation when it becomes FREE (R10). -/
structure Place where
  gen : Nat
  held : Option Record
  deriving DecidableEq, Repr

/-! ### Media Slot Table (MST) -/

/-- The settings of one recording layer (R23). -/
structure LayerSettings where
  readPower : Nat
  ceiling : Nat
  ageDefault : Nat
  deriving DecidableEq, Repr

inductive SlotState where
  | free
  | known
  | mounted
  deriving DecidableEq, Repr

/-- A media slot (R22).  The layer count is the length of `layers`. -/
structure Slot where
  state : SlotState
  identity : BitVec 48
  layers : List LayerSettings
  records : Nat
  deriving DecidableEq, Repr

/-- A FREE slot: every field reads as 0 (R22). -/
def Slot.empty : Slot := { state := .free, identity := 0, layers := [], records := 0 }

/-! ### Resolution Engine (RSE) -/

inductive Mode where
  | normal
  | trial
  deriving DecidableEq, Repr

/-- A key filter (R18): `none` is "any". -/
structure KeyFilter where
  media : Option Nat
  layer : Option Nat
  zone : Option (Nat × Nat)
  speed : Option Nat
  deriving DecidableEq, Repr

/-- A host request that needs a lookup (R38). -/
inductive HostLookup where
  | find (mode : Mode) (key : Key)
  | scan (filter : KeyFilter) (start : Nat)
  | retireMatch (filter : KeyFilter)
  deriving DecidableEq, Repr

/-- The lookup in flight (R35): of a segment entry by its queue position and tag, of a segment whose entry has been
cancelled or flushed since (R50), or of a host request. -/
inductive InFlight where
  | idle
  | segment (pos tag : Nat)
  | gone (pos tag : Nat)
  | host (request : HostLookup)
  deriving DecidableEq, Repr

/-- The Resolution Engine (R35).  The segment part of its wait list is the Segment Queue's PENDING entries. -/
structure Rse where
  inFlight : InFlight
  waiting : Option HostLookup
  waitCount : Nat
  deriving DecidableEq, Repr

/-! ### Segment Queue (SGQ) -/

inductive SegKind where
  | read
  | write
  | trial
  deriving DecidableEq, Repr

inductive CreditClass where
  | w
  | r
  | s
  deriving DecidableEq, Repr

inductive EntryState where
  | pending
  | resolving
  | ready
  | arming
  | armed
  | active
  | closing
  deriving DecidableEq, Repr

inductive ResKind where
  | exact
  | exactTrial
  | derived
  | borrowed
  deriving DecidableEq, Repr

/-- A record's place and the generation the host or an entry holds of it (R16). -/
structure Handle where
  index : Nat
  gen : Nat
  deriving DecidableEq, Repr

/-- The working copy of a WRITE or TRIAL entry (R47); its warning set is the entry's. -/
structure WorkingCopy where
  kind : ResKind
  key : Key
  strat : Strategy
  running : Int
  initial : Int
  sources : List Handle
  tally : Nat
  deriving DecidableEq, Repr

/-- What an entry holds to run with: nothing yet, a working copy (R47), or a READ entry's read power (R84). -/
inductive Copy where
  | none
  | strategy (wc : WorkingCopy)
  | read (power : Nat)
  deriving DecidableEq, Repr

/-- The values captured at arming (R89). -/
structure Captured where
  ceiling : Nat
  readPower : Nat
  deriving DecidableEq, Repr

/-- The warning set of a segment (R101). -/
structure Warnings where
  suspectSource : Bool
  shape : Bool
  clamped : Bool
  overdrive : Bool
  corrLimit : Bool
  staleWriteback : Bool
  deriving DecidableEq, Repr

def Warnings.empty : Warnings :=
  { suspectSource := false, shape := false, clamped := false, overdrive := false, corrLimit := false, staleWriteback := false }

/-- An occupied entry of the Segment Queue at its position (R82). -/
structure Entry where
  pos : Nat
  tag : Nat
  kind : SegKind
  cls : CreditClass
  layer : Nat
  zone : Nat
  speed : Nat
  state : EntryState
  copy : Copy
  captured : Option Captured
  warnings : Warnings
  deriving DecidableEq, Repr

/-- The Segment Queue: the occupied entries in queue order, head first (R82), and the tag of the live entry recorded as
the requester of the jump in flight (R88).  A position that no entry holds is FREE. -/
structure Sgq where
  queue : List Entry
  requester : Option Nat
  deriving DecidableEq, Repr

/-! ### Formatter Link (FLK) -/

inductive LinkSide where
  | inStep
  | resync
  deriving DecidableEq, Repr

/-- The Formatter Link (R78, R79): the incoming side with the bytes of the message being received, the outgoing queue with
how many bytes of its oldest message have gone, whether the idle byte that comes before GRANT after a reset is still to
be sent, and the byte transmitted in the latest byte period. -/
structure Flk where
  side : LinkSide
  rx : List Byte
  out : List (List Byte)
  sent : Nat
  idleFirst : Bool
  txByte : Byte
  deriving DecidableEq, Repr

/-! ### Pickup Position Unit (PKP) -/

inductive WobbleInterval where
  | half
  | one
  | two
  | four
  deriving DecidableEq, Repr

/-- A speed window, both ends inclusive (R115). -/
structure Window where
  lo : Nat
  hi : Nat
  deriving DecidableEq, Repr

/-- The focus layer state (R117). -/
inductive FocusState where
  | unknown
  | steady (layer : Nat)
  | jumping (target attemptsLeft : Nat)
  deriving DecidableEq, Repr

/-- The Pickup Position Unit (R105).  `jumpTimer` holds the ms ticks a running jump timer has left.  `wobMarks` counts the marks of the
Timebase that have passed in the running wobble interval, half-millisecond marks for an interval of 0.5 ms and ms ticks for the others,
and `halfPassed` says whether the half-millisecond mark inside the running ms has ended such an interval (R2, R114). -/
structure Pkp where
  sled : Nat
  valid : Bool
  zoneMap : List Nat
  interval : WobbleInterval
  wobCount : Nat
  wobMarks : Nat
  halfPassed : Bool
  windows : List Window
  measurement : Option Nat
  focus : FocusState
  jumpTimer : Option Nat
  fjTarget : Nat
  fjStrobe : Bool
  deriving DecidableEq, Repr

/-! ### Pulse Generator (PGN) -/

/-- The output level (R127). -/
inductive Level where
  | read
  | space
  | peak
  | cool
  deriving DecidableEq, Repr

/-- Four current codes, one for each level (R140). -/
structure CodeSet where
  read : Nat
  space : Nat
  peak : Nat
  cool : Nat
  deriving DecidableEq, Repr

def CodeSet.zero : CodeSet := { read := 0, space := 0, peak := 0, cool := 0 }

/-- A retained edge of the edge list: its position on the output timeline, in sub-T, and the level it begins (R125). -/
structure Edge where
  pos : Int
  level : Level
  deriving DecidableEq, Repr

/-- The final retained fall and the cool-gap end of the last train (R133). -/
structure Tail where
  fall : Int
  gapEnd : Int
  deriving DecidableEq, Repr

/-- A front-monitor reading with the SPACE code in force at it (R136). -/
structure HeldReading where
  reading : Nat
  code : Nat
  deriving DecidableEq, Repr

/-- The run of WDATA being read (R125, R126): whether it is of mark T's, its length in T within the write period, and whether its first T
was read in the write period.  While the write period is closed only the level last read is kept. -/
structure Run where
  mark : Bool
  len : Nat
  own : Bool
  deriving DecidableEq, Repr

/-- The Pulse Generator (R125).  `read` is how many T of the open write period have been read, `run` the run being read and `lastEnd` how
many T had been read at the end of the last mark written, `none` before it.  Positions are sub-T of the output timeline, counted from
position 0 of a mark whose first T would be the first T read in the write period, so that the next T to be read comes at 32 × (`read` − 9).
`starts`, `mids`, `spaces`, `peaks` and `returns` are the positions, in order, at which what has been read has a mark start (R140), the
midpoint of a space of 5T or more and its space sample (R136), a peak sample (R137) and a return sample (R138) to come.  `early` is what
`read` was when the midpoint was read inside a space that is not known to have ended (R136, log entry 15). -/
structure Pgn where
  level : Level
  read : Nat
  run : Run
  lastEnd : Option Nat
  edges : List Edge
  tail : Option Tail
  starts : List Int
  mids : List Int
  spaces : List Int
  peaks : List Int
  returns : List Int
  held : Option HeldReading
  early : Option Nat
  presented : CodeSet
  waiting : Option CodeSet
  deriving DecidableEq, Repr

/-! ### Power Loop (PLP) -/

/-- The diode characteristic record (R143). -/
structure Diode where
  ithRef : Nat
  sRef : Nat
  tRef : Int
  kI : Int
  kS : Int
  defaultRead : Nat
  deriving DecidableEq, Repr

/-- The write-once limits (R145): set and locked together. -/
structure Limits where
  pd : Nat
  imax : Nat
  deriving DecidableEq, Repr

/-- The return accumulation (R156). -/
structure ReturnAcc where
  sum : Nat
  count : Nat
  deriving DecidableEq, Repr

/-- The tracking accumulation (R159). -/
structure TrackAcc where
  spaceSum : Nat
  spaceCount : Nat
  peakSum : Nat
  peakCount : Nat
  ib : Option Nat
  ip : Option Nat
  deriving DecidableEq, Repr

def ReturnAcc.empty : ReturnAcc := { sum := 0, count := 0 }

def TrackAcc.empty : TrackAcc :=
  { spaceSum := 0, spaceCount := 0, peakSum := 0, peakCount := 0, ib := none, ip := none }

/-- The Power Loop.  `sample` is the latest temperature sample, `tempTicks` the ms ticks since the last
reset less 16 for each sample taken. -/
structure Plp where
  diode : Diode
  diodeValid : Bool
  limits : Option Limits
  sample : Option Int
  tempTicks : Nat
  returns : ReturnAcc
  track : TrackAcc
  deriving DecidableEq, Repr

/-! ### Laser State Controller (LSC) and Write Guard (WGD) -/

inductive LaserState where
  | off
  | settling
  | read
  | write
  | hold
  deriving DecidableEq, Repr

inductive HoldCause where
  | keepExpired
  | keepEarly
  | gateEarly
  | overpower
  | supplyTrip
  deriving DecidableEq, Repr

/-- The hold cause set (R166). -/
structure HoldCauses where
  keepExpired : Bool
  keepEarly : Bool
  gateEarly : Bool
  overpower : Bool
  supplyTrip : Bool
  deriving DecidableEq, Repr

def HoldCauses.empty : HoldCauses :=
  { keepExpired := false, keepEarly := false, gateEarly := false, overpower := false, supplyTrip := false }

inductive ReturnState where
  | lit
  | dark
  deriving DecidableEq, Repr

/-- A space or peak sample that the output had come to when a trip of the supply ended its write (R173): the ceiling it is judged by (R162), and
the held reading of a space sample; a peak sample has its reading when it is taken. -/
structure OfferedSample where
  ceiling : Nat
  held : Option Nat
  deriving DecidableEq, Repr

/-- The Laser State Controller (R166).  `settle` holds the ms ticks a running settle timer has left; `ret` is the return state,
held while in HOLD.  `offered` is the sample still to be taken in HOLD beside the trip that came first (R163, R173, log entry 29): LDTRIP_ASSERT
alone may leave one, and an event that changes the laser state leaves none. -/
structure Lsc where
  laser : LaserState
  causes : HoldCauses
  settle : Option Nat
  ret : Option ReturnState
  offered : Option OfferedSample := none
  deriving DecidableEq, Repr

/-- A running keepalive period (R178): its count of ms ticks and its captured K. -/
structure Keepalive where
  count : Nat
  k : Nat
  deriving DecidableEq, Repr

/-- The Write Guard: the keepalive period, `none` while stopped (R178), whether the tick under way has reached it by an expiry and not
yet the Segment Queue (R180), and the supply warning flag (R181). -/
structure Wgd where
  keepalive : Option Keepalive
  tickTaken : Bool
  supplyWarn : Bool
  deriving DecidableEq, Repr

/-! ### Command Port (CPT) -/

/-- The status codes (R191). -/
inductive Status where
  | ok
  | busy
  | unknownRequest
  | badLength
  | badField
  | badOrder
  | duplicate
  | notFound
  | stale
  | full
  | locked
  | inUse
  | state
  | noLimits
  | noDiode
  deriving DecidableEq, Repr

/-- A response frame (R190, R207). -/
structure Frame where
  status : Status
  code : Byte
  payload : List Byte
  deriving DecidableEq, Repr

/-- The port state (R190); SERVING keeps the code of the request being served. -/
inductive PortState where
  | idle
  | serving (code : Byte)
  | responseReady (frame : Frame)
  deriving DecidableEq, Repr

/-- What a complete response read acts on (R190): the busy reply, the response frame, or nothing. -/
inductive ReadActs where
  | busyReply
  | response
  | nothing
  deriving DecidableEq, Repr

/-- A response read in progress: the port status byte and the frame fixed at its first byte (R188). -/
structure FixedRead where
  statusByte : Byte
  frame : Frame
  acts : ReadActs
  deriving DecidableEq, Repr

/-- A request write in progress: its request code and the port status byte fixed at its first byte (R188). -/
structure FixedWrite where
  code : Byte
  statusByte : Byte
  deriving DecidableEq, Repr

inductive ResetCause where
  | powerOn
  | pin
  | command
  deriving DecidableEq, Repr

/-- The thirteen notice kinds, in the order of R194. -/
inductive NoticeKind where
  | aged
  | suspect
  | needsRecord
  | holdEntered
  | supplyWarn
  | tempRange
  | diodeTrackLimit
  | overdrive
  | counterWrap
  | linkFault
  | positionLost
  | focusLost
  | reset
  deriving DecidableEq, Repr

/-- The notice set (R194): each kind at most once, with the detail of the kinds that keep one.  The detail of COUNTER_WRAP is
the set of the counter numbers that have wrapped, number k at bit k. -/
structure Notices where
  aged : Option Key
  suspect : Option Key
  needsRecord : Option Key
  holdEntered : Bool
  supplyWarn : Bool
  tempRange : Bool
  diodeTrackLimit : Bool
  overdrive : Bool
  counterWrap : Option (BitVec 4)
  linkFault : Bool
  positionLost : Bool
  focusLost : Bool
  reset : Option ResetCause
  deriving DecidableEq, Repr

def Notices.empty : Notices :=
  { aged := none, suspect := none, needsRecord := none, holdEntered := false, supplyWarn := false, tempRange := false
    diodeTrackLimit := false, overdrive := false, counterWrap := none, linkFault := false, positionLost := false
    focusLost := false, reset := none }

/-- The thirteen settings, in the order of R197. -/
structure Settings where
  gain : Nat
  deriveSpan : Nat
  borrowDistance : Nat
  deriveWarn : Nat
  keepPeriod : Nat
  windowMode : Bool
  jumpTimeout : Nat
  jumpRetries : Nat
  settleTime : Nat
  hotLimit : Int
  tripMargin : Nat
  guardBand : Nat
  enables : BitVec 13
  deriving DecidableEq, Repr

/-- The defaults of R197. -/
def Settings.default : Settings :=
  { gain := 4, deriveSpan := 4, borrowDistance := 1, deriveWarn := 24, keepPeriod := 4, windowMode := false, jumpTimeout := 10
    jumpRetries := 1, settleTime := 5, hotLimit := 340, tripMargin := 20, guardBand := 24, enables := 0x1FFF }

/-- The Command Port: port state, busy reply, and response read or request write in progress (R188, R190), the bytes clocked out in the
latest transaction, the notice set, the settings, and the cause of the latest reset (R199). -/
structure Cpt where
  port : PortState
  busyReply : Option Byte
  reading : Option FixedRead
  writing : Option FixedWrite
  spiOut : List Byte
  notices : Notices
  settings : Settings
  lastReset : ResetCause
  deriving DecidableEq, Repr

/-! ### Activity Counters (ACT) -/

/-- The counter events, in the order of their table. -/
inductive CounterEvent where
  | lookupExact
  | lookupDerived
  | lookupBorrowed
  | lookupMiss
  | clampCeiling
  | overdrive
  | staleWriteback
  | corrLimit
  | edgeCollide
  | shortMark
  | longMark
  | trackSkip
  | writeMs
  | queueOccupancy
  | segmentFailed
  deriving DecidableEq, Repr

/-- An activity counter (R202): its event code (`none` is NONE), key filter and value. -/
structure Counter where
  event : Option CounterEvent
  filter : KeyFilter
  value : Nat
  deriving DecidableEq, Repr

def KeyFilter.any : KeyFilter := { media := none, layer := none, zone := none, speed := none }

def Counter.cleared : Counter := { event := none, filter := KeyFilter.any, value := 0 }

/-! ### Input lines -/

/-- The input lines as last observed: the previous observation against which the next one is judged (R104, R106, R124, R187),
and the levels STATUS and PICKUP_READ report (R123, R186). -/
structure Lines where
  wgate : Bool
  keep : Bool
  sla : Bool
  slb : Bool
  shome : Bool
  fok : Bool
  flay : Nat
  ldwarn : Bool
  ldtrip : Bool
  deriving DecidableEq, Repr

/-! ### The part -/

/-- The whole part: its blocks, its input lines as last observed, and the commands that wait to be taken. -/
structure State where
  stb : List Place
  mst : List Slot
  rse : Rse
  sgq : Sgq
  flk : Flk
  pkp : Pkp
  pgn : Pgn
  plp : Plp
  lsc : Lsc
  wgd : Wgd
  cpt : Cpt
  act : List Counter
  lines : Lines
  pending : List Instr
  deriving DecidableEq, Repr

/-- The default diode record (R143). -/
def Diode.default : Diode := { ithRef := 0, sRef := 256, tRef := 100, kI := 0, kS := 0, defaultRead := 20 }

/-- The default speed windows (R115). -/
def defaultWindows : List Window := [⟨400, 479⟩, ⟨600, 719⟩, ⟨800, 959⟩, ⟨1200, 1439⟩]

/-- GRANT with W 2, R 1, S 3 and its check byte (R81, R207). -/
def grantBytes : List Byte := [161, 2, 1, 3, 0, 89]

/-- Every place FREE with generation 0 (R20). -/
def freeTable : List Place := List.replicate Config.places { gen := 0, held := none }

/-- The Resolution Engine after any reset (R56). -/
def Rse.reset : Rse := { inFlight := .idle, waiting := none, waitCount := 0 }

/-- The Segment Queue after any reset (R104). -/
def Sgq.reset : Sgq := { queue := [], requester := none }

/-- The Formatter Link after any reset: IN_STEP, an idle byte and then GRANT to come (R78, R79). -/
def Flk.reset : Flk := { side := .inStep, rx := [], out := [grantBytes], sent := 0, idleFirst := true, txByte := 0 }

/-- The Pickup Position Unit after power-on or pin reset (R124). -/
def Pkp.reset : Pkp :=
  { sled := 0, valid := false, zoneMap := Config.defaultZoneMap, interval := .one, wobCount := 0, wobMarks := 0
    halfPassed := false, windows := defaultWindows, measurement := none, focus := .unknown, jumpTimer := none
    fjTarget := 0, fjStrobe := false }

/-- The Pulse Generator with nothing read (R142). -/
def Pgn.reset : Pgn :=
  { level := .read, read := 0, run := { mark := false, len := 0, own := false }, lastEnd := none, edges := [], tail := none
    starts := [], mids := [], spaces := [], peaks := [], returns := [], held := none, early := none, presented := CodeSet.zero
    waiting := none }

/-- The Power Loop after power-on or pin reset (R165). -/
def Plp.reset : Plp :=
  { diode := Diode.default, diodeValid := false, limits := none, sample := none, tempTicks := 0
    returns := ReturnAcc.empty, track := TrackAcc.empty }

/-- The Laser State Controller after any reset (R187). -/
def Lsc.reset : Lsc := { laser := .off, causes := HoldCauses.empty, settle := none, ret := none }

/-- The input lines at `State.reset`: every line low or deasserted and FLAY on layer 0, of which the spec says nothing. -/
def Lines.reset : Lines :=
  { wgate := false, keep := false, sla := false, slb := false, shome := false, fok := false, flay := 0
    ldwarn := false, ldtrip := false }

/-- The Command Port after power-on reset: RESET with cause POWER_ON and SUPPLY_WARN are pending (R193, R196). -/
def Cpt.reset : Cpt :=
  { port := .idle, busyReply := none, reading := none, writing := none, spiOut := []
    notices := { Notices.empty with supplyWarn := true, reset := some .powerOn }
    settings := Settings.default, lastReset := .powerOn }

/-- The part right after power-on reset, with no command waiting. -/
def State.reset : State :=
  { stb := freeTable, mst := List.replicate Config.slots Slot.empty, rse := Rse.reset, sgq := Sgq.reset, flk := Flk.reset
    pkp := Pkp.reset, pgn := Pgn.reset, plp := Plp.reset, lsc := Lsc.reset
    wgd := { keepalive := none, tickTaken := false, supplyWarn := true }, cpt := Cpt.reset
    act := List.replicate 4 Counter.cleared, lines := Lines.reset, pending := [] }

end Sys2Proof.Machine
end

