-- ==== Sys2Proof/Machine/Arith.lean ====
section
/-! DEFINITION. The arithmetic of the part: nearest-up rounding (R1), holding, interpolation (R45), the diode line and the
level codes (R150 to R153), the correction step (R157) and the tracking update (R161). -/

namespace Sys2Proof.Machine

/-- Nearest-up rounding of `n / d`: the largest integer not greater than `n / d + 1/2` (R1). -/
def rnd (n : Int) (d : Nat) : Int := (2 * n + d) / (2 * d)

/-- A value held within `lo..hi`. -/
def hold (lo hi x : Int) : Int := max lo (min hi x)

/-- The interpolated value of a field between the lower and the upper source (R45). -/
def interp (fl fu : Int) (z zl zu : Nat) : Int := fl + rnd ((fu - fl) * ((z : Int) - zl)) (zu - zl)

/-- The temperature in use: the latest sample, or the reference temperature before the first one (R146). -/
def Plp.temp (p : Plp) : Int := p.sample.getD p.diode.tRef

/-- The diode line at the temperature in use (R152): threshold, slope, and whether either was held. -/
structure Line where
  ith : Nat
  slope : Nat
  held : Bool
  deriving DecidableEq, Repr

/-- R152, for a diode record and a temperature. -/
def diodeLine (d : Diode) (t : Int) : Line :=
  let ith := (d.ithRef : Int) + rnd (d.kI * (t - d.tRef)) 64
  let slope := (d.sRef : Int) + rnd (d.kS * (t - d.tRef)) 64
  { ith := (hold 0 2047 ith).toNat, slope := (hold 64 8191 slope).toNat
    held := decide (hold 0 2047 ith ≠ ith ∨ hold 64 8191 slope ≠ slope) }

/-- The corrected power of a level (R150). -/
def corrected (p : Nat) (c : Int) : Nat := (rnd ((p : Int) * (1024 + c)) 1024).toNat

/-- The code of one level, and whether it was clamped (R151) or exceeded Imax (R153). -/
structure LevelCode where
  code : Nat
  clamped : Bool
  beyond : Bool
  deriving DecidableEq, Repr

/-- The stages of R151 and R153 for a corrected power `p1` under a ceiling. -/
def levelCode (line : Line) (imax ceiling p1 : Nat) : LevelCode :=
  let p2 := min p1 ceiling
  let current := line.ith + (rnd ((p2 : Int) * line.slope) 256).toNat
  if p2 = 0 then { code := 0, clamped := decide (p2 < p1), beyond := false }
  else if current ≤ imax then { code := current, clamped := decide (p2 < p1), beyond := false }
  else { code := if line.ith ≤ imax then imax else 0, clamped := decide (p2 < p1), beyond := true }

/-- The step of a correction update (R157) for a sum of sixteen samples, a depth target and a gain. -/
def correctionStep (sum dt gain : Nat) : Int := rnd (((dt : Int) - rnd sum 16) * gain) 16

/-- The reference values after a tracking update (R161), and whether either was held. -/
structure Tracked where
  ithRef : Nat
  sRef : Nat
  held : Bool
  deriving DecidableEq, Repr

/-- R161, from the means `mb`, `mp` and the codes `ib`, `ip`. -/
def trackUpdate (d : Diode) (line : Line) (mb mp : Int) (ib ip : Nat) : Tracked :=
  let sMeas := rnd (256 * ((ip : Int) - ib)) (mp - mb).toNat
  let ithMeas := (ib : Int) - rnd (mb * sMeas) 256
  let s := (d.sRef : Int) + rnd (sMeas - line.slope) 8
  let ith := (d.ithRef : Int) + rnd (ithMeas - line.ith) 8
  { ithRef := (hold 0 2047 ith).toNat, sRef := (hold 64 8191 s).toNat
    held := decide (hold 0 2047 ith ≠ ith ∨ hold 64 8191 s ≠ s) }

/-- The speed class of a measurement: the first class whose window holds it (R115). -/
def speedClass (windows : List Window) (m : Nat) : Option Nat :=
  windows.findIdx? fun w => decide (w.lo ≤ m ∧ m ≤ w.hi)

/-- The lower boundary of zone `z` (R111). -/
def zoneLow (b : List Nat) (z : Nat) : Nat := if z = 0 then 0 else b.getD (z - 1) 0

/-- The zone of a sled count: the number of boundaries at or below it (R111). -/
def zoneOf (b : List Nat) (count : Nat) : Nat := (b.filter (· ≤ count)).length

/-- The zone check of R113 for zone `z`, the sled count and the guard band. -/
def zoneCheck (b : List Nat) (z count guardBand : Nat) : Bool :=
  let p := zoneOf b count
  decide (p = z ∨ (p = z + 1 ∧ count < b.getD z 0 + guardBand) ∨ (p + 1 = z ∧ zoneLow b z ≤ count + guardBand))

end Sys2Proof.Machine
end

