-- ==== Sys2Proof/Machine/Operands.lean ====
section
/-! DEFINITION. The operand forms: reading the fields of a request payload, a record image, a key filter and a link message, and
writing response payloads, all by the layouts of R207 (most significant byte first, signed fields in two's complement). -/

namespace Sys2Proof.Machine

/-! ### Reading fields -/

/-- The unsigned byte at offset `i` of a payload. -/
def u8 (p : List Byte) (i : Nat) : Nat := (p.getD i 0).toNat

/-- The two-byte unsigned field at offset `i`. -/
def u16 (p : List Byte) (i : Nat) : Nat := u8 p i * 256 + u8 p (i + 1)

/-- The three-byte unsigned field at offset `i`. -/
def u24 (p : List Byte) (i : Nat) : Nat := u16 p i * 256 + u8 p (i + 2)

/-- The six-byte unsigned field at offset `i`. -/
def u48 (p : List Byte) (i : Nat) : Nat := u24 p i * 16777216 + u24 p (i + 3)

/-- The signed byte at offset `i`. -/
def s8 (p : List Byte) (i : Nat) : Int := if u8 p i < 128 then (u8 p i : Int) else (u8 p i : Int) - 256

/-- The two-byte signed field at offset `i`. -/
def s16 (p : List Byte) (i : Nat) : Int := if u16 p i < 32768 then (u16 p i : Int) else (u16 p i : Int) - 65536

/-- Whether member number `k` is named by the set `n` (R207: member k at weight 2 to the power k). -/
def member (n k : Nat) : Bool := n.testBit k

/-! ### Writing fields -/

/-- One byte. -/
def putU8 (n : Nat) : List Byte := [BitVec.ofNat 8 n]

/-- Two bytes. -/
def putU16 (n : Nat) : List Byte := putU8 (n / 256) ++ putU8 n

/-- Three bytes. -/
def putU24 (n : Nat) : List Byte := putU8 (n / 65536) ++ putU16 n

/-- Four bytes. -/
def putU32 (n : Nat) : List Byte := putU16 (n / 65536) ++ putU16 n

/-- Six bytes. -/
def putU48 (n : Nat) : List Byte := putU24 (n / 16777216) ++ putU24 n

/-- One signed byte. -/
def putS8 (n : Int) : List Byte := putU8 (n % 256).toNat

/-- Two bytes, signed. -/
def putS16 (n : Int) : List Byte := putU16 (n % 65536).toNat

/-- A yes-or-no item. -/
def putBool (b : Bool) : List Byte := putU8 (if b then 1 else 0)

/-- A one-byte item that may be none, sent as 255. -/
def putOpt (o : Option Nat) : List Byte := putU8 (o.getD 255)

/-- The weight of member `k` in a set that holds it when `b`. -/
def bit (k : Nat) (b : Bool) : Nat := if b then 2 ^ k else 0

/-! ### Records, keys and filters -/

/-- The key at offset `i` (R207). -/
def readKey (p : List Byte) (i : Nat) : Key :=
  { media := u8 p i, layer := u8 p (i + 1), zone := u8 p (i + 2), speed := u8 p (i + 3) }

/-- What REC_INSTALL and REC_AMEND read from a record image (R17); `overrideCount` is byte 15 as received. -/
structure Image where
  key : Key
  strat : Strategy
  overrideCount : Nat
  corr : Int
  ageThreshold : Nat
  deriving DecidableEq, Repr

/-- The override entry at offset `i`. -/
def readOverride (p : List Byte) (i : Nat) : Override := { len := u8 p i, lead := s8 p (i + 1), cool := s8 p (i + 2) }

/-- The record image at offset `i` (R207); entries beyond the count are not read. -/
def readImage (p : List Byte) (i : Nat) : Image :=
  { key := readKey p i
    strat :=
      { pp := u16 p (i + 4), ps := u16 p (i + 6), pc := u16 p (i + 8), dT := s8 p (i + 10)
        tf := u8 p (i + 11), tm := u8 p (i + 12), tl := u8 p (i + 13), tc := u8 p (i + 14)
        overrides := (List.range (min (u8 p (i + 15)) 4)).map fun k => readOverride p (i + 16 + 3 * k)
        dt := u8 p (i + 28) }
    overrideCount := u8 p (i + 15)
    corr := s16 p (i + 29)
    ageThreshold := u24 p (i + 34) }

/-- A filter field of one byte: 255 is any, a value up to `top` names it, anything else is out of bounds (R18). -/
def readFilterField (n top : Nat) : Option (Option Nat) :=
  if n = 255 then some none else if n ≤ top then some (some n) else none

/-- The zone range of a filter: both bytes 255 for any, else 0 ≤ lo ≤ hi ≤ 23 (R18, R207). -/
def readFilterZone (lo hi : Nat) : Option (Option (Nat × Nat)) :=
  if lo = 255 ∧ hi = 255 then some none else if lo ≤ hi ∧ hi ≤ 23 then some (some (lo, hi)) else none

/-- The key filter at offset `i`, or none when it lies outside the bounds of R18. -/
def readFilter (p : List Byte) (i : Nat) : Option KeyFilter := do
  let media ← readFilterField (u8 p i) 7
  let layer ← readFilterField (u8 p (i + 1)) 3
  let zone ← readFilterZone (u8 p (i + 2)) (u8 p (i + 3))
  let speed ← readFilterField (u8 p (i + 4)) 3
  return { media, layer, zone, speed }

/-- The layer settings entry of layer `k` among the four that start at offset `i` (R207). -/
def readLayer (p : List Byte) (i k : Nat) : LayerSettings :=
  { readPower := u8 p (i + 6 * k), ceiling := u16 p (i + 6 * k + 1), ageDefault := u24 p (i + 6 * k + 3) }

def putKey (k : Key) : List Byte := putU8 k.media ++ putU8 k.layer ++ putU8 k.zone ++ putU8 k.speed

def putHandle (h : Handle) : List Byte := putU8 h.index ++ putU8 h.gen

def putFilter (f : KeyFilter) : List Byte :=
  putOpt f.media ++ putOpt f.layer ++ putOpt (f.zone.map Prod.fst) ++ putOpt (f.zone.map Prod.snd) ++ putOpt f.speed

def putOverride (o : Override) : List Byte := putU8 o.len ++ putS8 o.lead ++ putS8 o.cool

/-- An override list of 13 bytes: its count and four entries, those beyond the count sent as 0 (R207). -/
def putOverrides (os : List Override) : List Byte :=
  putU8 os.length ++ (os.flatMap putOverride ++ List.replicate 12 0).take 12

def putLayer (l : LayerSettings) : List Byte := putU8 l.readPower ++ putU16 l.ceiling ++ putU24 l.ageDefault

/-- Powers and shape as the record image sends them (bytes 4..14). -/
def putShape (s : Strategy) : List Byte :=
  putU16 s.pp ++ putU16 s.ps ++ putU16 s.pc ++ putS8 s.dT ++ putU8 s.tf ++ putU8 s.tm ++ putU8 s.tl ++ putU8 s.tc

/-! ### Codes of named values (R207) -/

def RecState.toNat : RecState → Nat
  | .provisional => 1
  | .active => 2
  | .suspect => 3
  | .retiring => 4

def SlotState.toNat : SlotState → Nat
  | .free => 0
  | .known => 1
  | .mounted => 2

def Status.toNat : Status → Nat
  | .ok => 0
  | .busy => 1
  | .unknownRequest => 2
  | .badLength => 3
  | .badField => 4
  | .badOrder => 5
  | .duplicate => 6
  | .notFound => 7
  | .stale => 8
  | .full => 9
  | .locked => 10
  | .inUse => 11
  | .state => 12
  | .noLimits => 13
  | .noDiode => 14

def SegKind.toNat : SegKind → Nat
  | .read => 1
  | .write => 2
  | .trial => 3

def SegKind.ofNat? : Nat → Option SegKind
  | 1 => some .read
  | 2 => some .write
  | 3 => some .trial
  | _ => none

def CreditClass.toNat : CreditClass → Nat
  | .w => 1
  | .r => 2
  | .s => 3

def CreditClass.ofNat? : Nat → Option CreditClass
  | 1 => some .w
  | 2 => some .r
  | 3 => some .s
  | _ => none

def EntryState.toNat : EntryState → Nat
  | .pending => 1
  | .resolving => 2
  | .ready => 3
  | .arming => 4
  | .armed => 5
  | .active => 6
  | .closing => 7

def ResKind.toNat : ResKind → Nat
  | .exact => 1
  | .exactTrial => 2
  | .derived => 3
  | .borrowed => 4

def LaserState.toNat : LaserState → Nat
  | .off => 0
  | .settling => 1
  | .read => 2
  | .write => 3
  | .hold => 4

def ReturnState.toNat : ReturnState → Nat
  | .lit => 1
  | .dark => 2

def ResetCause.toNat : ResetCause → Nat
  | .powerOn => 0
  | .pin => 1
  | .command => 2

def WobbleInterval.toNat : WobbleInterval → Nat
  | .half => 0
  | .one => 1
  | .two => 2
  | .four => 3

def WobbleInterval.ofNat? : Nat → Option WobbleInterval
  | 0 => some .half
  | 1 => some .one
  | 2 => some .two
  | 3 => some .four
  | _ => none

/-- The marks of the Timebase after which an interval ends (R114): ms ticks for 1, 2 or 4 ms, one half-millisecond mark for 0.5 ms. -/
def WobbleInterval.marks : WobbleInterval → Nat
  | .half => 1
  | .one => 1
  | .two => 2
  | .four => 4

def CounterEvent.toNat : CounterEvent → Nat
  | .lookupExact => 1
  | .lookupDerived => 2
  | .lookupBorrowed => 3
  | .lookupMiss => 4
  | .clampCeiling => 5
  | .overdrive => 6
  | .staleWriteback => 7
  | .corrLimit => 8
  | .edgeCollide => 9
  | .shortMark => 10
  | .longMark => 11
  | .trackSkip => 12
  | .writeMs => 13
  | .queueOccupancy => 14
  | .segmentFailed => 15

/-- The counter event code of COUNTER_SET: `some none` is NONE, `none` a code that names nothing (R202, R207). -/
def CounterEvent.ofCode? : Nat → Option (Option CounterEvent)
  | 0 => some none
  | 1 => some (some .lookupExact)
  | 2 => some (some .lookupDerived)
  | 3 => some (some .lookupBorrowed)
  | 4 => some (some .lookupMiss)
  | 5 => some (some .clampCeiling)
  | 6 => some (some .overdrive)
  | 7 => some (some .staleWriteback)
  | 8 => some (some .corrLimit)
  | 9 => some (some .edgeCollide)
  | 10 => some (some .shortMark)
  | 11 => some (some .longMark)
  | 12 => some (some .trackSkip)
  | 13 => some (some .writeMs)
  | 14 => some (some .queueOccupancy)
  | 15 => some (some .segmentFailed)
  | _ => none

/-- The outcomes of a DONE (R101). -/
inductive DoneOutcome where
  | ok
  | cancelled
  | aborted
  | guard
  | noStrategy
  | noTrial
  | posUnknown
  | zoneMismatch
  | speedMismatch
  | hot
  | lowSupply
  | jumpFail
  | focusLost
  deriving DecidableEq, Repr

def DoneOutcome.toNat : DoneOutcome → Nat
  | .ok => 0
  | .cancelled => 1
  | .aborted => 2
  | .guard => 3
  | .noStrategy => 4
  | .noTrial => 5
  | .posUnknown => 6
  | .zoneMismatch => 7
  | .speedMismatch => 8
  | .hot => 9
  | .lowSupply => 10
  | .jumpFail => 11
  | .focusLost => 12

/-- The reasons of a REJECT (R83). -/
inductive RejectReason where
  | hold
  | classViolation
  | creditViolation
  | dupTag
  | noMedia
  | badField
  deriving DecidableEq, Repr

def RejectReason.toNat : RejectReason → Nat
  | .hold => 1
  | .classViolation => 2
  | .creditViolation => 3
  | .dupTag => 4
  | .noMedia => 5
  | .badField => 6

/-- The warning set as one byte (R207). -/
def Warnings.toNat (w : Warnings) : Nat :=
  bit 0 w.suspectSource + bit 1 w.shape + bit 2 w.clamped + bit 3 w.overdrive + bit 4 w.corrLimit + bit 5 w.staleWriteback

/-- The hold cause set as one byte (R207). -/
def HoldCauses.toNat (c : HoldCauses) : Nat :=
  bit 0 c.keepExpired + bit 1 c.keepEarly + bit 2 c.gateEarly + bit 3 c.overpower + bit 4 c.supplyTrip

/-- The focus layer state as three bytes (R207). -/
def putFocus : FocusState → List Byte
  | .unknown => [0, 0, 0]
  | .steady l => putU8 1 ++ putU8 l ++ putU8 0
  | .jumping t a => putU8 2 ++ putU8 t ++ putU8 a

/-! ### Frames and link messages -/

/-- A response frame as the bytes a response read clocks out after the port status byte (R207). -/
def Frame.bytes (f : Frame) : List Byte := putU8 f.status.toNat ++ [f.code] ++ putU16 f.payload.length ++ f.payload

/-- The check byte that makes six bytes sum to 0 modulo 256 (R207). -/
def checkByte (c b1 b2 b3 b4 : Byte) : Byte := 0 - (c + b1 + b2 + b3 + b4)

/-- A link message of a code and four payload bytes (R78). -/
def linkMessage (c b1 b2 b3 b4 : Byte) : List Byte := [c, b1, b2, b3, b4, checkByte c b1 b2 b3 b4]

def readyMessage (tag : Nat) : List Byte := linkMessage 162 (BitVec.ofNat 8 (tag * 16)) 0 0 0

def doneMessage (tag : Nat) (cls : CreditClass) (o : DoneOutcome) (w : Warnings) : List Byte :=
  linkMessage 163 (BitVec.ofNat 8 (tag * 16 + cls.toNat)) (BitVec.ofNat 8 o.toNat) (BitVec.ofNat 8 w.toNat) 0

/-- REJECT; `cls` is the class half of the descriptor as received. -/
def rejectMessage (tag cls : Nat) (r : RejectReason) (returned : Bool) : List Byte :=
  linkMessage 164 (BitVec.ofNat 8 (tag * 16 + cls)) (BitVec.ofNat 8 r.toNat) (if returned then 1 else 0) 0

end Sys2Proof.Machine
end

