-- ==== Sys2Proof/Machine/Flags.lean ====
section
/-! DEFINITION. The output lines and summary flags, each computed from the state that decides it: the pending notice kinds, ATN and
the port status byte (R192, R207), LEN (R167), the level-select lines (R127), and the facts about the queue head and the mounted
slot that other blocks read. -/

namespace Sys2Proof.Machine

/-- The pending notice kinds as a set in the order of R194. -/
def Notices.kinds (n : Notices) : BitVec 13 :=
  BitVec.ofNat 13
    (bit 0 n.aged.isSome + bit 1 n.suspect.isSome + bit 2 n.needsRecord.isSome + bit 3 n.holdEntered + bit 4 n.supplyWarn
      + bit 5 n.tempRange + bit 6 n.diodeTrackLimit + bit 7 n.overdrive + bit 8 n.counterWrap.isSome + bit 9 n.linkFault
      + bit 10 n.positionLost + bit 11 n.focusLost + bit 12 n.reset.isSome)

/-- Whether an enabled notice is pending. -/
def Cpt.noticePending (c : Cpt) : Bool := decide (c.notices.kinds &&& c.settings.enables ≠ 0)

/-- Whether a response frame or a busy reply waits. -/
def Cpt.replyWaiting (c : Cpt) : Bool :=
  c.busyReply.isSome || match c.port with
    | .responseReady _ => true
    | _ => false

/-- The attention line (R192). -/
def Cpt.atn (c : Cpt) : Bool := c.replyWaiting || c.noticePending

/-- The port status byte (R207). -/
def Cpt.statusByte (c : Cpt) : Byte :=
  let state : Byte := if c.replyWaiting then 2 else match c.port with
    | .serving _ => 1
    | _ => 0
  state + if c.noticePending then 4 else 0

/-- The laser enable line (R167). -/
def Lsc.len (l : Lsc) : Bool :=
  match l.laser with
  | .off => false
  | .settling | .read | .write => true
  | .hold => decide (l.ret = some .lit) && !l.causes.supplyTrip && !l.causes.overpower

/-- Whether HOLD keeps the READ level lit (R148, R166): the same condition that holds LEN high. -/
def Lsc.holdLit (l : Lsc) : Bool := decide (l.ret = some .lit) && !l.causes.supplyTrip && !l.causes.overpower

/-- The two level-select lines (R127). -/
def Level.lines : Level → Bool × Bool
  | .read => (false, false)
  | .space => (false, true)
  | .peak => (true, true)
  | .cool => (true, false)

/-- Whether a cause is in the set. -/
def HoldCauses.has (c : HoldCauses) : HoldCause → Bool
  | .keepExpired => c.keepExpired
  | .keepEarly => c.keepEarly
  | .gateEarly => c.gateEarly
  | .overpower => c.overpower
  | .supplyTrip => c.supplyTrip

/-- The set with a cause joined. -/
def HoldCauses.join (c : HoldCauses) : HoldCause → HoldCauses
  | .keepExpired => { c with keepExpired := true }
  | .keepEarly => { c with keepEarly := true }
  | .gateEarly => { c with gateEarly := true }
  | .overpower => { c with overpower := true }
  | .supplyTrip => { c with supplyTrip := true }

/-! ### The queue -/

/-- Whether an entry is a WRITE or a TRIAL. -/
def Entry.isWrite (e : Entry) : Bool := decide (e.kind ≠ .read)

/-- The sources of an entry (R11): those of its working copy. -/
def Entry.sources (e : Entry) : List Handle :=
  match e.copy with
  | .strategy wc => wc.sources
  | _ => []

/-- Whether the entry names a record as a source. -/
def Entry.uses (e : Entry) (index : Nat) : Bool := e.sources.any (·.index == index)

/-- Whether the entry is READY with a DERIVED or BORROWED copy whose effective key has this media slot, layer and speed (R60). -/
def Entry.approximates (e : Entry) (k : Key) : Bool :=
  match e.copy with
  | .strategy wc =>
    decide ((wc.kind = .derived ∨ wc.kind = .borrowed) ∧ wc.key.media = k.media ∧ wc.key.layer = k.layer
      ∧ wc.key.speed = k.speed)
  | _ => false

/-- The governing entry (R149): the head when it is ARMED, ACTIVE or CLOSING. -/
def Sgq.governing (q : Sgq) : Option Entry :=
  match q.queue with
  | e :: _ => if e.state = .armed ∨ e.state = .active ∨ e.state = .closing then some e else none
  | [] => none

/-- The ACTIVE WRITE or TRIAL head with its working copy. -/
def Sgq.activeWrite (q : Sgq) : Option (Entry × WorkingCopy) :=
  match q.queue with
  | e :: _ =>
    if e.state = .active then
      match e.copy with
      | .strategy wc => some (e, wc)
      | _ => none
    else none
  | [] => none

/-- Occupied entries charged to a class (R80). -/
def Sgq.occupied (q : Sgq) (c : CreditClass) : Nat := (q.queue.filter (·.cls = c)).length

/-- The allotment of a class (R80). -/
def CreditClass.allotment : CreditClass → Nat
  | .w => 2
  | .r => 1
  | .s => 3

/-- The kinds that may charge a class (R80). -/
def CreditClass.admits : CreditClass → SegKind → Bool
  | .w, .read => false
  | .w, _ => true
  | .r, .read => true
  | .r, _ => false
  | .s, _ => true

/-- The lowest FREE position (R82).  With every class at or below its allotment one is FREE whenever a class is below it. -/
def Sgq.freePos (q : Sgq) : Nat :=
  ((List.range Config.entries).find? fun p => q.queue.all (·.pos ≠ p)).getD 0

/-! ### The tables -/

/-- The mounted slot's index (R21). -/
def State.mountedIndex (s : State) : Option Nat := s.mst.findIdx? (·.state = .mounted)

/-- The mounted slot. -/
def State.mountedSlot (s : State) : Option Slot := s.mst.find? (·.state = .mounted)

/-- The record in a place. -/
def State.record (s : State) (i : Nat) : Option Record := (s.stb[i]?).bind (·.held)

/-- The effective key of a WRITE or TRIAL entry (R47): the key it asked for, under the mounted slot. -/
def State.entryKey (s : State) (e : Entry) : Key :=
  match e.copy with
  | .strategy wc => wc.key
  | _ => { media := s.mountedIndex.getD 0, layer := e.layer, zone := e.zone, speed := e.speed }

/-- The key an entry's counter events carry: none for a READ (R101, R151). -/
def State.eventKey (s : State) (e : Entry) : Option Key := if e.kind = .read then none else some (s.entryKey e)

/-- Whether a record is ACTIVE or SUSPECT (R40). -/
def Record.usable (r : Record) : Bool := decide (r.state = .active ∨ r.state = .suspect)

/-- Whether a key filter matches a key (R19). -/
def KeyFilter.matches (f : KeyFilter) (k : Key) : Bool :=
  f.media.all (· == k.media) && f.layer.all (· == k.layer)
    && f.zone.all (fun r => decide (r.1 ≤ k.zone ∧ k.zone ≤ r.2)) && f.speed.all (· == k.speed)

end Sys2Proof.Machine
end

