-- ==== Sys2Proof/Machine/Ops.lean ====
section
/-! DEFINITION. The named operations over the state that the meanings share: raising notices and counter events, sending link
messages, pins and record places, ending entries, the write-backs, the working of the wait list, the code computation and its
hand-over, and the port's answers. -/

namespace Sys2Proof.Machine

/-! ### Notices and counters -/

/-- The state with its notice set changed. -/
def State.withNotices (s : State) (f : Notices → Notices) : State :=
  { s with cpt := { s.cpt with notices := f s.cpt.notices } }

/-- LINK_FAULT is raised (R194). -/
def linkFault (s : State) : State := s.withNotices ({ · with linkFault := true })

/-- Whether a counter counts an event (R203). -/
def Counter.counts (c : Counter) (ev : CounterEvent) (key : Option Key) : Bool :=
  decide (c.event = some ev) && key.all (c.filter.matches ·)

/-- The counter after an event of an amount, which wraps at 2^32 (R203, R204). -/
def Counter.add (ev : CounterEvent) (key : Option Key) (amount : Nat) (c : Counter) : Counter :=
  if c.counts ev key then { c with value := (c.value + amount) % Config.counterModulus } else c

/-- Whether the event makes the counter wrap (R204). -/
def Counter.wraps (c : Counter) (ev : CounterEvent) (key : Option Key) (amount : Nat) : Bool :=
  c.counts ev key && decide (Config.counterModulus ≤ c.value + amount)

/-- The set of the numbers, from `k` on, of the counters that wrap at an event. -/
def wrapSet (ev : CounterEvent) (key : Option Key) (amount : Nat) : Nat → List Counter → BitVec 4
  | _, [] => 0
  | k, c :: cs => (if c.wraps ev key amount then BitVec.ofNat 4 (2 ^ k) else 0) ||| wrapSet ev key amount (k + 1) cs

/-- The notice set after COUNTER_WRAP is raised for the counters of a set; an empty set raises nothing (R204). -/
def Notices.wrap (n : Notices) (w : BitVec 4) : Notices :=
  if w = 0 then n else { n with counterWrap := some (n.counterWrap.getD 0 ||| w) }

/-- A counter event reaches the Activity Counters (R203). -/
def countEvent (ev : CounterEvent) (key : Option Key) (amount : Nat) (s : State) : State :=
  { s with
    act := s.act.map (Counter.add ev key amount)
    cpt := { s.cpt with notices := s.cpt.notices.wrap (wrapSet ev key amount 0 s.act) } }

/-! ### The outgoing link queue -/

/-- A message is sent: it joins the outgoing queue, or is discarded with LINK_FAULT when the queue holds 32 (R79). -/
def send (m : List Byte) (s : State) : State :=
  if s.flk.out.length < Config.outgoing then { s with flk := { s.flk with out := s.flk.out ++ [m] } } else linkFault s

/-! ### Record places and pins -/

/-- A place's content changed. -/
def State.withPlace (s : State) (i : Nat) (f : Place → Place) : State := { s with stb := s.stb.modify i f }

/-- A slot's fields changed. -/
def State.withSlot (s : State) (i : Nat) (f : Slot → Slot) : State := { s with mst := s.mst.modify i f }

/-- The record in a place changed, when it holds one. -/
def State.withRecord (s : State) (i : Nat) (f : Record → Record) : State :=
  s.withPlace i fun p => { p with held := p.held.map f }

/-- A place becomes FREE, keeping its generation, and its slot's record count goes down by one (R3, R10, R33). -/
def freePlace (i : Nat) (s : State) : State :=
  match s.record i with
  | some r => (s.withPlace i ({ · with held := none })).withSlot r.key.media fun m => { m with records := m.records - 1 }
  | none => s

/-- One pin is added to a record (R48). -/
def pin (i : Nat) (s : State) : State := s.withRecord i fun r => { r with pins := r.pins + 1 }

/-- One pin is released from a record; a RETIRING record at pin count 0 becomes FREE in the same event (R11, R74). -/
def unpin (i : Nat) (s : State) : State :=
  let s := s.withRecord i fun r => { r with pins := r.pins - 1 }
  match s.record i with
  | some r => if r.state = .retiring ∧ r.pins = 0 then freePlace i s else s
  | none => s

/-- An entry with sources ends before becoming ACTIVE: one pin is released from each source (R69). -/
def release (e : Entry) (s : State) : State := e.sources.foldl (fun s h => unpin h.index s) s

/-! ### The queue -/

/-- The entry at a position changed. -/
def State.withEntry (s : State) (pos : Nat) (f : Entry → Entry) : State :=
  { s with sgq := { s.sgq with queue := s.sgq.queue.map fun e => if e.pos = pos then f e else e } }

/-- The head changed. -/
def State.withHead (s : State) (f : Entry → Entry) : State :=
  { s with sgq := { s.sgq with queue := match s.sgq.queue with
      | e :: es => f e :: es
      | [] => [] } }

/-- The entry leaves the queue (R82): a lookup in flight for it goes on without it (R50), and a jump it requested is charged to no
entry (R88). -/
def dropEntry (e : Entry) (s : State) : State :=
  { s with
    sgq :=
      { queue := s.sgq.queue.filter (·.pos ≠ e.pos)
        requester := if s.sgq.requester = some e.tag then none else s.sgq.requester }
    rse :=
      { s.rse with inFlight := if s.rse.inFlight = .segment e.pos e.tag then .gone e.pos e.tag else s.rse.inFlight } }

/-- DONE (R101): the entry becomes FREE and DONE is sent with its outcome, class and warning set; an outcome other than OK raises
SEGMENT_FAILED, with no key for a READ. -/
def finishEntry (o : DoneOutcome) (e : Entry) (s : State) : State :=
  let key := s.eventKey e
  let s := send (doneMessage e.tag e.cls o e.warnings) (dropEntry e s)
  if o = .ok then s else countEvent .segmentFailed key 1 s

/-- An entry ends with a release of its sources (R69) and a DONE. -/
def endEntry (o : DoneOutcome) (e : Entry) (s : State) : State := finishEntry o e (release e s)

/-! ### Write-backs (R69 to R74) -/

/-- The on-time after a tally is added (R70). -/
def addOnTime (onTime tally : Nat) : Nat := min Config.maxOnTime (onTime + tally)

/-- Whether an addition crosses the age threshold (R9). -/
def crosses (threshold before after : Nat) : Bool := decide (threshold ≠ 0 ∧ before < threshold ∧ threshold ≤ after)

/-- The tally is added to a source and aging is judged (R70). -/
def addTally (i tally : Nat) (s : State) : State :=
  match s.record i with
  | none => s
  | some r =>
    let after := addOnTime r.onTime tally
    let aged := crosses r.ageThreshold r.onTime after && decide (r.state ≠ .retiring)
    let s := s.withRecord i fun r =>
      { r with onTime := after, state := if aged ∧ r.state = .active then .suspect else r.state }
    if aged then s.withNotices ({ · with aged := some r.key }) else s

/-- The final correction is stored on a generation match (R71), and the source is marked when the segment's correction ran to a
limit (R72). -/
def storeCorrection (h : Handle) (corr : Int) (limit : Bool) (s : State) : State :=
  match s.stb[h.index]? with
  | some { gen, held := some r } =>
    if gen = h.gen then
      let marks := limit && r.usable
      let s := s.withRecord h.index fun r =>
        { r with corr := corr, state := if marks then .suspect else r.state }
      if marks then s.withNotices ({ · with suspect := some r.key }) else s
    else s
  | _ => s

/-- Whether a source's generation is still the copied one. -/
def State.generationMatches (s : State) (h : Handle) : Bool := (s.stb[h.index]?).any (·.gen == h.gen)

/-- Whether a resolution kind stores its correction (R71). -/
def ResKind.stores : ResKind → Bool
  | .exact | .exactTrial => true
  | .derived | .borrowed => false

/-- A partial write-back (R69): per source, the tally with aging, then the pin. -/
def partialWriteBack (wc : WorkingCopy) (s : State) : State :=
  wc.sources.foldl (fun s h => unpin h.index (addTally h.index wc.tally s)) s

/-- A full write-back at the sources (R69): per source, the tally with aging, the correction and marking for EXACT and EXACT_TRIAL,
then the pin. -/
def fullWriteBack (wc : WorkingCopy) (limit : Bool) (s : State) : State :=
  wc.sources.foldl
    (fun s h =>
      let s := addTally h.index wc.tally s
      let s := if wc.kind.stores then storeCorrection h wc.running limit s else s
      unpin h.index s)
    s

/-- Whether a full write-back raises NEEDS_RECORD (R73). -/
def needsRecord (wc : WorkingCopy) (limit : Bool) (deriveWarn : Nat) : Bool :=
  !wc.kind.stores && (limit || decide (deriveWarn ≤ (wc.running - wc.initial).natAbs))

/-- An ACTIVE write ends otherwise than by the gate: a partial write-back and a DONE (R69). -/
def endActiveWrite (o : DoneOutcome) (wc : WorkingCopy) (e : Entry) (s : State) : State :=
  finishEntry o e (partialWriteBack wc s)

/-! ### Leaving WRITE -/

/-- A closed generator (R125, R127, R142): nothing read and nothing to output, no code set; only whether the T of WDATA read last was of a
mark is kept, for a mark under way when a write period opens is not written (R134). -/
def Pgn.closed (g : Pgn) : Pgn := { Pgn.reset with run := { mark := g.run.mark, len := 0, own := false } }

/-- The write period closes (R135): READ is output, and the edge list, the tail, the reading and the held space reading are
discarded.  The accumulations of the Power Loop are emptied with it (R156, R159). -/
def closeWritePeriod (s : State) : State :=
  { s with
    pgn := { s.pgn.closed with presented := s.pgn.presented, waiting := s.pgn.waiting }
    plp := { s.plp with returns := ReturnAcc.empty, track := TrackAcc.empty } }

/-- The laser leaves WRITE for another state: the write period closes and the keepalive period stops (R172, R178). -/
def leaveWrite (l : LaserState) (s : State) : State :=
  let s := closeWritePeriod s
  { s with lsc := { s.lsc with laser := l }, wgd := { s.wgd with keepalive := none } }

/-! ### Flushes (R99, R100) -/

/-- One entry of a flush: a CLOSING entry is left, an ACTIVE write gets a partial write-back and `o`, any other entry a release and
ABORTED. -/
def flushEntry (o : DoneOutcome) (s : State) (e : Entry) : State :=
  if e.state = .closing then s
  else if e.state = .active then
    match e.copy with
    | .strategy wc => endActiveWrite o wc e s
    | _ => finishEntry .aborted e s
  else endEntry .aborted e s

/-- Every occupied entry that is not CLOSING is ended in queue order. -/
def flush (o : DoneOutcome) (s : State) : State := s.sgq.queue.foldl (flushEntry o) s

/-! ### Arming (R86 to R90) -/

/-- A judgement of the arming checks: every check passed, a check waits, a jump is requested, or a check failed. -/
inductive Verdict where
  | pass
  | wait
  | jump
  | fail (o : DoneOutcome)
  deriving DecidableEq, Repr

/-- The checks of a WRITE or TRIAL head after the focus (R87, rows 3 to 7). -/
def judgeWrite (s : State) (e : Entry) : Verdict :=
  if !s.pkp.valid then .fail .posUnknown
  else if !zoneCheck s.pkp.zoneMap e.zone s.pkp.sled s.cpt.settings.guardBand then .fail .zoneMismatch
  else
    match s.pkp.measurement with
    | none => .wait
    | some m =>
      if speedClass s.pkp.windows m ≠ some e.speed then .fail .speedMismatch
      else if s.cpt.settings.hotLimit ≤ s.plp.temp then .fail .hot
      else if s.wgd.supplyWarn then .fail .lowSupply
      else .pass

/-- The arming checks in order (R87, R88). -/
def judge (s : State) (e : Entry) : Verdict :=
  if s.lsc.laser ≠ .read then .wait
  else
    match s.pkp.focus with
    | .jumping _ _ => .wait
    | .unknown => .jump
    | .steady l => if l ≠ e.layer then .jump else if e.kind = .read then .pass else judgeWrite s e

/-- A jump to a layer is requested for the head (R88, R118). -/
def requestJump (e : Entry) (s : State) : State :=
  { s with
    pkp :=
      { s.pkp with
        focus := .jumping e.layer s.cpt.settings.jumpRetries, jumpTimer := some s.cpt.settings.jumpTimeout
        fjTarget := e.layer, fjStrobe := true }
    sgq := { s.sgq with requester := some e.tag } }

/-- The effective ceiling of a layer: the smaller of the mounted slot's layer ceiling and Pd; Pd when no slot is mounted (R31). -/
def State.effectiveCeiling (s : State) (layer : Nat) : Nat :=
  match s.mountedSlot.bind (·.layers[layer]?), s.plp.limits with
  | some l, some lim => min l.ceiling lim.pd
  | some l, none => l.ceiling
  | none, some lim => lim.pd
  | none, none => 0

/-- The read power an entry runs with: its copy's for a READ, its layer's in the mounted slot otherwise (R89). -/
def State.captureReadPower (s : State) (e : Entry) : Nat :=
  match e.copy with
  | .read p => p
  | _ => ((s.mountedSlot.bind (·.layers[e.layer]?)).map (·.readPower)).getD 0

/-- The head is armed (R89): its values are captured, READY is sent, and a READ goes on to ACTIVE. -/
def armHead (e : Entry) (s : State) : State :=
  let captured := { ceiling := s.effectiveCeiling e.layer, readPower := s.captureReadPower e }
  send (readyMessage e.tag)
    (s.withHead ({ · with state := if e.kind = .read then .active else .armed, captured := some captured }))

/-- The head, which is ARMING, is judged; `next` goes on with the queue after a failed check (R86, R90). -/
def judgeHead (next : State → State) (e : Entry) (s : State) : State :=
  match judge s e with
  | .wait => s
  | .jump => requestJump e s
  | .pass => armHead e s
  | .fail o => next (endEntry o e s)

/-- A head that is READY begins arming (R86); after a failed check the next head does the same.  `fuel` bounds the heads. -/
def advance : Nat → State → State
  | 0, s => s
  | fuel + 1, s =>
    match s.sgq.queue with
    | e :: _ =>
      if e.state = .ready then
        judgeHead (advance fuel) { e with state := .arming } (s.withHead ({ · with state := .arming }))
      else s
    | [] => s

/-- The queue goes on after its head has changed. -/
def goOn (s : State) : State := advance s.sgq.queue.length s

/-- An ARMING head is judged again (R86). -/
def judgeAgain (s : State) : State :=
  match s.sgq.queue with
  | e :: _ => if e.state = .arming then judgeHead goOn e s else s
  | [] => s

/-! ### The wait list (R39) -/

/-- The oldest PENDING entry of kind WRITE or TRIAL. -/
def Sgq.oldestPending (q : Sgq) : Option Entry := q.queue.find? fun e => decide (e.state = .pending) && e.isWrite

/-- The arbiter: when the engine is free it takes the next requester (R39). -/
def arbiter (s : State) : State :=
  if s.rse.inFlight ≠ .idle then s
  else
    match s.rse.waiting, s.sgq.oldestPending with
    | some r, none => { s with rse := { inFlight := .host r, waiting := none, waitCount := 0 } }
    | some r, some e =>
      if s.rse.waitCount = 2 then { s with rse := { inFlight := .host r, waiting := none, waitCount := 0 } }
      else { s.withEntry e.pos ({ · with state := .resolving }) with rse := { s.rse with inFlight := .segment e.pos e.tag } }
    | none, some e =>
      { s.withEntry e.pos ({ · with state := .resolving }) with rse := { s.rse with inFlight := .segment e.pos e.tag } }
    | none, none => s

/-- One READY entry goes back to PENDING: its pins are released and its copy and warning set discarded (R51). -/
def sendBack (s : State) (e : Entry) : State :=
  (release e s).withEntry e.pos ({ · with state := .pending, copy := .none, warnings := Warnings.empty })

/-- The READY entries a change sends back, in queue order (R58). -/
def State.sentBack (s : State) (p : Entry → Bool) : List Entry :=
  s.sgq.queue.filter fun e => decide (e.state = .ready) && p e

/-- The READY entries that satisfy `p` re-resolve, each once (R51, R58). -/
def reResolve (p : Entry → Bool) (s : State) : State := (s.sentBack p).foldl sendBack s

/-! ### The code set (R148 to R155) -/

/-- The code set as a function of the level codes. -/
structure Computed where
  read : LevelCode
  space : LevelCode
  peak : LevelCode
  cool : LevelCode
  deriving DecidableEq, Repr

def LevelCode.dark : LevelCode := { code := 0, clamped := false, beyond := false }

/-- The read target (R149): read power and ceiling of the governing entry, or the idle read. -/
def State.readTarget (s : State) (pd : Nat) : Captured :=
  match s.sgq.governing.bind (·.captured) with
  | some c => c
  | none => { ceiling := pd, readPower := s.plp.diode.defaultRead }

/-- The level codes of R148 to R153 for the state as it stands.  Without limits no level is lit. -/
def State.computeCodes (s : State) : Computed :=
  let allDark := { read := .dark, space := .dark, peak := .dark, cool := .dark }
  match s.plp.limits with
  | none => allDark
  | some lim =>
    let line := diodeLine s.plp.diode s.plp.temp
    let target := s.readTarget lim.pd
    let lit := { allDark with read := levelCode line lim.imax (min target.ceiling lim.pd) target.readPower }
    match s.lsc.laser with
    | .off => allDark
    | .settling | .read => lit
    | .hold => if s.lsc.holdLit then lit else allDark
    | .write =>
      match s.sgq.activeWrite with
      | some (_, wc) =>
        let level p := levelCode line lim.imax (min target.ceiling lim.pd) (corrected p wc.running)
        { lit with space := level wc.strat.ps, peak := level wc.strat.pp, cool := level wc.strat.pc }
      | none => lit

def Computed.codes (c : Computed) : CodeSet :=
  { read := c.read.code, space := c.space.code, peak := c.peak.code, cool := c.cool.code }

def Computed.levels (c : Computed) : List LevelCode := [c.read, c.space, c.peak, c.cool]

/-- What one level reports (R151, R153): warnings of the governing entry, counter events, and the notice OVERDRIVE. -/
def reportLevel (key : Option Key) (s : State) (l : LevelCode) : State :=
  let s := if l.clamped then countEvent .clampCeiling key 1 s else s
  if l.beyond then (countEvent .overdrive key 1 s).withNotices ({ · with overdrive := true }) else s

/-- The warnings CLAMPED and OVERDRIVE join the warning set of the governing entry. -/
def warnGoverning (c : Computed) (s : State) : State :=
  match s.sgq.governing with
  | some _ =>
    s.withHead fun e =>
      { e with warnings :=
          { e.warnings with
            clamped := e.warnings.clamped || c.levels.any (·.clamped)
            overdrive := e.warnings.overdrive || c.levels.any (·.beyond) } }
  | none => s

/-- The hand-over of R140: presented at once at a change of laser state or while the write period is closed, else waiting. -/
def handOver (laserChanged : Bool) (codes : CodeSet) (s : State) : State :=
  if laserChanged ∨ s.lsc.laser ≠ .write then { s with pgn := { s.pgn with presented := codes, waiting := none } }
  else { s with pgn := { s.pgn with waiting := some codes } }

/-- A new code set is computed, reported and handed over (R155). -/
def recompute (laserChanged : Bool) (s : State) : State :=
  let c := s.computeCodes
  let key := s.sgq.governing.bind s.eventKey
  let s := if (diodeLine s.plp.diode s.plp.temp).held then s.withNotices ({ · with diodeTrackLimit := true }) else s
  handOver laserChanged c.codes (c.levels.foldl (reportLevel key) (warnGoverning c s))

/-- Whether an event's change of state is a cause of R155: a change of laser state, of the governing entry, or of the cause set in
HOLD. -/
def recomputeDue (before after : State) : Bool :=
  decide (before.lsc.laser ≠ after.lsc.laser
    ∨ before.sgq.governing.map (·.pos) ≠ after.sgq.governing.map (·.pos)
    ∨ (after.lsc.laser = .hold ∧ before.lsc.causes ≠ after.lsc.causes))

/-- The end of an event that may change the laser state, the governing entry or the cause set: one new code set when it did. -/
def settleCodes (before after : State) : State :=
  if recomputeDue before after then recompute (decide (before.lsc.laser ≠ after.lsc.laser)) after else after

/-! ### Holds (R174) -/

/-- HOLD is entered from another laser state (R174): the return state is recorded, the timers stop, the write period closes if it was
open, the queue is flushed and HOLD_ENTERED is raised. -/
def enterHold (c : HoldCause) (s : State) : State :=
  let ret := if s.lsc.laser = .off then ReturnState.dark else .lit
  let s := if s.lsc.laser = .write then leaveWrite .hold s else s
  let s := { s with lsc := { laser := .hold, causes := s.lsc.causes.join c, settle := none, ret := some ret } }
  (flush .guard s).withNotices ({ · with holdEntered := true })

/-- A hold cause is raised at the Laser State Controller (R173, R174). -/
def raiseCause (c : HoldCause) (s : State) : State :=
  if s.lsc.laser = .hold then
    if s.lsc.causes.has c then s
    else { s with lsc := { s.lsc with causes := s.lsc.causes.join c } }.withNotices ({ · with holdEntered := true })
  else enterHold c s

/-! ### The command port (R189, R190) -/

/-- A response frame is formed: the port passes to RESPONSE_READY. -/
def answer (code : Byte) (status : Status) (payload : List Byte) (s : State) : State :=
  { s with cpt := { s.cpt with port := .responseReady { status, code, payload } } }

/-- An answer without payload. -/
def answerStatus (code : Byte) (status : Status) (s : State) : State := answer code status [] s

/-- The end of a request write (R188): no transaction is in progress, and the port status byte `b` and then 0 have gone out. -/
def endWrite (b : Byte) (body : List Byte) (s : State) : State :=
  { s with cpt := { s.cpt with reading := none, writing := none, spiOut := b :: List.replicate body.length 0 } }

/-- A request write with a code, taken by `take` (R188): its first byte fixes the port status byte, its release is the event.  A release
that no first byte of that code began, which a reset has discarded or another transaction ended, is no transaction. -/
def transaction (code : Byte) (w : HostWrite) (take : List Byte → State → State) (s : State) : State :=
  match w with
  | .firstByte => { s with cpt := { s.cpt with reading := none, writing := some { code, statusByte := s.cpt.statusByte } } }
  | .release body =>
    match s.cpt.writing with
    | some f => if f.code = code then endWrite f.statusByte body (take body s) else s
    | none => s
  | .whole body => endWrite s.cpt.statusByte body (take body s)

/-- Whether the frame and its length field fit a payload length (R189). -/
def lengthFits (body : List Byte) (len : Nat) : Bool :=
  decide (2 ≤ body.length ∧ u16 body 0 = body.length - 2 ∧ u16 body 0 = len)

/-- A request write that has been received whole (R189): dropped into the busy reply unless the port is IDLE, BAD_LENGTH when its frame does
not fit, else handed to the block that owns the state concerned, with its payload. -/
def takeRequest (code : Byte) (len : Nat) (serve : List Byte → State → State) (body : List Byte) (s : State) : State :=
  if s.cpt.port = .idle then
    if lengthFits body len then serve (body.drop 2) s else answerStatus code .badLength s
  else { s with cpt := { s.cpt with busyReply := some code } }

/-- A request write of the request `code`, whose payload has `len` bytes (R188, R189). -/
def request (code : Byte) (len : Nat) (w : HostWrite) (serve : List Byte → State → State) (s : State) : State :=
  transaction code w (takeRequest code len serve) s

end Sys2Proof.Machine
end

