-- ==== Sys2Proof/Machine/Counters.lean ====
section
/-! DEFINITION. The requests of the Activity Counters and the ms tick (spec/10_command_port_notices_and_counters.md, R202 to R206; R2,
R93, R103, R178, R117). -/

namespace Sys2Proof.Machine

/-- R202: COUNTER_SET. -/
def serveCounterSet (p : List Byte) (s : State) : State :=
  if 3 < u8 p 0 then answerStatus 112 .badField s
  else
    match CounterEvent.ofCode? (u8 p 1) with
    | none => answerStatus 112 .badField s
    | some event =>
      match readFilter p 2 with
      | none => answerStatus 112 .badField s
      | some filter => answerStatus 112 .ok { s with act := s.act.set (u8 p 0) { event, filter, value := 0 } }

/-- COUNTER_SET. -/
def execCounterSet (w : HostWrite) (s : State) : Host.Outcome State Fault Refusal :=
  .next (request 112 7 w serveCounterSet s)

/-- A counter as COUNTER_READ sends it (R205). -/
def Counter.image (c : Counter) : List Byte :=
  putU8 ((c.event.map (·.toNat)).getD 0) ++ putFilter c.filter ++ putU32 c.value

/-- R205: COUNTER_READ. -/
def serveCounterRead (p : List Byte) (s : State) : State :=
  if 15 < u8 p 0 then answerStatus 113 .badField s
  else
    answer 113 .ok (s.act.flatMap Counter.image)
      { s with act := s.act.mapIdx fun k c => if member (u8 p 0) k then { c with value := 0 } else c }

/-- COUNTER_READ. -/
def execCounterRead (w : HostWrite) (s : State) : Host.Outcome State Fault Refusal :=
  .next (request 113 1 w serveCounterRead s)

/-- The tick at the Segment Queue: the ACTIVE write's tally and WRITE_MS (R93), and QUEUE_OCCUPANCY (R103). -/
def tickQueue (s : State) : State :=
  let occupied := s.sgq.queue.length
  let s := match s.sgq.activeWrite with
    | some (_, wc) =>
      countEvent .writeMs (some wc.key) 1
        (s.withHead ({ · with copy := .strategy { wc with tally := min Config.maxOnTime (wc.tally + 1) } }))
    | none => s
  countEvent .queueOccupancy none occupied s

/-- The tick at the Write Guard (R178): it adds 1 to the keepalive count, unless it has reached the guard before by an expiry (R180). -/
def Wgd.tick (w : Wgd) : Wgd :=
  { w with
    keepalive := if w.tickTaken then w.keepalive else w.keepalive.map fun k => { k with count := min k.k (k.count + 1) }
    tickTaken := false }

/-- The marks of the Timebase that an ms tick adds to the running wobble interval (R2, R114): itself, and for an interval of 0.5 ms the
half-millisecond mark before it when no interval has ended there. -/
def Pkp.tickMarks (k : Pkp) : Nat := if k.interval = .half ∧ k.halfPassed = false then 2 else 1

/-- The tick at the timers: the Write Guard (R178), the settle and jump timers (R2), the wobble interval (R114), the temperature
period (R146), and the FJREQ strobe, which is withdrawn (R117). -/
def tickTimers (s : State) : State :=
  { s with
    wgd := s.wgd.tick
    lsc := { s.lsc with settle := s.lsc.settle.map (· - 1) }
    pkp :=
      { s.pkp with
        jumpTimer := s.pkp.jumpTimer.map (· - 1), wobMarks := s.pkp.wobMarks + s.pkp.tickMarks, halfPassed := false
        fjStrobe := false }
    plp := { s.plp with tempTicks := s.plp.tempTicks + 1 } }

/-- MS_TICK.  It advances the tally and the keepalive count in one event, where R186 lets a STATUS and a QUEUE_READ taken at one tick show
one of them advanced and the other not: the model's choice (log entry 30), apart only where the tick has expired the period before (R180). -/
def execMsTick (s : State) : Host.Outcome State Fault Refusal := .next (tickTimers (tickQueue s))

end Sys2Proof.Machine
end

