-- ==== Sys2Proof/Machine/Pulse.lean ====
section
/-! DEFINITION. The Pulse Generator (spec/07_pulse_trains.md, R125 to R142): reading WDATA T by T, building the trains of the marks
read, and the events of the output timeline that present codes, change the level and read the midpoint of a space. -/

namespace Sys2Proof.Machine

/-! ### Building a train (R128 to R133) -/

/-- The effective lead offset and cool gap of a mark (R128), and how many of the two were held. -/
structure Effective where
  lead : Int
  cool : Int
  holds : Nat
  deriving DecidableEq, Repr

/-- R128: an override entry of the mark's length adjusts both, each sum held within its field's range. -/
def effective (st : Strategy) (n : Nat) : Effective :=
  match if 2 ≤ n ∧ n ≤ 8 then st.overrides.find? (·.len == n) else none with
  | some o =>
    let lead := st.dT + o.lead
    let cool := (st.tc : Int) + o.cool
    { lead := hold (-16) 15 lead, cool := hold 0 64 cool
      holds := (if hold (-16) 15 lead = lead then 0 else 1) + if hold 0 64 cool = cool then 0 else 1 }
  | none => { lead := st.dT, cool := st.tc, holds := 0 }

/-- A pulse (R129). -/
def pulse (rise : Int) (width : Nat) : List Edge := [{ pos := rise, level := .peak }, { pos := rise + width, level := .cool }]

/-- The nominal edges of the first pulse and of the middle pulses 1 to `k` of a train, from position 0 of its mark (R129). -/
def openingEdges (st : Strategy) (lead : Int) (k : Nat) : List Edge :=
  pulse lead st.tf ++ (List.range k).flatMap fun (j : Nat) => pulse (32 * ((j : Int) + 2)) st.tm

/-- The nominal edges of a train, in order, from position 0 of its mark (R129). -/
def nominalEdges (st : Strategy) (lead : Int) (n : Nat) : List Edge :=
  openingEdges st lead (n - 3) ++ if 3 ≤ n then pulse (32 * ((n : Int) - 1)) st.tl else []

/-- Edges moved by `d` along the timeline. -/
def shiftEdges (d : Int) (edges : List Edge) : List Edge := edges.map fun e => { e with pos := e.pos + d }

/-- One nominal edge against the edges retained so far, latest first, with the count of dropped pairs (R132). -/
def retain (acc : List Edge × Nat) (e : Edge) : List Edge × Nat :=
  match acc.1 with
  | [] => ([e], acc.2)
  | top :: rest => if top.pos < e.pos then (e :: top :: rest, acc.2) else (rest, acc.2 + 1)

/-- The edges retained when nominal edges are added behind those of a train, in order, and the count of dropped pairs (R132). -/
def retainBehind (edges more : List Edge) : List Edge × Nat :=
  let r := more.foldl retain (edges.reverse, 0)
  (r.1.reverse, r.2)

/-- The retained edges of a train and the count of dropped pairs (R132). -/
def retained (edges : List Edge) : List Edge × Nat := retainBehind [] edges

/-- The edge list with a train added behind the tail of the train before it, and how many collisions with that tail (R133).  A first rise at
or before the previous final fall merges the two trains; one before the cool-gap end cuts the gap short; one at the cool-gap end takes its
place. -/
def meetTail (old : List Edge) (tail : Option Tail) (train : List Edge) : List Edge × Nat :=
  match tail, train with
  | some t, first :: more =>
    if first.pos ≤ t.fall then (old.filter (·.pos < t.fall) ++ more, 1)
    else if first.pos < t.gapEnd then (old.filter (·.pos < t.gapEnd) ++ train, 1)
    else (old.filter (·.pos < first.pos) ++ train, 0)
  | _, _ => (old ++ train, 0)

/-- The edge list with its last fall followed by a cool gap; a cool gap of 0 goes from PEAK to SPACE at the fall (R129). -/
def withGap (edges : List Edge) (fall gap : Int) : List Edge :=
  if gap = 0 then edges.dropLast ++ [{ pos := fall, level := .space }]
  else edges ++ [{ pos := fall + gap, level := .space }]

/-- The train whose final fall ends the edge list gets its cool gap and becomes the tail (R129, R133). -/
def Pgn.closeTrain (gap : Int) (g : Pgn) : Pgn :=
  let fall := (g.edges.getLast?.map (·.pos)).getD 0
  { g with edges := withGap g.edges fall gap, tail := some { fall, gapEnd := fall + gap } }

/-- The peak sample of a mark at `start` comes up (R137). -/
def Pgn.expectPeak (st : Strategy) (start lead : Int) (g : Pgn) : Pgn :=
  { g with peaks := if 32 ≤ st.tf then g.peaks ++ [start + lead + rnd st.tf 2] else g.peaks }

/-- The return sample of a mark of `n` T at `start` comes up (R138). -/
def Pgn.expectReturn (start : Int) (n : Nat) (g : Pgn) : Pgn :=
  { g with returns := if 6 ≤ n then g.returns ++ [start + 32 * ((n : Int) - 1)] else g.returns }

/-- SHAPE joins the warning set of the head. -/
def warnShape (s : State) : State := s.withHead fun e => { e with warnings := { e.warnings with shape := true } }

/-- A counter event raised `k` times. -/
def countTimes (ev : CounterEvent) (key : Option Key) : Nat → State → State
  | 0, s => s
  | k + 1, s => countTimes ev key k (countEvent ev key 1 s)

/-- What the building of edges reports (R141): SHAPE for a value held or a collision, EDGE_COLLIDE for each collision. -/
def reportCollisions (wc : WorkingCopy) (shape : Bool) (collisions : Nat) (s : State) : State :=
  countTimes .edgeCollide (some wc.key) collisions (if shape ∨ collisions ≠ 0 then warnShape s else s)

/-- A mark of 1T is not written (R130). -/
def skipMark (wc : WorkingCopy) (s : State) : State := countEvent .shortMark (some wc.key) 1 (warnShape s)

/-- A mark of 2T to 8T, at `start`, is built into a train when its end is read (R128, R129, R132, R133). -/
def buildTrain (wc : WorkingCopy) (start : Int) (n : Nat) (s : State) : State :=
  let eff := effective wc.strat n
  let train := retained (nominalEdges wc.strat eff.lead n)
  let met := meetTail s.pgn.edges s.pgn.tail (shiftEdges start train.1)
  let g := (({ s.pgn with edges := met.1 }.closeTrain eff.cool).expectPeak wc.strat start eff.lead).expectReturn start n
  reportCollisions wc (decide (eff.holds ≠ 0)) (train.2 + met.2) { s with pgn := g }

/-- A mark at `start` is known to be longer than 8T at its ninth T (R131): its first pulse and the middle pulses that its nine T call for
are built, before the first of them is due. -/
def openLong (wc : WorkingCopy) (start : Int) (s : State) : State :=
  let lead := (effective wc.strat 9).lead
  let train := retained (openingEdges wc.strat lead 6)
  let met := meetTail s.pgn.edges s.pgn.tail (shiftEdges start train.1)
  countEvent .longMark (some wc.key) 1
    (reportCollisions wc true (train.2 + met.2) { s with pgn := { s.pgn with edges := met.1 }.expectPeak wc.strat start lead })

/-- One more pulse of a long mark, behind those built (R129, R131, R132). -/
def addPulse (wc : WorkingCopy) (rise : Int) (width : Nat) (s : State) : State :=
  let r := retainBehind s.pgn.edges (pulse rise width)
  reportCollisions wc false r.2 { s with pgn := { s.pgn with edges := r.1 } }

/-- The end of a long mark of `n` T: its last pulse, its cool gap and its return sample (R129, R131, R138). -/
def closeLong (wc : WorkingCopy) (start : Int) (n : Nat) (s : State) : State :=
  let s := addPulse wc (start + 32 * ((n : Int) - 1)) wc.strat.tl s
  { s with pgn := (s.pgn.closeTrain (effective wc.strat n).cool).expectReturn start n }

/-! ### Reading WDATA (R126, R134) -/

/-- Whether a reading taken inside the space before T number `i` was taken in the T of the output that holds `mid` (R136). -/
def Pgn.readEarly (g : Pgn) (mid : Int) : Bool :=
  g.early.any fun r => decide (32 * ((r : Int) - 10) ≤ mid ∧ mid < 32 * ((r : Int) - 9))

/-- The first T of a mark, read as T number `i` of the write period: its start comes up, and the midpoint and the end of the space before it
when that is a space of 5T or more between two marks (R126, R136, R140).  A midpoint read already, in a space of more than 18T, does not come up
again. -/
def Pgn.beginMark (i : Nat) (g : Pgn) : Pgn :=
  let start : Int := 32 * (i : Int)
  let begun := { g with run := { mark := true, len := 1, own := true }, starts := g.starts ++ [start], early := none }
  match g.lastEnd with
  | some e =>
    let mid := start - 16 * ((i : Int) - e)
    if e + 5 ≤ i then { begun with mids := if g.readEarly mid then g.mids else g.mids ++ [mid], spaces := g.spaces ++ [start] }
    else begun
  | none => begun

/-- A further T of a mark, its `m`-th, read as T number `i` (R131): a mark of the write period that grows past 8T gets its pulses as they
become known. -/
def growMark (wc : WorkingCopy) (i m : Nat) (s : State) : State :=
  let start : Int := 32 * ((i : Int) + 1 - m)
  if m < 9 then s
  else if m = 9 then openLong wc start s
  else addPulse wc (start + 32 * ((m : Int) - 2)) wc.strat.tm s

/-- The end of a mark of `n` T of the write period, whose first space T is read as T number `i` (R128 to R133). -/
def endMark (wc : WorkingCopy) (i n : Nat) (s : State) : State :=
  let start : Int := 32 * ((i : Int) - n)
  let s := { s with pgn := { s.pgn with lastEnd := some i } }
  if n < 2 then skipMark wc s else if n ≤ 8 then buildTrain wc start n s else closeLong wc start n s

/-- The T at the next boundary is read in the write period.  A mark whose first T was not read in it is not written (R134). -/
def readT (wc : WorkingCopy) (wdata : Bool) (s : State) : State :=
  let i := s.pgn.read
  let run := s.pgn.run
  let s := { s with pgn := { s.pgn with read := i + 1 } }
  let longer := { s with pgn := { s.pgn with run := { run with len := run.len + 1 } } }
  match wdata, run.mark with
  | true, true => if run.own then growMark wc i (run.len + 1) longer else longer
  | true, false => { s with pgn := s.pgn.beginMark i }
  | false, true =>
    let s := { s with pgn := { s.pgn with run := { mark := false, len := 1, own := true } } }
    if run.own then endMark wc i run.len s else s
  | false, false => longer

/-! ### The output timeline -/

/-- The positions of what comes next on the output timeline, of each kind. -/
def Pgn.next (g : Pgn) : List Int :=
  (g.edges.head?.map (·.pos)).toList ++ g.starts.head?.toList ++ g.mids.head?.toList ++ g.spaces.head?.toList ++ g.peaks.head?.toList
    ++ g.returns.head?.toList

/-- The position of the next boundary on the output timeline: the output lags WDATA by nine T (R126). -/
def Pgn.now (g : Pgn) : Int := 32 * ((g.read : Int) - 9)

/-- Whether an output stands before the next boundary. -/
def Pgn.outputDue (g : Pgn) : Bool := g.next.any fun p => decide (p < g.now)

/-- Whether the output has come to position `p`: it stands before the next boundary, and nothing is to come before it (R126, R139). -/
def Pgn.reached (g : Pgn) (p : Int) : Bool := decide (p < g.now) && g.next.all fun q => decide (p ≤ q)

/-- Whether the output has come to a peak sample at position `p`, which comes after a space sample offered there and after a code set
presented there (R139, R140). -/
def Pgn.peakReached (g : Pgn) (p : Int) : Bool :=
  g.reached p && (g.starts.head?.toList ++ g.spaces.head?.toList).all fun q => decide (p < q)

/-- One boundary of CCLK (R126).  While the write period is closed only the level read is kept.  While an output stands before the
boundary, the boundary has not come. -/
def boundary (wdata : Bool) (s : State) : State :=
  match s.lsc.laser, s.sgq.activeWrite with
  | .write, some (_, wc) => if s.pgn.outputDue then s else readT wc wdata s
  | _, _ => { s with pgn := { s.pgn with run := { mark := wdata, len := 0, own := false } } }

/-- Boundaries of CCLK with the same level of WDATA, one after the other (R126). -/
def boundaries (wdata : Bool) : Nat → State → State
  | 0, s => s
  | n + 1, s => boundaries wdata n (boundary wdata s)

/-- MARK_READ. -/
def execMarkRead (wdata : Bool) (count : Nat) (s : State) : Host.Outcome State Fault Refusal :=
  .next (boundaries wdata count s)

/-- MARK_START (R140): at position 0 of a mark output, a waiting code set is presented. -/
def execMarkStart (s : State) : Host.Outcome State Fault Refusal :=
  match s.pgn.starts with
  | [] => .next s
  | p :: later =>
    if s.pgn.reached p then
      .next { s with pgn :=
        { s.pgn with starts := later, presented := s.pgn.waiting.getD s.pgn.presented, waiting := none } }
    else .next s

/-- OUTPUT_LEVEL_CHANGE (R129): the timeline reaches the next edge of the edge list. -/
def execOutputLevelChange (s : State) : Host.Outcome State Fault Refusal :=
  match s.pgn.edges with
  | [] => .next s
  | e :: later =>
    if s.pgn.reached e.pos then .next { s with pgn := { s.pgn with edges := later, level := e.level } } else .next s

/-- Whether the output stands inside a space that is being read and is longer than the lead allows its midpoint to be foreseen (R126, R136): the
run behind the last mark of the write period has more than 18T, and nothing else is to come before the next boundary. -/
def State.insideLongSpace (s : State) : Bool :=
  decide (s.lsc.laser = .write) && !s.pgn.run.mark && s.pgn.lastEnd.any (fun e => decide (e + 18 < s.pgn.read)) && !s.pgn.outputDue

/-- SPACE_MIDPOINT_READING (R136): the front-monitor reading at the midpoint of a space of 5T or more, held with the SPACE code in
force.  In a space of more than 18T the midpoint comes before the mark that ends the space is read: the reading is held where it is commanded,
and it is the midpoint's when the space ends as it has to for that (log entry 15). -/
def execSpaceMidpointReading (reading : Nat) (s : State) : Host.Outcome State Fault Refusal :=
  let held := some { reading, code := s.pgn.presented.space }
  match s.pgn.mids with
  | [] => if s.insideLongSpace then .next { s with pgn := { s.pgn with held, early := some s.pgn.read } } else .next s
  | p :: later => if s.pgn.reached p then .next { s with pgn := { s.pgn with mids := later, held } } else .next s

end Sys2Proof.Machine
end

