-- ==== Sys2Proof/Machine/Power.lean ====
section
/-! DEFINITION. The Power Loop (spec/08_power_loop_arithmetic.md, R143 to R165): the diode record and the limits, temperature samples,
and the space, peak and return samples with the correction and tracking they drive. -/

namespace Sys2Proof.Machine

/-- Whether a diode record is within its ranges (R143). -/
def Diode.inRange (d : Diode) : Bool :=
  decide (d.ithRef ≤ 2047 ∧ 64 ≤ d.sRef ∧ d.sRef ≤ 8191 ∧ Config.minTemp ≤ d.tRef ∧ d.tRef ≤ Config.maxTemp ∧ -64 ≤ d.kI
    ∧ d.kI ≤ 255 ∧ -512 ≤ d.kS ∧ d.kS ≤ 511 ∧ 4 ≤ d.defaultRead ∧ d.defaultRead ≤ 60)

/-- The diode record of a DIODE_SET payload (R207). -/
def readDiode (p : List Byte) : Diode :=
  { ithRef := u16 p 0, sRef := u16 p 2, tRef := s16 p 4, kI := s16 p 6, kS := s16 p 8, defaultRead := u8 p 10 }

/-- R144: DIODE_SET. -/
def serveDiodeSet (p : List Byte) (s : State) : State :=
  if s.lsc.laser = .write then answerStatus 48 .state s
  else if !(readDiode p).inRange then answerStatus 48 .badField s
  else
    answerStatus 48 .ok (recompute false { s with plp := { s.plp with diode := readDiode p, diodeValid := true } })

/-- DIODE_SET. -/
def execDiodeSet (w : HostWrite) (s : State) : Host.Outcome State Fault Refusal :=
  .next (request 48 11 w serveDiodeSet s)

/-- R145: LIMITS_SET. -/
def serveLimitsSet (p : List Byte) (s : State) : State :=
  let pd := u16 p 0
  let imax := u16 p 2
  if s.plp.limits.isSome then answerStatus 50 .locked s
  else if pd < 1 ∨ Config.maxPower < pd ∨ imax < 1 ∨ 4095 < imax then answerStatus 50 .badField s
  else answerStatus 50 .ok (recompute false { s with plp := { s.plp with limits := some { pd, imax } } })

/-- LIMITS_SET. -/
def execLimitsSet (w : HostWrite) (s : State) : Host.Outcome State Fault Refusal :=
  .next (request 50 4 w serveLimitsSet s)

/-- A code set as two bytes a level, READ, SPACE, PEAK, COOL. -/
def putCodes (c : CodeSet) : List Byte := putU16 c.read ++ putU16 c.space ++ putU16 c.peak ++ putU16 c.cool

/-- The diode record as DIODE_SET sends it. -/
def putDiode (d : Diode) : List Byte :=
  putU16 d.ithRef ++ putU16 d.sRef ++ putS16 d.tRef ++ putS16 d.kI ++ putS16 d.kS ++ putU8 d.defaultRead

/-- R164: DIODE_READ. -/
def serveDiodeRead (_p : List Byte) (s : State) : State :=
  let l := s.plp
  let line := diodeLine l.diode l.temp
  answer 49 .ok
    (putDiode l.diode ++ putBool l.diodeValid ++ putU16 ((l.limits.map (·.pd)).getD 0) ++ putU16 ((l.limits.map (·.imax)).getD 0)
      ++ putBool l.limits.isSome ++ putS16 (l.sample.getD 0) ++ putBool l.sample.isSome ++ putS16 l.temp ++ putU16 line.ith
      ++ putU16 line.slope ++ putCodes s.pgn.presented ++ putBool s.pgn.waiting.isSome ++ putU8 l.returns.count
      ++ putU8 l.track.spaceCount ++ putU8 l.track.peakCount ++ putU16 (l.track.ib.getD 0) ++ putU16 (l.track.ip.getD 0)) s

/-- DIODE_READ. -/
def execDiodeRead (w : HostWrite) (s : State) : Host.Outcome State Fault Refusal :=
  .next (request 49 0 w serveDiodeRead s)

/-- A temperature sample taken (R146): held within range with TEMP_RANGE, and the codes recomputed when T changes. -/
def takeTemperature (reading : Int) (s : State) : State :=
  let t := hold Config.minTemp Config.maxTemp reading
  let before := s.plp.temp
  let s := if t ≠ reading then s.withNotices ({ · with tempRange := true }) else s
  let s := { s with plp := { s.plp with sample := some t, tempTicks := s.plp.tempTicks - Config.tempPeriod } }
  if t ≠ before then recompute false s else s

/-- TEMPERATURE_SAMPLE.  The samples are due at the 16th, 32nd, 48th ... ms tick since the last reset (R146); before the next of them no
sample comes. -/
def execTemperatureSample (reading : Int) (s : State) : Host.Outcome State Fault Refusal :=
  if Config.tempPeriod ≤ s.plp.tempTicks then .next (takeTemperature reading s) else .next s

/-! ### Samples (R156 to R162) -/

/-- The trip level (R162): the ACTIVE entry's captured effective ceiling plus the trip margin. -/
def tripLevel (e : Entry) (s : State) : Nat := ((e.captured.map (·.ceiling)).getD 0) + s.cpt.settings.tripMargin

/-- A space sample added to the tracking accumulation (R159). -/
def TrackAcc.addSpace (a : TrackAcc) (m code : Nat) : TrackAcc :=
  match a.ib with
  | none => { a with spaceSum := a.spaceSum + m, spaceCount := a.spaceCount + 1, ib := some code }
  | some ib =>
    if ib ≠ code then { TrackAcc.empty with spaceSum := m, spaceCount := 1, ib := some code }
    else if a.spaceCount = Config.trackSamples then a
    else { a with spaceSum := a.spaceSum + m, spaceCount := a.spaceCount + 1 }

/-- A peak sample added to the tracking accumulation (R159). -/
def TrackAcc.addPeak (a : TrackAcc) (m code : Nat) : TrackAcc :=
  match a.ip with
  | none => { a with peakSum := a.peakSum + m, peakCount := a.peakCount + 1, ip := some code }
  | some ip =>
    if ip ≠ code then { TrackAcc.empty with peakSum := m, peakCount := 1, ip := some code }
    else { a with peakSum := a.peakSum + m, peakCount := a.peakCount + 1 }

/-- The mean of the space samples and of the peak samples of an accumulation (R160). -/
def TrackAcc.meanSpace (a : TrackAcc) : Int := rnd a.spaceSum a.spaceCount
def TrackAcc.meanPeak (a : TrackAcc) : Int := rnd a.peakSum Config.trackSamples

/-- Whether a completion is skipped (R160). -/
def TrackAcc.skips (a : TrackAcc) : Bool :=
  decide (a.spaceCount = 0 ∨ a.ib.getD 0 = 0 ∨ a.ip.getD 0 ≤ a.ib.getD 0 ∨ a.meanPeak - a.meanSpace < 8)

/-- A tracking completion (R160, R161): skipped with TRACK_SKIP, or an update of the diode record with a recomputation when it changes;
the accumulation is then emptied. -/
def completeTracking (key : Option Key) (a : TrackAcc) (s : State) : State :=
  let s := { s with plp := { s.plp with track := TrackAcc.empty } }
  if a.skips then countEvent .trackSkip key 1 s
  else
    let d := s.plp.diode
    let line := diodeLine d s.plp.temp
    let t := trackUpdate d line a.meanSpace a.meanPeak (a.ib.getD 0) (a.ip.getD 0)
    let s := { s with plp := { s.plp with diode := { d with ithRef := t.ithRef, sRef := t.sRef } } }
    let s := if line.held ∨ t.held then s.withNotices ({ · with diodeTrackLimit := true }) else s
    if t.ithRef ≠ d.ithRef ∨ t.sRef ≠ d.sRef then recompute false s else s

/-- The space or peak sample of the ACTIVE write that the output has come to (R136, R137, R139). -/
def State.sampleDue (s : State) : Option OfferedSample :=
  match s.lsc.laser, s.sgq.activeWrite with
  | .write, some (e, _) =>
    let ceiling := (e.captured.map (·.ceiling)).getD 0
    if s.pgn.spaces.head?.any s.pgn.reached then s.pgn.held.map fun h => { ceiling, held := some h.reading }
    else if s.pgn.peaks.head?.any s.pgn.peakReached then some { ceiling, held := none }
    else none
  | _, _ => none

/-- A sample with the cause that came before it in HOLD (R173, R174): above its trip level OVERPOWER joins the cause set; it is added to no
accumulation, since the write period is closed. -/
def takeOffered (o : OfferedSample) (reading : Nat) (s : State) : State :=
  let s' := { s with lsc := { s.lsc with offered := none } }
  if o.ceiling + s.cpt.settings.tripMargin < reading then settleCodes s (raiseCause .overpower s') else s'

/-- PEAK_SAMPLE (R137, R159, R160, R162): for the next mark of the write period that has a peak sample to come, when the output has come to
it.  In HOLD only a sample that a trip of the supply has left is taken (R173); any other was never offered (R163). -/
def execPeakSample (reading : Nat) (s : State) : Host.Outcome State Fault Refusal :=
  match s.lsc.laser, s.sgq.activeWrite, s.pgn.peaks with
  | .write, some (e, wc), p :: later =>
    let s' := { s with pgn := { s.pgn with peaks := later } }
    if !s.pgn.peakReached p then .next s
    else if tripLevel e s < reading then .next (settleCodes s (raiseCause .overpower s'))
    else
      let a := s.plp.track.addPeak reading s.pgn.presented.peak
      if a.peakCount = Config.trackSamples then .next (completeTracking (some wc.key) a s')
      else .next { s' with plp := { s'.plp with track := a } }
  | .hold, _, _ =>
    match s.lsc.offered with
    | some o => if o.held = none then .next (takeOffered o reading s) else .next s
    | none => .next s
  | _, _, _ => .next s

/-- SPACE_SAMPLE (R136, R159, R162): the held reading of a space of 5T or more, offered at the space's end.  In HOLD it is that of a space whose
end the output had come to when LDTRIP was asserted, where the trip has left it (R163, R173). -/
def execSpaceSample (s : State) : Host.Outcome State Fault Refusal :=
  match s.lsc.laser, s.sgq.activeWrite, s.pgn.spaces, s.pgn.held with
  | .write, some (e, _), p :: later, some h =>
    let s' := { s with pgn := { s.pgn with spaces := later, held := none } }
    if !s.pgn.reached p then .next s
    else if tripLevel e s < h.reading then .next (settleCodes s (raiseCause .overpower s'))
    else .next { s' with plp := { s'.plp with track := s.plp.track.addSpace h.reading h.code } }
  | .hold, _, _, _ =>
    match s.lsc.offered.bind fun o => o.held.map fun m => (o, m) with
    | some (o, m) => .next (takeOffered o m s)
    | none => .next s
  | _, _, _, _ => .next s

/-- The correction update at the sixteenth return sample (R157, R158). -/
def correctionUpdate (wc : WorkingCopy) (sum : Nat) (s : State) : State :=
  let raw := wc.running + correctionStep sum wc.strat.dt s.cpt.settings.gain
  let new := hold (-Config.maxCorr) Config.maxCorr raw
  let limit := decide (raw ≤ -Config.maxCorr ∨ Config.maxCorr ≤ raw)
  let s := s.withHead fun e =>
    { e with
      copy := .strategy { wc with running := new }
      warnings := { e.warnings with corrLimit := e.warnings.corrLimit || limit } }
  let s := if limit then countEvent .corrLimit (some wc.key) 1 s else s
  if new ≠ wc.running then recompute false s else s

/-- RETURN_SAMPLE (R138, R156): for the next mark of the write period that has a return sample to come, when the output has come to it. -/
def execReturnSample (reading : Nat) (s : State) : Host.Outcome State Fault Refusal :=
  match s.lsc.laser, s.sgq.activeWrite, s.pgn.returns with
  | .write, some (_, wc), p :: later =>
    let s' := { s with pgn := { s.pgn with returns := later } }
    let sum := s.plp.returns.sum + reading
    let count := s.plp.returns.count + 1
    if !s.pgn.reached p then .next s
    else if count = Config.returnSamples then
      .next (correctionUpdate wc sum { s' with plp := { s'.plp with returns := ReturnAcc.empty } })
    else .next { s' with plp := { s'.plp with returns := { sum, count } } }
  | _, _, _ => .next s

end Sys2Proof.Machine
end

