-- ==== Sys2Proof/Machine/Laser.lean ====
section
/-! DEFINITION. The Laser State Controller and the Write Guard (spec/09_laser_states_and_write_guard.md, R166 to R187). -/

namespace Sys2Proof.Machine

/-- The laser state set to SETTLING with the settle timer started for the settle time as it stands (R168, R175). -/
def startSettling (s : State) : State :=
  { s with lsc :=
      { laser := .settling, causes := HoldCauses.empty, settle := some s.cpt.settings.settleTime, ret := none } }

/-- R168: LASER_ON. -/
def serveLaserOn (_p : List Byte) (s : State) : State :=
  if s.lsc.laser ≠ .off then answerStatus 80 .state s
  else if s.lsc.causes ≠ HoldCauses.empty then answerStatus 80 .state s
  else if s.plp.limits.isNone then answerStatus 80 .noLimits s
  else if !s.plp.diodeValid then answerStatus 80 .noDiode s
  else answerStatus 80 .ok (settleCodes s (startSettling s))

/-- LASER_ON. -/
def execLaserOn (w : HostWrite) (s : State) : Host.Outcome State Fault Refusal :=
  .next (request 80 0 w serveLaserOn s)

/-- The laser goes OFF with its cause set kept (R170, R176). -/
def laserToOff (s : State) : State := { s with lsc := { laser := .off, causes := s.lsc.causes, settle := none, ret := none } }

/-- R170: LASER_OFF. -/
def serveLaserOff (_p : List Byte) (s : State) : State :=
  match s.lsc.laser with
  | .off => answerStatus 81 .ok s
  | .settling | .read =>
    if s.sgq.queue.isEmpty then answerStatus 81 .ok (settleCodes s (laserToOff s)) else answerStatus 81 .busy s
  | .write => answerStatus 81 .busy s
  | .hold => answerStatus 81 .ok (settleCodes s (laserToOff s))

/-- LASER_OFF. -/
def execLaserOff (w : HostWrite) (s : State) : Host.Outcome State Fault Refusal :=
  .next (request 81 0 w serveLaserOff s)

/-- R175: HOLD_CLEAR. -/
def serveHoldClear (_p : List Byte) (s : State) : State :=
  match s.lsc.laser with
  | .hold =>
    if s.lines.ldtrip then answerStatus 82 .state s
    else if s.lsc.ret = some .lit then answerStatus 82 .ok (settleCodes s (startSettling s))
    else answerStatus 82 .ok (settleCodes s { s with lsc := Lsc.reset })
  | .off =>
    if s.lsc.causes = HoldCauses.empty then answerStatus 82 .ok s
    else if s.lines.ldtrip then answerStatus 82 .state s
    else answerStatus 82 .ok { s with lsc := { s.lsc with causes := HoldCauses.empty } }
  | .settling | .read | .write => answerStatus 82 .state s

/-- HOLD_CLEAR. -/
def execHoldClear (w : HostWrite) (s : State) : Host.Outcome State Fault Refusal :=
  .next (request 82 0 w serveHoldClear s)

/-- R182: SUPPLY_ACK. -/
def serveSupplyAck (_p : List Byte) (s : State) : State :=
  if s.lines.ldwarn then answerStatus 83 .state s
  else answerStatus 83 .ok { s with wgd := { s.wgd with supplyWarn := false } }

/-- SUPPLY_ACK. -/
def execSupplyAck (w : HostWrite) (s : State) : Host.Outcome State Fault Refusal :=
  .next (request 83 0 w serveSupplyAck s)

/-- SETTLE_EXPIRY (R169): the laser becomes READ and a waiting head is judged again.  Before the timer's ms ticks have been taken no expiry
comes. -/
def execSettleExpiry (s : State) : Host.Outcome State Fault Refusal :=
  if s.lsc.laser = .settling ∧ s.lsc.settle = some 0 then
    .next (settleCodes s (judgeAgain { s with lsc := { s.lsc with laser := .read, settle := none } }))
  else .next s

/-- KEEPALIVE_EXPIRY (R180): the count has reached the captured K, or the K-th tick reaches the Write Guard with this event, before it
reaches the Segment Queue's tally; that tick then adds nothing more at the guard.  Otherwise no expiry comes.  A period that a strobe has
restarted with K of 1 reaches K at the first tick after the strobe (R178), where R180 has no expiry come at the tick that the strobe comes before:
the model's choice (log entry 31). -/
def execKeepaliveExpiry (s : State) : Host.Outcome State Fault Refusal :=
  match s.lsc.laser, s.wgd.keepalive with
  | .write, some k =>
    if k.k ≤ k.count then .next (settleCodes s (raiseCause .keepExpired s))
    else if k.k = k.count + 1 ∧ s.wgd.tickTaken = false then
      .next (settleCodes s (raiseCause .keepExpired { s with wgd := { s.wgd with tickTaken := true } }))
    else .next s
  | _, _ => .next s

/-- The early window of a period (R178). -/
def Keepalive.window (k : Keepalive) : Nat := k.k / 4

/-- KEEP_STROBE (R179). -/
def execKeepStrobe (s : State) : Host.Outcome State Fault Refusal :=
  match s.lsc.laser, s.wgd.keepalive with
  | .write, some k =>
    if s.cpt.settings.windowMode ∧ k.count < k.window then .next (settleCodes s (raiseCause .keepEarly s))
    else .next { s with wgd := { s.wgd with keepalive := some { count := 0, k := s.cpt.settings.keepPeriod } } }
  | _, _ => .next s

/-- A sample that the output had come to in a write that a trip ends stays to be taken (R173) or is never offered (R163): the spec says both, and
which of them holds is free (log entry 29). -/
def keepSample (sample : Option OfferedSample) (s : State) : State :=
  match sample with
  | some o => { s with lsc := { s.lsc with offered := if Config.sampleSurvivesTrip then some o else none } }
  | none => s

/-- LDTRIP_ASSERT (R184).  Whether a sample that the output has come to is still taken after it is free (R163, R173, log entry 29). -/
def execLdtripAssert (s : State) : Host.Outcome State Fault Refusal :=
  .next (keepSample s.sampleDue (settleCodes s (raiseCause .supplyTrip { s with lines := { s.lines with ldtrip := true } })))

/-- LDTRIP_DEASSERT (R184). -/
def execLdtripDeassert (s : State) : Host.Outcome State Fault Refusal :=
  .next { s with lines := { s.lines with ldtrip := false } }

/-- LDWARN_ASSERT (R181). -/
def execLdwarnAssert (s : State) : Host.Outcome State Fault Refusal :=
  .next ({ s with lines := { s.lines with ldwarn := true }, wgd := { s.wgd with supplyWarn := true } }.withNotices
    ({ · with supplyWarn := true }))

/-- LDWARN_DEASSERT (R181). -/
def execLdwarnDeassert (s : State) : Host.Outcome State Fault Refusal :=
  .next { s with lines := { s.lines with ldwarn := false } }

end Sys2Proof.Machine
end

