-- ==== Sys2Proof/Machine/Link.lean ====
section
/-! DEFINITION. The formatter link and the messages taken at the Segment Queue: SEG, CANCEL, END, the incoming side and the byte
periods (spec/05_segment_queue_and_formatter_link.md, R78 to R84, R96 to R98). -/

namespace Sys2Proof.Machine

/-! ### Intake (R83, R84) -/

/-- A SEG descriptor as received: kind and class by their codes. -/
structure Descriptor where
  tag : Nat
  kind : Nat
  cls : Nat
  layer : Nat
  zone : Nat
  speed : Nat
  deriving DecidableEq, Repr

/-- The descriptor of a SEG payload (R207). -/
def readDescriptor (b1 b2 b3 b4 : Byte) : Descriptor :=
  { tag := b1.toNat / 16, kind := b1.toNat % 16, cls := b2.toNat / 16, layer := b2.toNat % 16, zone := b3.toNat
    speed := b4.toNat }

/-- Whether the layer, zone and speed class pass intake check 6 (R83). -/
def fieldsFit (s : State) (d : Descriptor) (kind : SegKind) : Bool :=
  let layers := match s.mountedSlot with
    | some m => m.layers.length
    | none => 4
  decide (d.layer < layers) && (decide (kind = .read) || decide (d.zone ≤ 23 ∧ d.speed ≤ 3))

/-- The intake checks in order (R83): the reason of the first that fails, or the kind and class of an accepted descriptor. -/
def intakeCheck (s : State) (d : Descriptor) : Except RejectReason (SegKind × CreditClass) :=
  if s.lsc.laser = .hold then .error .hold
  else
    match SegKind.ofNat? d.kind, CreditClass.ofNat? d.cls with
    | some kind, some cls =>
      if !cls.admits kind then .error .classViolation
      else if cls.allotment ≤ s.sgq.occupied cls then .error .creditViolation
      else if s.sgq.queue.any (·.tag == d.tag) then .error .dupTag
      else if kind ≠ .read ∧ s.mountedIndex = none then .error .noMedia
      else if !fieldsFit s d kind then .error .badField
      else .ok (kind, cls)
    | _, _ => .error .classViolation

/-- Whether a REJECT returns a credit (R81). -/
def returnsCredit (cls : Nat) (r : RejectReason) : Bool :=
  decide (r ≠ .creditViolation) && (CreditClass.ofNat? cls).isSome

/-- The read power of a READ entry's copy at intake (R84). -/
def intakeReadPower (s : State) (layer : Nat) : Nat :=
  match s.mountedSlot with
  | some m => ((m.layers[layer]?).map (·.readPower)).getD 0
  | none => s.plp.diode.defaultRead

/-- The entry of an accepted descriptor (R82, R84): PENDING, or READY at once for a READ. -/
def newEntry (s : State) (d : Descriptor) (kind : SegKind) (cls : CreditClass) : Entry :=
  { pos := s.sgq.freePos, tag := d.tag, kind, cls, layer := d.layer, zone := d.zone, speed := d.speed
    state := if kind = .read then .ready else .pending
    copy := if kind = .read then .read (intakeReadPower s d.layer) else .none
    captured := none, warnings := Warnings.empty }

/-- SEG taken at intake (R83, R84). -/
def takeSeg (d : Descriptor) (s : State) : State :=
  match intakeCheck s d with
  | .error r => send (rejectMessage d.tag d.cls r (returnsCredit d.cls r)) s
  | .ok (kind, cls) =>
    let s' := { s with sgq := { s.sgq with queue := s.sgq.queue ++ [newEntry s d kind cls] } }
    settleCodes s (arbiter (goOn s'))

/-! ### CANCEL and END (R96 to R98) -/

/-- CANCEL taken at the queue (R98). -/
def takeCancel (tag : Nat) (s : State) : State :=
  match s.sgq.queue.find? (·.tag == tag) with
  | some e =>
    if e.state = .active ∨ e.state = .closing then linkFault s
    else settleCodes s (goOn (endEntry .cancelled e s))
  | none => linkFault s

/-- END taken at the queue (R96, R97). -/
def takeEnd (tag : Nat) (s : State) : State :=
  match s.sgq.queue with
  | e :: _ =>
    if e.tag = tag ∧ e.kind = .read ∧ e.state = .active then settleCodes s (goOn (finishEntry .ok e s)) else linkFault s
  | [] => linkFault s

/-! ### The incoming side (R78) -/

/-- Whether a completed message names an incoming message and has the right check byte. -/
def messageGood (m : LinkMessage) : Bool :=
  decide ((m.code = 193 ∨ m.code = 194 ∨ m.code = 195) ∧ m.check = checkByte m.code m.b1 m.b2 m.b3 m.b4)

/-- A good message is delivered to the Segment Queue as one arrival. -/
def deliver (m : LinkMessage) (s : State) : State :=
  if m.code = 193 then takeSeg (readDescriptor m.b1 m.b2 m.b3 m.b4) s
  else if m.code = 194 then takeCancel (m.b1.toNat / 16) s
  else takeEnd (m.b1.toNat / 16) s

/-- A completed message: delivered, or discarded with LINK_FAULT and RESYNC (R78). -/
def completeMessage (m : LinkMessage) (s : State) : State :=
  if messageGood m then deliver m s
  else linkFault { s with flk := { s.flk with side := .resync } }

/-- The incoming side with its partly received message set. -/
def State.withRx (s : State) (rx : List Byte) : State := { s with flk := { s.flk with rx := rx } }

/-- One byte received (R78). -/
def receiveByte (s : State) (b : Byte) : State :=
  match s.flk.side with
  | .resync => if b = 0 then { s with flk := { s.flk with side := .inStep } } else s
  | .inStep =>
    match s.flk.rx with
    | [] => if b = 0 then s else s.withRx [b]
    | [c, b1, b2, b3, b4] => completeMessage { code := c, b1, b2, b3, b4, check := b } (s.withRx [])
    | rx => s.withRx (rx ++ [b])

/-- The six bytes of a message received one after another. -/
def receive (m : List Byte) (s : State) : State := m.foldl receiveByte s

/-- SEG. -/
def execSeg (b1 b2 b3 b4 : Byte) (s : State) : Host.Outcome State Fault Refusal :=
  .next (receive (linkMessage 193 b1 b2 b3 b4) s)

/-- CANCEL. -/
def execCancel (b1 : Byte) (s : State) : Host.Outcome State Fault Refusal := .next (receive (linkMessage 194 b1 0 0 0) s)

/-- END. -/
def execEndMsg (b1 : Byte) (s : State) : Host.Outcome State Fault Refusal := .next (receive (linkMessage 195 b1 0 0 0) s)

/-- LINK_MESSAGE_DISCARDED: the bytes of a message that the incoming side discards. -/
def execLinkMessageDiscarded (m : LinkMessage) (s : State) : Host.Outcome State Fault Refusal :=
  .next (receive [m.code, m.b1, m.b2, m.b3, m.b4, m.check] s)

/-- RESYNC_IDLE_BYTE. -/
def execResyncIdleByte (s : State) : Host.Outcome State Fault Refusal := .next (receiveByte s 0)

/-! ### Byte periods (R79) -/

/-- The outgoing side of one byte period: the next byte of the oldest queued message, or the idle byte. -/
def transmitByte (s : State) : State :=
  { s with flk :=
      if s.flk.idleFirst then { s.flk with idleFirst := false, txByte := 0 }
      else
        match s.flk.out with
        | [] => { s.flk with txByte := 0 }
        | m :: ms =>
          if s.flk.sent < 5 then { s.flk with sent := s.flk.sent + 1, txByte := m.getD s.flk.sent 0 }
          else { s.flk with out := ms, sent := 0, txByte := m.getD 5 0 } }

/-- LINK_BYTE_PERIOD: a byte goes out and, when the period's received byte belongs to no message-level command, a byte comes in. -/
def execLinkBytePeriod (rx : Option Byte) (s : State) : Host.Outcome State Fault Refusal :=
  .next (match rx with
    | some b => receiveByte (transmitByte s) b
    | none => transmitByte s)

end Sys2Proof.Machine
end

