-- ==== Sys2Proof/Machine/Media.lean ====
section
/-! DEFINITION. The media requests (spec/02_media_slots_and_recording_layers.md, R21 to R34). -/

namespace Sys2Proof.Machine

/-- Whether a layer settings entry is within its ranges (R23, R25). -/
def LayerSettings.inRange (l : LayerSettings) : Bool :=
  decide (4 ≤ l.readPower ∧ l.readPower ≤ 60 ∧ 1 ≤ l.ceiling ∧ l.ceiling ≤ Config.maxPower ∧ l.ageDefault ≤ Config.maxOnTime)

/-- Whether any Segment Queue entry is occupied. -/
def State.queueOccupied (s : State) : Bool := !s.sgq.queue.isEmpty

/-- R25: the checks of MEDIA_INSTALL in order, and the install. -/
def serveMediaInstall (p : List Byte) (s : State) : State :=
  let identity := BitVec.ofNat 48 (u48 p 0)
  let count := u8 p 6
  let layers := (List.range (min count 4)).map (readLayer p 7)
  if count < 1 ∨ 4 < count then answerStatus 16 .badField s
  else if !layers.all (·.inRange) then answerStatus 16 .badField s
  else
    match s.mst.findIdx? fun m => decide (m.state ≠ .free ∧ m.identity = identity) with
    | some i =>
      answer 16 .duplicate (putU8 i ++ putU8 ((s.mst[i]?).map (·.state.toNat) |>.getD 0)) s
    | none =>
      match s.mst.findIdx? (·.state = .free) with
      | none => answerStatus 16 .full s
      | some i =>
        answer 16 .ok (putU8 i) (s.withSlot i fun _ => { state := .known, identity, layers, records := 0 })

/-- MEDIA_INSTALL. -/
def execMediaInstall (w : HostWrite) (s : State) : Host.Outcome State Fault Refusal :=
  .next (request 16 31 w serveMediaInstall s)

/-- The layers a MEDIA_AMEND selection names, of layers 0..3; other positions name no member and are not read (R207). -/
def selectedLayers (selection : Nat) : List Nat := (List.range 4).filter (member selection)

/-- R30: the checks of MEDIA_AMEND in order, and the amendment. -/
def serveMediaAmend (p : List Byte) (s : State) : State :=
  let i := u8 p 0
  let chosen := selectedLayers (u8 p 1)
  match s.mst[i]? with
  | none => answerStatus 17 .badField s
  | some m =>
    if m.state = .free then answerStatus 17 .notFound s
    else if chosen = [] ∨ !chosen.all (· < m.layers.length) then answerStatus 17 .badField s
    else if !chosen.all fun k => (readLayer p 2 k).inRange then answerStatus 17 .badField s
    else if m.state = .mounted ∧ s.sgq.queue.any fun e =>
        decide (e.state = .arming ∨ e.state = .armed ∨ e.state = .active ∨ e.state = .closing) then
      answerStatus 17 .inUse s
    else
      answerStatus 17 .ok <| s.withSlot i fun m =>
        { m with layers := m.layers.mapIdx fun k l => if chosen.contains k then readLayer p 2 k else l }

/-- MEDIA_AMEND. -/
def execMediaAmend (w : HostWrite) (s : State) : Host.Outcome State Fault Refusal :=
  .next (request 17 26 w serveMediaAmend s)

/-- A MOUNTED slot becomes KNOWN. -/
def Slot.unmount (m : Slot) : Slot := if m.state = .mounted then { m with state := .known } else m

/-- R26: the checks of MEDIA_MOUNT in order, and the change of the mounted slot. -/
def serveMediaMount (p : List Byte) (s : State) : State :=
  let i := u8 p 0
  match s.mst[i]? with
  | none => answerStatus 18 .badField s
  | some m =>
    if m.state = .free then answerStatus 18 .notFound s
    else if m.state = .mounted then answerStatus 18 .inUse s
    else if s.queueOccupied then answerStatus 18 .inUse s
    else answerStatus 18 .ok ({ s with mst := (s.mst.map Slot.unmount).modify i ({ · with state := .mounted }) })

/-- MEDIA_MOUNT. -/
def execMediaMount (w : HostWrite) (s : State) : Host.Outcome State Fault Refusal :=
  .next (request 18 1 w serveMediaMount s)

/-- R27: MEDIA_UNMOUNT. -/
def serveMediaUnmount (_p : List Byte) (s : State) : State :=
  if s.mountedIndex = none then answerStatus 19 .state s
  else if s.queueOccupied then answerStatus 19 .inUse s
  else answerStatus 19 .ok { s with mst := s.mst.map Slot.unmount }

/-- MEDIA_UNMOUNT. -/
def execMediaUnmount (w : HostWrite) (s : State) : Host.Outcome State Fault Refusal :=
  .next (request 19 0 w serveMediaUnmount s)

/-- A place freed when its record names a slot (R29). -/
def Place.freeOf (slot : Nat) (p : Place) : Place :=
  match p.held with
  | some r => if r.key.media = slot then { p with held := none } else p
  | none => p

/-- R29: MEDIA_RETIRE frees the slot together with all of its records. -/
def serveMediaRetire (p : List Byte) (s : State) : State :=
  let i := u8 p 0
  match s.mst[i]? with
  | none => answerStatus 20 .badField s
  | some m =>
    if m.state = .free then answerStatus 20 .notFound s
    else if m.state = .mounted then answerStatus 20 .inUse s
    else
      answer 20 .ok (putU8 m.records)
        { s with stb := s.stb.map (Place.freeOf i), mst := s.mst.set i Slot.empty }

/-- MEDIA_RETIRE. -/
def execMediaRetire (w : HostWrite) (s : State) : Host.Outcome State Fault Refusal :=
  .next (request 20 1 w serveMediaRetire s)

/-- A slot as MEDIA_READ reports it (R32): layer entries at and above the layer count read as 0. -/
def Slot.image (m : Slot) : List Byte :=
  putU8 m.state.toNat ++ putU48 m.identity.toNat ++ putU8 m.layers.length
    ++ (m.layers.flatMap putLayer ++ List.replicate 24 0).take 24 ++ putU8 m.records

/-- R32: MEDIA_READ. -/
def serveMediaRead (p : List Byte) (s : State) : State :=
  match s.mst[u8 p 0]? with
  | none => answerStatus 21 .badField s
  | some m => answer 21 .ok m.image s

/-- MEDIA_READ. -/
def execMediaRead (w : HostWrite) (s : State) : Host.Outcome State Fault Refusal :=
  .next (request 21 1 w serveMediaRead s)

end Sys2Proof.Machine
end

