-- ==== Sys2Proof/Machine/Pickup.lean ====
section
/-! DEFINITION. The Pickup Position Unit (spec/06_pickup_position_and_focus_layer.md, R105 to R124). -/

namespace Sys2Proof.Machine

/-- The position becomes invalid and POSITION_LOST is raised (R108, R109). -/
def positionLost (s : State) : State :=
  { s with pkp := { s.pkp with valid := false } }.withNotices ({ · with positionLost := true })

/-- The sled counter set. -/
def State.withSled (s : State) (n : Nat) : State := { s with pkp := { s.pkp with sled := n } }

/-- The place of a pair SLA, SLB in the outward order (R106). -/
def quadrature (sla slb : Bool) : Nat :=
  match sla, slb with
  | false, false => 0
  | false, true => 1
  | true, true => 2
  | true, false => 3

/-- What an observation of SLA, SLB is, judged against the one before it (R106, R108). -/
inductive SledMove where
  | none
  | outward
  | inward
  | glitch
  deriving DecidableEq, Repr

/-- The observation `new` after the observation `old`, as places in the outward order. -/
def sledMove (old new : Nat) : SledMove :=
  match (new + 4 - old) % 4 with
  | 0 => .none
  | 1 => .outward
  | 2 => .glitch
  | _ => .inward

/-- An outward step (R106, R109). -/
def stepOutward (s : State) : State := if s.pkp.sled < Config.maxSled then s.withSled (s.pkp.sled + 1) else positionLost s

/-- An inward step: a home event with SHOME asserted (R107), else one count less within the range (R106, R109). -/
def stepInward (shome : Bool) (s : State) : State :=
  if shome then { s with pkp := { s.pkp with sled := 0, valid := true } }
  else if 0 < s.pkp.sled then s.withSled (s.pkp.sled - 1)
  else positionLost s

/-- SLED_STEP. -/
def execSledStep (sla slb shome : Bool) (s : State) : Host.Outcome State Fault Refusal :=
  let s' := { s with lines := { s.lines with sla := sla, slb := slb, shome := shome } }
  .next (match sledMove (quadrature s.lines.sla s.lines.slb) (quadrature sla slb) with
    | .none => s'
    | .outward => stepOutward s'
    | .inward => stepInward shome s'
    | .glitch => positionLost s')

/-- R112: ZONE_MAP. -/
def serveZoneMap (p : List Byte) (s : State) : State :=
  let b := (List.range 23).map fun k => u16 p (2 * k)
  if !b.all (fun x => decide (1 ≤ x ∧ x ≤ Config.maxSled)) then answerStatus 64 .badField s
  else if ¬ b.Pairwise (· < ·) then answerStatus 64 .badOrder s
  else if !s.sgq.queue.isEmpty then answerStatus 64 .inUse s
  else answerStatus 64 .ok { s with pkp := { s.pkp with zoneMap := b } }

/-- ZONE_MAP. -/
def execZoneMap (w : HostWrite) (s : State) : Host.Outcome State Fault Refusal :=
  .next (request 64 46 w serveZoneMap s)

/-- No two windows share a value (R116). -/
def windowsDisjoint (ws : List Window) : Bool := decide (ws.Pairwise fun a b => a.hi < b.lo ∨ b.hi < a.lo)

/-- R116: SPEED_MAP. -/
def serveSpeedMap (p : List Byte) (s : State) : State :=
  let ws : List Window := (List.range 4).map fun k => { lo := u16 p (1 + 4 * k), hi := u16 p (3 + 4 * k) }
  match WobbleInterval.ofNat? (u8 p 0) with
  | none => answerStatus 65 .badField s
  | some interval =>
    if !ws.all (fun w => decide (w.lo ≤ 65534 ∧ w.hi ≤ 65534)) then answerStatus 65 .badField s
    else if !ws.all (fun w => decide (w.lo ≤ w.hi)) then answerStatus 65 .badOrder s
    else if !windowsDisjoint ws then answerStatus 65 .badOrder s
    else
      answerStatus 65 .ok
        { s with pkp := { s.pkp with interval, windows := ws, measurement := none, wobCount := 0, wobMarks := 0 } }

/-- SPEED_MAP. -/
def execSpeedMap (w : HostWrite) (s : State) : Host.Outcome State Fault Refusal :=
  .next (request 65 17 w serveSpeedMap s)

/-- WOB_PULSE (R114). -/
def execWobPulse (s : State) : Host.Outcome State Fault Refusal :=
  .next { s with pkp := { s.pkp with wobCount := min Config.maxWobble (s.pkp.wobCount + 1) } }

/-- The wobble meter at the end of an interval (R114): the count is latched and the next interval begins. -/
def Pkp.latch (k : Pkp) : Pkp := { k with measurement := some k.wobCount, wobCount := 0 }

/-- The wobble meter after a measurement completion, `none` when none can come: the interval's marks have passed, or the interval is of
0.5 ms and the completion is the half-millisecond mark inside the running ms, which comes once (R2, R114). -/
def Pkp.complete (k : Pkp) : Option Pkp :=
  if k.interval.marks ≤ k.wobMarks then some { k.latch with wobMarks := k.wobMarks - k.interval.marks }
  else if k.interval = .half ∧ k.halfPassed = false then some { k.latch with halfPassed := true }
  else none

/-- MEASUREMENT_COMPLETION (R114): at the end of an interval the count is latched and a waiting head is judged again.  Before the interval's
marks have passed no completion comes. -/
def execMeasurementCompletion (s : State) : Host.Outcome State Fault Refusal :=
  match s.pkp.complete with
  | some k => .next (settleCodes s (judgeAgain { s with pkp := k }))
  | none => .next s

/-- The focus layer state set, with the jump timer stopped and no requester on record. -/
def endJump (f : FocusState) (s : State) : State :=
  { s with pkp := { s.pkp with focus := f, jumpTimer := none }, sgq := { s.sgq with requester := none } }

/-- FOK_RISE (R119): a confirmation in JUMPING, an acquisition in UNKNOWN. -/
def execFokRise (flay : Nat) (s : State) : Host.Outcome State Fault Refusal :=
  let s' := { s with lines := { s.lines with fok := true, flay := flay } }
  match s.pkp.focus with
  | .unknown => .next (settleCodes s (judgeAgain { s' with pkp := { s'.pkp with focus := .steady flay } }))
  | .jumping t _ => if flay = t then .next (settleCodes s (judgeAgain (endJump (.steady t) s'))) else .next s'
  | .steady _ => .next s'

/-- Focus is lost (R121): the state becomes UNKNOWN and FOCUS_LOST is raised; an ACTIVE write gets a partial write-back and returns the
laser to READ, an ACTIVE READ or an ARMED write ends, and an ARMING head is judged again. -/
def loseFocus (s : State) : State :=
  let s := { s with pkp := { s.pkp with focus := .unknown } }.withNotices ({ · with focusLost := true })
  match s.sgq.queue with
  | [] => s
  | e :: _ =>
    match e.state with
    | .active =>
      match e.copy with
      | .strategy wc => goOn (endActiveWrite .focusLost wc e (if s.lsc.laser = .write then leaveWrite .read s else s))
      | _ => goOn (finishEntry .focusLost e s)
    | .armed => goOn (endEntry .focusLost e s)
    | .arming => judgeAgain s
    | _ => s

/-- FOK_FALL (R121): a loss in STEADY, ignored otherwise. -/
def execFokFall (s : State) : Host.Outcome State Fault Refusal :=
  let s' := { s with lines := { s.lines with fok := false } }
  match s.pkp.focus with
  | .steady _ => .next (settleCodes s (loseFocus s'))
  | _ => .next s'

/-- FLAY_CHANGE (R121): a loss when FLAY shows another layer in STEADY while FOK is high. -/
def execFlayChange (flay : Nat) (s : State) : Host.Outcome State Fault Refusal :=
  let s' := { s with lines := { s.lines with flay := flay } }
  match s.pkp.focus with
  | .steady l => if flay ≠ l ∧ s.lines.fok then .next (settleCodes s (loseFocus s')) else .next s'
  | _ => .next s'

/-- JUMP_TIMER_EXPIRY (R120): a retry, or a failure charged to the recorded requester.  Before the timer's ms ticks have been taken no
expiry comes. -/
def execJumpTimerExpiry (s : State) : Host.Outcome State Fault Refusal :=
  match s.pkp.focus, s.pkp.jumpTimer with
  | .jumping t (a + 1), some 0 =>
    .next { s with pkp :=
      { s.pkp with focus := .jumping t a, jumpTimer := some s.cpt.settings.jumpTimeout, fjStrobe := true } }
  | .jumping _ 0, some 0 =>
    let s' := endJump .unknown s
    match s.sgq.queue with
    | e :: _ =>
      if e.state = .arming ∧ s.sgq.requester = some e.tag then .next (settleCodes s (goOn (endEntry .jumpFail e s')))
      else .next (settleCodes s (judgeAgain s'))
    | [] => .next s'
  | _, _ => .next s

/-- R123: PICKUP_READ. -/
def servePickupRead (_p : List Byte) (s : State) : State :=
  let k := s.pkp
  answer 66 .ok
    (putU16 k.sled ++ putBool k.valid ++ putOpt (if k.valid then some (zoneOf k.zoneMap k.sled) else none)
      ++ k.zoneMap.flatMap putU16 ++ putU8 s.cpt.settings.guardBand ++ putU8 k.interval.toNat
      ++ k.windows.flatMap (fun w => putU16 w.lo ++ putU16 w.hi) ++ putU16 (k.measurement.getD 0)
      ++ putBool k.measurement.isSome ++ putOpt (k.measurement.bind (speedClass k.windows)) ++ putFocus k.focus
      ++ putU8 k.fjTarget ++ putBool s.lines.fok ++ putU8 s.lines.flay) s

/-- PICKUP_READ. -/
def execPickupRead (w : HostWrite) (s : State) : Host.Outcome State Fault Refusal :=
  .next (request 66 0 w servePickupRead s)

end Sys2Proof.Machine
end

