-- ==== Sys2Proof/Machine/Port.lean ====
section
/-! DEFINITION. The Command Port (spec/10_command_port_notices_and_counters.md, R188 to R200): response reads, unknown requests,
NOTICES_READ, SETTINGS, STATUS and IDENT. -/

namespace Sys2Proof.Machine

/-- UNKNOWN_REQUEST (R189): dropped when the port is not IDLE, else answered with the code echoed. -/
def execUnknownRequest (code : Byte) (w : HostWrite) (s : State) : Host.Outcome State Fault Refusal :=
  .next (transaction code w
    (fun _ s =>
      if s.cpt.port = .idle then answerStatus code .unknownRequest s
      else { s with cpt := { s.cpt with busyReply := some code } })
    s)

/-! ### Response reads (R188, R190) -/

/-- What a response read clocks out and acts on, fixed from the port as it stands (R190). -/
def Cpt.fixRead (c : Cpt) : FixedRead :=
  match c.busyReply, c.port with
  | some code, _ => { statusByte := c.statusByte, frame := { status := .busy, code, payload := [] }, acts := .busyReply }
  | none, .responseReady f => { statusByte := c.statusByte, frame := f, acts := .response }
  | none, .serving code => { statusByte := c.statusByte, frame := { status := .busy, code, payload := [] }, acts := .nothing }
  | none, .idle => { statusByte := c.statusByte, frame := { status := .busy, code := 0, payload := [] }, acts := .nothing }

/-- The bytes a response read clocks out in `clocked` byte times: the port status byte, the frame, then 0. -/
def FixedRead.out (r : FixedRead) (clocked : Nat) : List Byte :=
  ((r.statusByte :: r.frame.bytes) ++ List.replicate clocked 0).take clocked

/-- Whether the transaction clocks out every byte of the frame, the port status byte included. -/
def FixedRead.complete (r : FixedRead) (clocked : Nat) : Bool := decide (1 + r.frame.bytes.length ≤ clocked)

/-- The release of a response read (R190): a complete read empties what it delivered. -/
def releaseRead (r : FixedRead) (clocked : Nat) (c : Cpt) : Cpt :=
  let c := { c with reading := none, writing := none, spiOut := r.out clocked }
  if r.complete clocked then
    match r.acts with
    | .busyReply => { c with busyReply := none }
    | .response => { c with port := .idle }
    | .nothing => c
  else c

/-- RESPONSE_READ.  A release without a first byte on record, which a reset has discarded, is not a transaction (R188); neither is a
selection in which no byte is clocked. -/
def execResponseRead (phase : ReadPhase) (s : State) : Host.Outcome State Fault Refusal :=
  match phase with
  | .firstByte => .next { s with cpt := { s.cpt with reading := some s.cpt.fixRead, writing := none } }
  | .release clocked =>
    match s.cpt.reading with
    | some r => .next { s with cpt := releaseRead r clocked s.cpt }
    | none => .next s
  | .whole clocked => if clocked = 0 then .next s else .next { s with cpt := releaseRead s.cpt.fixRead clocked s.cpt }

/-! ### NOTICES_READ (R195) -/

/-- A notice detail that is a key, sent as 0 when its kind is not listed. -/
def putKeyDetail (k : Option Key) : List Byte :=
  match k with
  | some k => putKey k
  | none => [0, 0, 0, 0]

/-- The payload of NOTICES_READ (R207). -/
def noticesPayload (n : Notices) (enables : BitVec 13) : List Byte :=
  putU16 n.kinds.toNat ++ putKeyDetail n.aged ++ putKeyDetail n.suspect ++ putKeyDetail n.needsRecord
    ++ putU8 ((n.counterWrap.map (·.toNat)).getD 0) ++ putU8 ((n.reset.map (·.toNat)).getD 0) ++ putU16 enables.toNat

/-- R195: NOTICES_READ. -/
def serveNoticesRead (_p : List Byte) (s : State) : State :=
  answer 130 .ok (noticesPayload s.cpt.notices s.cpt.settings.enables) (s.withNotices fun _ => Notices.empty)

/-- NOTICES_READ. -/
def execNoticesRead (w : HostWrite) (s : State) : Host.Outcome State Fault Refusal :=
  .next (request 130 0 w serveNoticesRead s)

/-! ### SETTINGS (R197) -/

/-- The values of a SETTINGS payload, each held within its range (R197).  Guard band and notice enables cannot leave theirs. -/
def offeredSettings (p : List Byte) : Settings :=
  let h (lo hi : Int) (x : Int) : Nat := (hold lo hi x).toNat
  { gain := h 0 15 (u8 p 2), deriveSpan := h 2 8 (u8 p 3), borrowDistance := h 0 3 (u8 p 4), deriveWarn := h 0 160 (u8 p 5)
    keepPeriod := h 1 16 (u8 p 6), windowMode := decide (u8 p 7 ≠ 0), jumpTimeout := h 2 30 (u8 p 8)
    jumpRetries := h 0 3 (u8 p 9), settleTime := h 1 20 (u8 p 10), hotLimit := hold Config.minTemp Config.maxTemp (s16 p 11)
    tripMargin := h 0 63 (u8 p 13), guardBand := u8 p 14, enables := BitVec.ofNat 13 (u16 p 15) }

/-- Which of the thirteen values of a SETTINGS payload lie outside their ranges. -/
def outOfRange (p : List Byte) : List Bool :=
  let o (lo hi : Int) (x : Int) : Bool := decide (hold lo hi x ≠ x)
  [o 0 15 (u8 p 2), o 2 8 (u8 p 3), o 0 3 (u8 p 4), o 0 160 (u8 p 5), o 1 16 (u8 p 6), o 0 1 (u8 p 7), o 2 30 (u8 p 8),
    o 0 3 (u8 p 9), o 1 20 (u8 p 10), o Config.minTemp Config.maxTemp (s16 p 11), o 0 63 (u8 p 13), false, false]

/-- The held set: each selected setting whose value was held (R197). -/
def heldSet (selection : Nat) (p : List Byte) : Nat :=
  ((outOfRange p).mapIdx fun k out => bit k (out && member selection k)).sum

/-- The settings with the selected ones replaced. -/
def Settings.select (selection : Nat) (n o : Settings) : Settings :=
  let on := member selection
  { gain := if on 0 then n.gain else o.gain
    deriveSpan := if on 1 then n.deriveSpan else o.deriveSpan
    borrowDistance := if on 2 then n.borrowDistance else o.borrowDistance
    deriveWarn := if on 3 then n.deriveWarn else o.deriveWarn
    keepPeriod := if on 4 then n.keepPeriod else o.keepPeriod
    windowMode := if on 5 then n.windowMode else o.windowMode
    jumpTimeout := if on 6 then n.jumpTimeout else o.jumpTimeout
    jumpRetries := if on 7 then n.jumpRetries else o.jumpRetries
    settleTime := if on 8 then n.settleTime else o.settleTime
    hotLimit := if on 9 then n.hotLimit else o.hotLimit
    tripMargin := if on 10 then n.tripMargin else o.tripMargin
    guardBand := if on 11 then n.guardBand else o.guardBand
    enables := if on 12 then n.enables else o.enables }

/-- The thirteen settings as SETTINGS sends them (R207). -/
def putSettings (n : Settings) : List Byte :=
  putU8 n.gain ++ putU8 n.deriveSpan ++ putU8 n.borrowDistance ++ putU8 n.deriveWarn ++ putU8 n.keepPeriod
    ++ putBool n.windowMode ++ putU8 n.jumpTimeout ++ putU8 n.jumpRetries ++ putU8 n.settleTime ++ putS16 n.hotLimit
    ++ putU8 n.tripMargin ++ putU8 n.guardBand ++ putU16 n.enables.toNat

/-- R197: SETTINGS.  A selection that names a number above 12 is refused; an accepted one recomputes the codes (R155). -/
def serveSettings (p : List Byte) (s : State) : State :=
  let selection := u16 p 0
  if 8191 < selection then answerStatus 128 .badField s
  else
    let new := Settings.select selection (offeredSettings p) s.cpt.settings
    answer 128 .ok (putSettings new ++ putU16 (heldSet selection p))
      (recompute false { s with cpt := { s.cpt with settings := new } })

/-- SETTINGS. -/
def execSettings (w : HostWrite) (s : State) : Host.Outcome State Fault Refusal :=
  .next (request 128 17 w serveSettings s)

/-! ### STATUS and IDENT (R199, R200) -/

/-- The laser and guard group of STATUS. -/
def laserGroup (s : State) : List Byte :=
  putU8 s.lsc.laser.toNat ++ putU8 s.lsc.causes.toNat ++ putU8 ((s.lsc.ret.map (·.toNat)).getD 0) ++ putBool s.wgd.supplyWarn
    ++ putBool s.lines.ldwarn ++ putBool s.lines.ldtrip ++ putBool s.wgd.keepalive.isSome
    ++ putU8 ((s.wgd.keepalive.map (·.count)).getD 0) ++ putU8 ((s.wgd.keepalive.map (·.k)).getD 0)

/-- The media and table group of STATUS. -/
def tableGroup (s : State) : List Byte :=
  putOpt s.mountedIndex ++ putU8 (s.mst.countP (·.state = .free)) ++ putU8 (s.stb.countP (·.held.isNone))
    ++ putU8 (s.stb.countP fun p => p.held.any fun r => decide (r.state = .retiring))

/-- The queue and link group of STATUS. -/
def queueGroup (s : State) : List Byte :=
  putU8 (s.sgq.occupied .w) ++ putU8 (s.sgq.occupied .r) ++ putU8 (s.sgq.occupied .s)
    ++ putOpt (s.sgq.queue.head?.map (·.state.toNat)) ++ putU8 (if s.flk.side = .resync then 1 else 0)
    ++ putU8 s.flk.out.length

/-- The Power Loop, pickup and port groups of STATUS. -/
def restGroup (s : State) : List Byte :=
  putBool s.plp.limits.isSome ++ putBool s.plp.diodeValid ++ putS16 s.plp.temp ++ putBool s.pkp.valid ++ putFocus s.pkp.focus
    ++ putU16 s.cpt.notices.kinds.toNat ++ putU8 s.cpt.lastReset.toNat

/-- R199: STATUS. -/
def serveStatus (_p : List Byte) (s : State) : State :=
  answer 129 .ok (laserGroup s ++ tableGroup s ++ queueGroup s ++ restGroup s) s

/-- STATUS. -/
def execStatus (w : HostWrite) (s : State) : Host.Outcome State Fault Refusal :=
  .next (request 129 0 w serveStatus s)

/-- The answer of IDENT (R200). -/
def identPayload : List Byte :=
  putU16 Config.vendorCode ++ putU16 Config.partCode ++ putU8 Config.revision ++ putU8 Config.places ++ putU8 Config.slots
    ++ putU8 Config.entries ++ putU8 2 ++ putU8 1 ++ putU8 3 ++ putU8 4 ++ putU8 Config.noticeKinds ++ putU8 Config.scanPage

/-- R200: IDENT. -/
def serveIdent (_p : List Byte) (s : State) : State := answer 131 .ok identPayload s

/-- IDENT. -/
def execIdent (w : HostWrite) (s : State) : Host.Outcome State Fault Refusal :=
  .next (request 131 0 w serveIdent s)

end Sys2Proof.Machine
end

