-- ==== Sys2Proof/Machine/Queue.lean ====
section
/-! DEFINITION. The write gate, the write-back of a closed write, QUEUE_READ and QUEUE_ABORT
(spec/05_segment_queue_and_formatter_link.md, R92 to R103; spec/09_laser_states_and_write_guard.md, R171, R172, R177). -/

namespace Sys2Proof.Machine

/-! ### The write gate -/

/-- WRITE is entered (R92, R171): the head becomes ACTIVE, the write period opens with SPACE (R134), the keepalive period starts (R178)
and the accumulations are emptied (R156, R159). -/
def enterWrite (s : State) : State :=
  let s := closeWritePeriod (s.withHead ({ · with state := .active }))
  { s with
    lsc := { s.lsc with laser := .write }
    pgn := { s.pgn with level := .space }
    wgd := { s.wgd with keepalive := some { count := 0, k := s.cpt.settings.keepPeriod } } }

/-- Whether the head is an ARMED WRITE or TRIAL entry. -/
def Sgq.headArmedWrite (q : Sgq) : Bool :=
  match q.queue with
  | e :: _ => decide (e.state = .armed) && e.isWrite
  | [] => false

/-- The input line WGATE as observed. -/
def State.observeGate (s : State) (level : Bool) : State := { s with lines := { s.lines with wgate := level } }

/-- WGATE_RISE (R92, R177): ignored in HOLD; it does not arise in WRITE, where the gate is already high. -/
def execWgateRise (s : State) : Host.Outcome State Fault Refusal :=
  let s' := s.observeGate true
  match s.lsc.laser with
  | .hold | .write => .next s'
  | .read => .next (settleCodes s (if s.sgq.headArmedWrite then enterWrite s' else raiseCause .gateEarly s'))
  | .off | .settling => .next (settleCodes s (raiseCause .gateEarly s'))

/-- WGATE_FALL (R94): the ACTIVE write becomes CLOSING and the laser returns to READ; any other fall is ignored. -/
def execWgateFall (s : State) : Host.Outcome State Fault Refusal :=
  let s' := s.observeGate false
  match s.lsc.laser, s.sgq.activeWrite with
  | .write, some _ => .next (settleCodes s (leaveWrite .read (s'.withHead ({ · with state := .closing }))))
  | _, _ => .next s'

/-! ### The write-back of a CLOSING entry (R95) -/

/-- The full write-back and the DONE(OK) of a CLOSING entry (R69 to R74, R95). -/
def closeEntry (e : Entry) (wc : WorkingCopy) (s : State) : State :=
  let limit := e.warnings.corrLimit
  let stale := wc.kind.stores && wc.sources.any fun h => !s.generationMatches h
  let s := fullWriteBack wc limit s
  let s := if needsRecord wc limit s.cpt.settings.deriveWarn then s.withNotices ({ · with needsRecord := some wc.key }) else s
  let s := if stale then countEvent .staleWriteback (some wc.key) 1 s else s
  finishEntry .ok
    { e with warnings := { e.warnings with staleWriteback := e.warnings.staleWriteback || stale } } s

/-- WRITE_BACK.  Without a CLOSING entry no write-back is taken. -/
def execWriteBack (s : State) : Host.Outcome State Fault Refusal :=
  match s.sgq.queue with
  | e :: _ =>
    if e.state = .closing then
      match e.copy with
      | .strategy wc => .next (settleCodes s (goOn (closeEntry e wc s)))
      | _ => .next (settleCodes s (goOn (finishEntry .ok e s)))
    else .next s
  | [] => .next s

/-! ### QUEUE_ABORT and QUEUE_READ -/

/-- R99: every occupied entry that is not CLOSING is ended, and an ACTIVE write returns the laser to READ. -/
def serveQueueAbort (_p : List Byte) (s : State) : State :=
  let ended := s.sgq.queue.countP (·.state ≠ .closing)
  let closing := s.sgq.queue.any (·.state = .closing)
  let s' := if s.sgq.activeWrite.isSome ∧ s.lsc.laser = .write then leaveWrite .read s else s
  answer 97 .ok (putU8 ended ++ putBool closing) (settleCodes s (flush .aborted s'))

/-- QUEUE_ABORT. -/
def execQueueAbort (w : HostWrite) (s : State) : Host.Outcome State Fault Refusal :=
  .next (request 97 0 w serveQueueAbort s)

/-- What QUEUE_READ shows of an entry's copy (R102): a working copy, a READ entry's read power in its place, or zeros. -/
def copyImage (e : Entry) : List Byte :=
  match e.copy with
  | .strategy wc =>
    putU8 wc.kind.toNat ++ putKey wc.key ++ putU8 wc.sources.length ++ wc.sources.flatMap putHandle ++ putS16 wc.running
      ++ putS16 wc.initial ++ putU24 wc.tally ++ putU8 e.warnings.toNat
  | .read p => putU8 p
  | .none => List.replicate 14 0

/-- One entry of QUEUE_READ (R102). -/
def entryImage (e : Entry) : List Byte :=
  putU8 e.pos ++ putU8 e.tag ++ putU8 e.kind.toNat ++ putU8 e.cls.toNat ++ putU8 e.state.toNat ++ putU8 e.layer
    ++ putU8 e.zone ++ putU8 e.speed ++ copyImage e ++ putU16 ((e.captured.map (·.ceiling)).getD 0)

/-- Occupied entries per class, W, R and S. -/
def occupancyImage (q : Sgq) : List Byte := putU8 (q.occupied .w) ++ putU8 (q.occupied .r) ++ putU8 (q.occupied .s)

/-- R102: QUEUE_READ. -/
def serveQueueRead (_p : List Byte) (s : State) : State :=
  answer 96 .ok
    (occupancyImage s.sgq ++ putU8 s.sgq.queue.length ++ s.sgq.queue.flatMap entryImage ++ putOpt s.sgq.requester) s

/-- QUEUE_READ. -/
def execQueueRead (w : HostWrite) (s : State) : Host.Outcome State Fault Refusal :=
  .next (request 96 0 w serveQueueRead s)

end Sys2Proof.Machine
end

