-- ==== Sys2Proof/Machine/Resolution.lean ====
section
/-! DEFINITION. Resolution (spec/03_resolution.md, R35 to R56): resolving a key, the segment lookup completion, and the lookups of
REC_FIND and REC_SCAN. -/

namespace Sys2Proof.Machine

/-! ### Resolving a key (R40 to R44) -/

/-- The place of the record of a key in one of the states `ok`. -/
def findRecord (places : List Place) (k : Key) (ok : Record → Bool) : Option Nat :=
  places.findIdx? fun p => p.held.any fun r => decide (r.key = k) && ok r

/-- The place of the ACTIVE or SUSPECT record of a key (R42). -/
def usableRecord (places : List Place) (k : Key) : Option Nat := findRecord places k Record.usable

/-- The place of the PROVISIONAL record of a key (R41). -/
def provisionalRecord (places : List Place) (k : Key) : Option Nat :=
  findRecord places k fun r => decide (r.state = .provisional)

/-- A neighbour: its zone and its place (R40). -/
structure Neighbour where
  zone : Nat
  index : Nat
  deriving DecidableEq, Repr

/-- The first of the zones `zs` that holds a usable record of the key's media, layer and speed. -/
def firstNeighbour (places : List Place) (k : Key) (zs : List Nat) : Option Neighbour :=
  zs.findSome? fun z => (usableRecord places { k with zone := z }).map fun i => { zone := z, index := i }

/-- The lower neighbour: the greatest zone below the key's (R40). -/
def lowerNeighbour (places : List Place) (k : Key) : Option Neighbour :=
  firstNeighbour places k (List.range k.zone).reverse

/-- The upper neighbour: the smallest zone above the key's (R40). -/
def upperNeighbour (places : List Place) (k : Key) : Option Neighbour :=
  firstNeighbour places k ((List.range (23 - k.zone)).map fun d => k.zone + 1 + d)

/-- The result of a resolution: its kind and source places, lower first, or MISS or NO_TRIAL. -/
inductive Resolved where
  | found (kind : ResKind) (sources : List Nat)
  | derived (lower upper : Neighbour)
  | miss
  | noTrial
  deriving DecidableEq, Repr

/-- A borrow from the nearer neighbour within the borrow distance, the lower one at equal distance (R44). -/
def borrow (k : Key) (distance : Nat) (lower upper : Option Neighbour) : Resolved :=
  let try' (n : Neighbour) (d : Nat) : Resolved := if d ≤ distance then .found .borrowed [n.index] else .miss
  match lower, upper with
  | some l, some u =>
    if k.zone - l.zone ≤ u.zone - k.zone then try' l (k.zone - l.zone) else try' u (u.zone - k.zone)
  | some l, none => try' l (k.zone - l.zone)
  | none, some u => try' u (u.zone - k.zone)
  | none, none => .miss

/-- The steps of R41 to R44 in order. -/
def resolve (places : List Place) (set : Settings) (mode : Mode) (k : Key) : Resolved :=
  match mode with
  | .trial =>
    match provisionalRecord places k with
    | some i => .found .exactTrial [i]
    | none => .noTrial
  | .normal =>
    match usableRecord places k with
    | some i => .found .exact [i]
    | none =>
      let lower := lowerNeighbour places k
      let upper := upperNeighbour places k
      match lower, upper with
      | some l, some u =>
        if u.zone - l.zone ≤ set.deriveSpan then .derived l u else borrow k set.borrowDistance lower upper
      | _, _ => borrow k set.borrowDistance lower upper

/-! ### The working values (R45, R46, R47) -/

/-- The strategy interpolated between two sources for zone `z` (R45), with the override list of the nearer one (R46). -/
def interpStrategy (l u : Strategy) (z zl zu : Nat) : Strategy :=
  let f (a b : Nat) : Nat := (interp a b z zl zu).toNat
  { pp := f l.pp u.pp, ps := f l.ps u.ps, pc := f l.pc u.pc, dT := interp l.dT u.dT z zl zu
    tf := f l.tf u.tf, tm := f l.tm u.tm, tl := f l.tl u.tl, tc := f l.tc u.tc
    overrides := if z - zl ≤ zu - z then l.overrides else u.overrides
    dt := f l.dt u.dt }

/-- The working values of a lookup: kind, strategy, correction, source handles, and whether SUSPECT_SOURCE would be set. -/
structure Working where
  kind : ResKind
  strat : Strategy
  corr : Int
  sources : List Handle
  suspect : Bool
  deriving DecidableEq, Repr

/-- The handle of a place as it stands. -/
def handleOf (places : List Place) (i : Nat) : Handle := { index := i, gen := ((places[i]?).map (·.gen)).getD 0 }

/-- The record a resolution names, which every place it names holds. -/
def sourceRecord (places : List Place) (i : Nat) : Option Record := (places[i]?).bind (·.held)

/-- The working values of R47, or none at MISS and NO_TRIAL. -/
def working (places : List Place) (k : Key) : Resolved → Option Working
  | .found kind sources =>
    (sources.head?.bind (sourceRecord places)).map fun r =>
      { kind, strat := r.strat, corr := r.corr, sources := sources.map (handleOf places)
        suspect := decide (r.state = .suspect) }
  | .derived l u =>
    (sourceRecord places l.index).bind fun rl =>
      (sourceRecord places u.index).map fun ru =>
        { kind := .derived, strat := interpStrategy rl.strat ru.strat k.zone l.zone u.zone
          corr := interp rl.corr ru.corr k.zone l.zone u.zone
          sources := [handleOf places l.index, handleOf places u.index]
          suspect := decide (rl.state = .suspect ∨ ru.state = .suspect) }
  | .miss => none
  | .noTrial => none

/-- The counter event of a successful lookup (R48). -/
def ResKind.lookupEvent : ResKind → CounterEvent
  | .exact | .exactTrial => .lookupExact
  | .derived => .lookupDerived
  | .borrowed => .lookupBorrowed

/-! ### The segment lookup completion (R48 to R50) -/

/-- The lookup in flight becomes empty; a segment lookup that completes while a host request waits counts (R39). -/
def lookupDone (s : State) : State :=
  { s with rse :=
      { s.rse with
        inFlight := .idle
        waitCount := if s.rse.waiting.isSome then s.rse.waitCount + 1 else s.rse.waitCount } }

/-- The completion for an entry still RESOLVING (R48, R49). -/
def completeSegment (e : Entry) (s : State) : State :=
  let mode : Mode := if e.kind = .trial then .trial else .normal
  let key := s.entryKey e
  let result := resolve s.stb s.cpt.settings mode key
  match working s.stb key result with
  | some w =>
    let copy : WorkingCopy :=
      { kind := w.kind, key, strat := w.strat, running := w.corr, initial := w.corr, sources := w.sources, tally := 0 }
    let s := w.sources.foldl (fun s h => pin h.index s) s
    let s := s.withEntry e.pos fun e =>
      { e with
        state := .ready, copy := .strategy copy
        warnings := { Warnings.empty with suspectSource := w.suspect } }
    goOn (countEvent w.kind.lookupEvent (some key) 1 s)
  | none =>
    let s := countEvent .lookupMiss (some key) 1 s
    let s := if e.kind = .trial then s else s.withNotices ({ · with needsRecord := some key })
    goOn (finishEntry (if e.kind = .trial then .noTrial else .noStrategy) e s)

/-- SEGMENT_LOOKUP_COMPLETION.  Without a segment lookup in flight no completion comes. -/
def execSegmentLookupCompletion (s : State) : Host.Outcome State Fault Refusal :=
  match s.rse.inFlight with
  | .segment pos tag =>
    let s' := lookupDone s
    match s'.sgq.queue.find? fun e => decide (e.pos = pos ∧ e.tag = tag ∧ e.state = .resolving) with
    | some e => .next (settleCodes s (arbiter (completeSegment e s')))
    | none => .next (settleCodes s (arbiter s'))
  | .gone _ _ => .next (arbiter (lookupDone s))
  | _ => .next s

/-! ### Host lookups (R53, R54) -/

/-- A host request that passes its checks joins the wait list, and an idle engine takes it at once; the port is SERVING (R38, R189). -/
def joinWaitList (code : Byte) (r : HostLookup) (s : State) : State :=
  arbiter
    { s with
      rse := { s.rse with waiting := some r, waitCount := 0 }
      cpt := { s.cpt with port := .serving code } }

/-- The completion of a host lookup: the response is formed and the arbiter takes the next requester (R36, R189). -/
def hostDone (code : Byte) (payload : List Byte) (s : State) : State :=
  arbiter (answer code .ok payload { s with rse := { s.rse with inFlight := .idle } })

/-- R53: the checks of REC_FIND in order. -/
def serveRecFind (p : List Byte) (s : State) : State :=
  let key := readKey p 1
  if 1 < u8 p 0 then answerStatus 38 .badField s
  else if 7 < key.media ∨ 3 < key.layer ∨ 23 < key.zone ∨ 3 < key.speed then answerStatus 38 .badField s
  else
    match s.mst[key.media]? with
    | none => answerStatus 38 .badField s
    | some m =>
      if m.state = .free then answerStatus 38 .notFound s
      else if m.layers.length ≤ key.layer then answerStatus 38 .badField s
      else joinWaitList 38 (.find (if u8 p 0 = 1 then .trial else .normal) key) s

/-- REC_FIND. -/
def execRecFind (w : HostWrite) (s : State) : Host.Outcome State Fault Refusal :=
  .next (request 38 5 w serveRecFind s)

/-- The state code of the record in a place, 0 for FREE. -/
def placeStateCode (places : List Place) (i : Nat) : Nat := ((sourceRecord places i).map (·.state.toNat)).getD 0

/-- The response payload of REC_FIND (R53, R207). -/
def findPayload (places : List Place) (set : Settings) (mode : Mode) (k : Key) : List Byte :=
  let result := resolve places set mode k
  match working places k result with
  | some w =>
    putU8 w.kind.toNat ++ putU8 w.sources.length
      ++ w.sources.flatMap (fun h => putHandle h ++ putU8 (placeStateCode places h.index))
      ++ putBool w.suspect ++ putShape w.strat ++ putOverrides w.strat.overrides ++ putU8 w.strat.dt ++ putS16 w.corr
  | none =>
    putU8 (if mode = .trial then 6 else 5) ++ putU8 0 ++ putBool false ++ List.replicate 11 0 ++ putOverrides []
      ++ putU8 0 ++ putS16 0

/-- REC_FIND_COMPLETION. -/
def execRecFindCompletion (s : State) : Host.Outcome State Fault Refusal :=
  match s.rse.inFlight with
  | .host (.find mode key) => .next (hostDone 38 (findPayload s.stb s.cpt.settings mode key) s)
  | _ => .next s

/-- R54: the checks of REC_SCAN. -/
def serveRecScan (p : List Byte) (s : State) : State :=
  match readFilter p 0 with
  | none => answerStatus 39 .badField s
  | some f => if 95 < u8 p 5 then answerStatus 39 .badField s else joinWaitList 39 (.scan f (u8 p 5)) s

/-- REC_SCAN. -/
def execRecScan (w : HostWrite) (s : State) : Host.Outcome State Fault Refusal :=
  .next (request 39 6 w serveRecScan s)

/-- The places from `start` on whose record matches a filter, in ascending order (R19, R54). -/
def matchingPlaces (places : List Place) (f : KeyFilter) (start : Nat) : List Nat :=
  (List.range places.length).filter fun i =>
    decide (start ≤ i) && (sourceRecord places i).any fun r => f.matches r.key

/-- The response payload of REC_SCAN: up to 24 handles with their states, and the continue index (R54). -/
def scanPayload (places : List Place) (f : KeyFilter) (start : Nat) : List Byte :=
  let page := (matchingPlaces places f start).take Config.scanPage
  let last := page.getLast?.getD 95
  putU8 page.length
    ++ page.flatMap (fun i => putHandle (handleOf places i) ++ putU8 (placeStateCode places i))
    ++ putOpt (if page.length = Config.scanPage ∧ last < 95 then some (last + 1) else none)

/-- REC_SCAN_COMPLETION. -/
def execRecScanCompletion (s : State) : Host.Outcome State Fault Refusal :=
  match s.rse.inFlight with
  | .host (.scan f start) => .next (hostDone 39 (scanPayload s.stb f start) s)
  | _ => .next s

end Sys2Proof.Machine
end

