-- ==== Sys2Proof/Machine/Records.lean ====
section
/-! DEFINITION. The record requests and the matching pass (spec/01_strategy_records.md R12 to R19, spec/04_record_upkeep.md R57 to
R68). -/

namespace Sys2Proof.Machine

/-! ### The checks of a record image (R12, rows 5 to 7) -/

/-- The powers within their ranges. -/
def Strategy.powersInRange (s : Strategy) : Bool :=
  decide (1 ≤ s.pp ∧ s.pp ≤ Config.maxPower ∧ s.ps ≤ Config.maxPower ∧ s.pc ≤ Config.maxPower)

/-- The shape fields within their ranges. -/
def Strategy.shapeInRange (s : Strategy) : Bool :=
  decide (-16 ≤ s.dT ∧ s.dT ≤ 15 ∧ 4 ≤ s.tf ∧ s.tf ≤ 64 ∧ 4 ≤ s.tm ∧ s.tm ≤ 32 ∧ 4 ≤ s.tl ∧ s.tl ≤ 48 ∧ s.tc ≤ 64)

/-- One override entry within its ranges (R7). -/
def Override.inRange (o : Override) : Bool :=
  decide (2 ≤ o.len ∧ o.len ≤ 8 ∧ -8 ≤ o.lead ∧ o.lead ≤ 7 ∧ -8 ≤ o.cool ∧ o.cool ≤ 7)

/-- The override list within its ranges, for a list offered with an entry count (R7). -/
def overridesInRange (count : Nat) (os : List Override) : Bool := decide (count ≤ 4) && os.all Override.inRange

/-- The correction within its range (R8). -/
def corrInRange (c : Int) : Bool := decide (-Config.maxCorr ≤ c ∧ c ≤ Config.maxCorr)

/-- Cool power ≤ space power ≤ peak power (R6). -/
def Strategy.powersOrdered (s : Strategy) : Bool := decide (s.pc ≤ s.ps ∧ s.ps ≤ s.pp)

/-- Strictly ascending mark lengths (R7). -/
def Strategy.overridesAscending (s : Strategy) : Bool := decide ((s.overrides.map (·.len)).Pairwise (· < ·))

/-- The clash of R13: the place of the record that counts in the same limit as a record of a key installed in a state. -/
def duplicateOf (places : List Place) (k : Key) (st : RecState) : Option Nat :=
  if st = .provisional then provisionalRecord places k else usableRecord places k

/-- The default age threshold of a key's layer (R9). -/
def State.ageDefault (s : State) (k : Key) : Nat :=
  (((s.mst[k.media]?).bind (·.layers[k.layer]?)).map (·.ageDefault)).getD 0

/-- A record is placed (R3, R10, R12): the place advances its generation and the slot's record count goes up by one. -/
def placeRecord (i : Nat) (r : Record) (s : State) : State :=
  (s.withPlace i fun p => { gen := (p.gen + 1) % 256, held := some r }).withSlot r.key.media fun m =>
    { m with records := m.records + 1 }

/-- The re-resolved count and the state after the READY entries that satisfy `p` went back to PENDING (R57). -/
def sendBackAll (p : Entry → Bool) (s : State) : Nat × State := ((s.sentBack p).length, reResolve p s)

/-- R12: the checks of REC_INSTALL in order, and the install (R59, R60). -/
def serveRecInstall (p : List Byte) (s : State) : State :=
  let im := readImage p 1
  let requested : Option RecState := if u8 p 0 = 1 then some .provisional else if u8 p 0 = 2 then some .active else none
  match requested with
  | none => answerStatus 32 .badField s
  | some st =>
    if 7 < im.key.media ∨ 23 < im.key.zone ∨ 3 < im.key.speed ∨ 3 < im.key.layer then answerStatus 32 .badField s
    else
      match s.mst[im.key.media]? with
      | none => answerStatus 32 .badField s
      | some m =>
        if m.state = .free then answerStatus 32 .notFound s
        else if m.layers.length ≤ im.key.layer then answerStatus 32 .badField s
        else if !(im.strat.powersInRange && im.strat.shapeInRange && overridesInRange im.overrideCount im.strat.overrides
            && corrInRange im.corr) then answerStatus 32 .badField s
        else if !im.strat.powersOrdered then answerStatus 32 .badOrder s
        else if !im.strat.overridesAscending then answerStatus 32 .badOrder s
        else
          match duplicateOf s.stb im.key st with
          | some j => answer 32 .duplicate (putHandle (handleOf s.stb j)) s
          | none =>
            match s.stb.findIdx? (·.held.isNone) with
            | none => answerStatus 32 .full s
            | some i =>
              let r : Record :=
                { key := im.key, strat := im.strat, corr := im.corr, onTime := 0, ageThreshold := s.ageDefault im.key
                  state := st, pins := 0 }
              let s := placeRecord i r s
              let back := sendBackAll (fun e => decide (st = .active) && e.approximates im.key) s
              answer 32 .ok (putHandle (handleOf s.stb i) ++ putU8 back.1) (arbiter back.2)

/-- REC_INSTALL. -/
def execRecInstall (w : HostWrite) (s : State) : Host.Outcome State Fault Refusal :=
  .next (request 32 41 w serveRecInstall s)

/-- The handle checks of R16: index, FREE place, generation; `work` goes on with the record. -/
def withHandle (code : Byte) (index gen : Nat) (work : Record → State → State) (s : State) : State :=
  match s.stb[index]? with
  | none => answerStatus code .badField s
  | some p =>
    match p.held with
    | none => answerStatus code .notFound s
    | some r => if p.gen ≠ gen then answerStatus code .stale s else work r s

/-- The field groups of REC_AMEND, in the order of their set (R207). -/
structure Groups where
  powers : Bool
  shape : Bool
  overrides : Bool
  depth : Bool
  correction : Bool
  age : Bool
  onTimeClear : Bool
  deriving DecidableEq, Repr

def readGroups (n : Nat) : Groups :=
  { powers := member n 0, shape := member n 1, overrides := member n 2, depth := member n 3, correction := member n 4
    age := member n 5, onTimeClear := member n 6 }

def Groups.isEmpty (g : Groups) : Bool :=
  !(g.powers || g.shape || g.overrides || g.depth || g.correction || g.age || g.onTimeClear)

/-- The range checks of the selected groups (R61).  A three-byte age threshold cannot leave its range. -/
def Groups.inRange (g : Groups) (im : Image) : Bool :=
  (!g.powers || im.strat.powersInRange) && (!g.shape || im.strat.shapeInRange)
    && (!g.overrides || overridesInRange im.overrideCount im.strat.overrides) && (!g.correction || corrInRange im.corr)

/-- The strategy as it would stand after an amendment (R61). -/
def Groups.applyStrategy (g : Groups) (n o : Strategy) : Strategy :=
  let o := if g.powers then { o with pp := n.pp, ps := n.ps, pc := n.pc } else o
  let o := if g.shape then { o with dT := n.dT, tf := n.tf, tm := n.tm, tl := n.tl, tc := n.tc } else o
  let o := if g.overrides then { o with overrides := n.overrides } else o
  if g.depth then { o with dt := n.dt } else o

/-- The record after an accepted amendment (R62): the selected groups replaced, SUSPECT cleared. -/
def Groups.apply (g : Groups) (im : Image) (r : Record) : Record :=
  { r with
    strat := g.applyStrategy im.strat r.strat
    corr := if g.correction then im.corr else r.corr
    ageThreshold := if g.age then im.ageThreshold else r.ageThreshold
    onTime := if g.onTimeClear then 0 else r.onTime
    state := if r.state = .suspect then .active else r.state }

/-- R61 to R63: REC_AMEND. -/
def serveRecAmend (p : List Byte) (s : State) : State :=
  let index := u8 p 0
  let g := readGroups (u8 p 2)
  let im := readImage p 3
  withHandle 33 index (u8 p 1)
    (fun r s =>
      let strat := g.applyStrategy im.strat r.strat
      if r.state = .retiring then answerStatus 33 .state s
      else if g.isEmpty then answerStatus 33 .badField s
      else if !g.inRange im then answerStatus 33 .badField s
      else if !strat.powersOrdered then answerStatus 33 .badOrder s
      else if !strat.overridesAscending then answerStatus 33 .badOrder s
      else
        let s := s.withPlace index fun p => { gen := (p.gen + 1) % 256, held := some (g.apply im r) }
        let back := sendBackAll (·.uses index) s
        answer 33 .ok (putHandle (handleOf s.stb index) ++ putU8 (g.apply im r).state.toNat ++ putU8 back.1)
          (arbiter back.2))
    s

/-- REC_AMEND. -/
def execRecAmend (w : HostWrite) (s : State) : Host.Outcome State Fault Refusal :=
  .next (request 33 43 w serveRecAmend s)

/-- A record leaves service once its READY holders have re-resolved (R66): FREE at pin count 0, RETIRING otherwise.  A record already
RETIRING is left as it is. -/
def leaveService (i : Nat) (s : State) : State :=
  match s.record i with
  | some r =>
    if r.state = .retiring then s
    else if r.pins = 0 then freePlace i s
    else s.withRecord i ({ · with state := .retiring })
  | none => s

/-- The outcome code of a retire: 0 FREED, 1 RETIRING (R207). -/
def State.retireOutcome (s : State) (i : Nat) : Nat := if (s.record i).isSome then 1 else 0

/-- R64, R65: REC_PROMOTE. -/
def serveRecPromote (p : List Byte) (s : State) : State :=
  let index := u8 p 0
  withHandle 34 index (u8 p 1)
    (fun r s =>
      if r.state ≠ .provisional then answerStatus 34 .state s
      else
        let old := usableRecord s.stb r.key
        let oldHandle := old.map (handleOf s.stb)
        let back := sendBackAll (fun e => old.any e.uses || e.uses index || e.approximates r.key) s
        let s := match old with
          | some j => leaveService j back.2
          | none => back.2
        let s := (s.withRecord index ({ · with state := .active })).withPlace index fun p => { p with gen := (p.gen + 1) % 256 }
        let oldPart := match old, oldHandle with
          | some j, some h => putHandle h ++ putU8 (s.retireOutcome j)
          | _, _ => [0, 0, 0]
        answer 34 .ok (putHandle (handleOf s.stb index) ++ oldPart ++ putU8 back.1) (arbiter s))
    s

/-- REC_PROMOTE. -/
def execRecPromote (w : HostWrite) (s : State) : Host.Outcome State Fault Refusal :=
  .next (request 34 2 w serveRecPromote s)

/-- R66: REC_RETIRE.  On a record already RETIRING it changes nothing and sends back no entry. -/
def serveRecRetire (p : List Byte) (s : State) : State :=
  let index := u8 p 0
  withHandle 35 index (u8 p 1)
    (fun r s =>
      if r.state = .retiring then answer 35 .ok (putU8 1 ++ putU8 0) s
      else
        let back := sendBackAll (·.uses index) s
        let s := leaveService index back.2
        answer 35 .ok (putU8 (s.retireOutcome index) ++ putU8 back.1) (arbiter s))
    s

/-- REC_RETIRE. -/
def execRecRetire (w : HostWrite) (s : State) : Host.Outcome State Fault Refusal :=
  .next (request 35 2 w serveRecRetire s)

/-- R55: REC_RETIRE_MATCH joins the wait list. -/
def serveRecRetireMatch (p : List Byte) (s : State) : State :=
  match readFilter p 0 with
  | none => answerStatus 36 .badField s
  | some f => joinWaitList 36 (.retireMatch f) s

/-- REC_RETIRE_MATCH. -/
def execRecRetireMatch (w : HostWrite) (s : State) : Host.Outcome State Fault Refusal :=
  .next (request 36 5 w serveRecRetireMatch s)

/-- The number of record places that hold a record. -/
def occupiedPlaces (places : List Place) : Nat := places.countP (·.held.isSome)

/-- R68: the matching pass.  Every matching record in service is retired, after the READY entries sourced on any of them have
re-resolved, each once; the counts are of records freed at the pass, of matching records RETIRING after it, and of entries sent
back. -/
def completeRetireMatch (f : KeyFilter) (s : State) : State :=
  let found := matchingPlaces s.stb f 0
  let inService := found.filter fun i => (s.record i).any fun r => decide (r.state ≠ .retiring)
  let back := sendBackAll (fun e => inService.any e.uses) s
  let s' := inService.foldl (fun s i => leaveService i s) back.2
  let freed := occupiedPlaces s.stb - occupiedPlaces s'.stb
  let retiring := found.countP fun i => (s'.record i).any fun r => decide (r.state = .retiring)
  hostDone 36 (putU8 freed ++ putU8 retiring ++ putU8 back.1) s'

/-- REC_RETIRE_MATCH_COMPLETION. -/
def execRecRetireMatchCompletion (s : State) : Host.Outcome State Fault Refusal :=
  match s.rse.inFlight with
  | .host (.retireMatch f) => .next (completeRetireMatch f s)
  | _ => .next s

/-- A record image as the part sends it (R17, R207). -/
def imageBytes (gen : Nat) (r : Record) : List Byte :=
  putKey r.key ++ putShape r.strat ++ putOverrides r.strat.overrides ++ putU8 r.strat.dt ++ putS16 r.corr ++ putU24 r.onTime
    ++ putU24 r.ageThreshold ++ putU8 r.state.toNat ++ putU8 gen ++ putU8 r.pins

/-- R17: REC_READ. -/
def serveRecRead (p : List Byte) (s : State) : State :=
  withHandle 37 (u8 p 0) (u8 p 1) (fun r s => answer 37 .ok (imageBytes (u8 p 1) r) s) s

/-- REC_READ. -/
def execRecRead (w : HostWrite) (s : State) : Host.Outcome State Fault Refusal :=
  .next (request 37 2 w serveRecRead s)

end Sys2Proof.Machine
end

