-- ==== Sys2Proof/Machine/Reset.lean ====
section
/-! DEFINITION. The three reset kinds, block by block (R20, R34, R56, R104, R124, R142, R165, R187, R193, R196, R198, R206). -/

namespace Sys2Proof.Machine

/-- A place after a soft reset (R20): a RETIRING record is freed, other records are kept with no pin. -/
def Place.softReset (p : Place) : Place :=
  { p with held := p.held.bind fun r => if r.state = .retiring then none else some { r with pins := 0 } }

/-- The RETIRING records of a slot (R34). -/
def retiringOf (places : List Place) (slot : Nat) : Nat :=
  places.countP fun p => p.held.any fun r => decide (r.state = .retiring ∧ r.key.media = slot)

/-- A slot after a soft reset (R34): a MOUNTED slot becomes KNOWN, and the count loses the RETIRING records freed. -/
def Slot.softReset (places : List Place) (i : Nat) (m : Slot) : Slot :=
  { m with
    state := if m.state = .mounted then .known else m.state
    records := m.records - retiringOf places i }

/-- The Pickup Position Unit after a soft reset (R124). -/
def Pkp.softReset (k : Pkp) : Pkp :=
  { k with
    wobCount := 0, wobMarks := 0, halfPassed := false, measurement := none, focus := .unknown, jumpTimer := none
    fjTarget := 0, fjStrobe := false }

/-- The Power Loop after a soft reset (R165). -/
def Plp.softReset (l : Plp) : Plp := { l with tempTicks := 0, returns := ReturnAcc.empty, track := TrackAcc.empty }

/-- The lines as the first observations after a reset of any kind find them, which raise no event (R104, R124, R187); LDWARN and LDTRIP are
observed afresh, an asserted line by a command of its own. -/
def foundLines (f : FoundLines) : Lines :=
  { wgate := f.wgate, keep := f.keep, sla := f.sla, slb := f.slb, shome := f.shome, fok := f.fok, flay := f.flay
    ldwarn := false, ldtrip := false }

/-- The notice set after a pin or soft reset (R196). -/
def Notices.afterReset (c : ResetCause) : Notices := { Notices.empty with reset := some c }

/-- POWER_ON_RESET.  As at every reset kind, a mark whose run began before it is not written (R142). -/
def execPowerOnReset (found : FoundLines) (s : State) : Host.Outcome State Fault Refusal :=
  .next { State.reset with pgn := s.pgn.closed, lines := foundLines found, pending := s.pending }

/-- PIN_RESET: as power-on reset, but for the cause and the supply warning flag, which is kept (R187). -/
def execPinReset (found : FoundLines) (s : State) : Host.Outcome State Fault Refusal :=
  .next
    { State.reset with
      wgd := { keepalive := none, tickTaken := false, supplyWarn := s.wgd.supplyWarn }
      pgn := s.pgn.closed
      cpt := { Cpt.reset with notices := Notices.afterReset .pin, lastReset := .pin }
      lines := foundLines found
      pending := s.pending }

/-- R201: SOFT_RESET is taken in one event at every block, and its OK response is formed. -/
def serveSoftReset (found : FoundLines) (_p : List Byte) (s : State) : State :=
  answerStatus 132 .ok
    { s with
      stb := s.stb.map Place.softReset
      mst := s.mst.mapIdx (Slot.softReset s.stb)
      rse := Rse.reset
      sgq := Sgq.reset
      flk := Flk.reset
      pkp := s.pkp.softReset
      pgn := s.pgn.closed
      plp := s.plp.softReset
      lsc := Lsc.reset
      wgd := { s.wgd with keepalive := none, tickTaken := false }
      cpt := { s.cpt with busyReply := none, reading := none, writing := none, notices := Notices.afterReset .command, lastReset := .command }
      act := s.act.map ({ · with value := 0 })
      lines := foundLines found }

/-- SOFT_RESET. -/
def execSoftReset (r : ResetWrite) (s : State) : Host.Outcome State Fault Refusal :=
  .next (request 132 0 r.write (serveSoftReset r.found) s)

end Sys2Proof.Machine
end

