-- ==== Sys2Proof/Machine/Dispatch.lean ====
section
/-! DEFINITION. The dispatch: one arm per command, each a direct call of its meaning. -/

namespace Sys2Proof.Machine

def exec (i : Instr) (s : State) : Host.Outcome State Fault Refusal :=
  match i with
  | .mediaInstall w => Sys2Proof.Machine.execMediaInstall w s
  | .mediaAmend w => Sys2Proof.Machine.execMediaAmend w s
  | .mediaMount w => Sys2Proof.Machine.execMediaMount w s
  | .mediaUnmount w => Sys2Proof.Machine.execMediaUnmount w s
  | .mediaRetire w => Sys2Proof.Machine.execMediaRetire w s
  | .mediaRead w => Sys2Proof.Machine.execMediaRead w s
  | .recInstall w => Sys2Proof.Machine.execRecInstall w s
  | .recAmend w => Sys2Proof.Machine.execRecAmend w s
  | .recPromote w => Sys2Proof.Machine.execRecPromote w s
  | .recRetire w => Sys2Proof.Machine.execRecRetire w s
  | .recRetireMatch w => Sys2Proof.Machine.execRecRetireMatch w s
  | .recRead w => Sys2Proof.Machine.execRecRead w s
  | .recFind w => Sys2Proof.Machine.execRecFind w s
  | .recScan w => Sys2Proof.Machine.execRecScan w s
  | .diodeSet w => Sys2Proof.Machine.execDiodeSet w s
  | .diodeRead w => Sys2Proof.Machine.execDiodeRead w s
  | .limitsSet w => Sys2Proof.Machine.execLimitsSet w s
  | .zoneMap w => Sys2Proof.Machine.execZoneMap w s
  | .speedMap w => Sys2Proof.Machine.execSpeedMap w s
  | .pickupRead w => Sys2Proof.Machine.execPickupRead w s
  | .laserOn w => Sys2Proof.Machine.execLaserOn w s
  | .laserOff w => Sys2Proof.Machine.execLaserOff w s
  | .holdClear w => Sys2Proof.Machine.execHoldClear w s
  | .supplyAck w => Sys2Proof.Machine.execSupplyAck w s
  | .queueRead w => Sys2Proof.Machine.execQueueRead w s
  | .queueAbort w => Sys2Proof.Machine.execQueueAbort w s
  | .counterSet w => Sys2Proof.Machine.execCounterSet w s
  | .counterRead w => Sys2Proof.Machine.execCounterRead w s
  | .settings w => Sys2Proof.Machine.execSettings w s
  | .status w => Sys2Proof.Machine.execStatus w s
  | .noticesRead w => Sys2Proof.Machine.execNoticesRead w s
  | .ident w => Sys2Proof.Machine.execIdent w s
  | .softReset r => Sys2Proof.Machine.execSoftReset r s
  | .unknownRequest code w => Sys2Proof.Machine.execUnknownRequest code w s
  | .responseRead phase => Sys2Proof.Machine.execResponseRead phase s
  | .powerOnReset found => Sys2Proof.Machine.execPowerOnReset found s
  | .pinReset found => Sys2Proof.Machine.execPinReset found s
  | .seg b1 b2 b3 b4 => Sys2Proof.Machine.execSeg b1 b2 b3 b4 s
  | .cancel b1 => Sys2Proof.Machine.execCancel b1 s
  | .endMsg b1 => Sys2Proof.Machine.execEndMsg b1 s
  | .linkMessageDiscarded msg => Sys2Proof.Machine.execLinkMessageDiscarded msg s
  | .resyncIdleByte => Sys2Proof.Machine.execResyncIdleByte s
  | .segmentLookupCompletion => Sys2Proof.Machine.execSegmentLookupCompletion s
  | .recFindCompletion => Sys2Proof.Machine.execRecFindCompletion s
  | .recScanCompletion => Sys2Proof.Machine.execRecScanCompletion s
  | .recRetireMatchCompletion => Sys2Proof.Machine.execRecRetireMatchCompletion s
  | .wgateRise => Sys2Proof.Machine.execWgateRise s
  | .wgateFall => Sys2Proof.Machine.execWgateFall s
  | .writeBack => Sys2Proof.Machine.execWriteBack s
  | .msTick => Sys2Proof.Machine.execMsTick s
  | .keepaliveExpiry => Sys2Proof.Machine.execKeepaliveExpiry s
  | .keepStrobe => Sys2Proof.Machine.execKeepStrobe s
  | .settleExpiry => Sys2Proof.Machine.execSettleExpiry s
  | .ldtripAssert => Sys2Proof.Machine.execLdtripAssert s
  | .ldwarnAssert => Sys2Proof.Machine.execLdwarnAssert s
  | .temperatureSample reading => Sys2Proof.Machine.execTemperatureSample reading s
  | .markRead wdata count => Sys2Proof.Machine.execMarkRead wdata count s
  | .markStart => Sys2Proof.Machine.execMarkStart s
  | .spaceSample => Sys2Proof.Machine.execSpaceSample s
  | .peakSample reading => Sys2Proof.Machine.execPeakSample reading s
  | .returnSample reading => Sys2Proof.Machine.execReturnSample reading s
  | .sledStep sla slb shome => Sys2Proof.Machine.execSledStep sla slb shome s
  | .wobPulse => Sys2Proof.Machine.execWobPulse s
  | .measurementCompletion => Sys2Proof.Machine.execMeasurementCompletion s
  | .fokRise flay => Sys2Proof.Machine.execFokRise flay s
  | .fokFall => Sys2Proof.Machine.execFokFall s
  | .flayChange flay => Sys2Proof.Machine.execFlayChange flay s
  | .jumpTimerExpiry => Sys2Proof.Machine.execJumpTimerExpiry s
  | .ldwarnDeassert => Sys2Proof.Machine.execLdwarnDeassert s
  | .ldtripDeassert => Sys2Proof.Machine.execLdtripDeassert s
  | .linkBytePeriod rx => Sys2Proof.Machine.execLinkBytePeriod rx s
  | .outputLevelChange => Sys2Proof.Machine.execOutputLevelChange s
  | .spaceMidpointReading reading => Sys2Proof.Machine.execSpaceMidpointReading reading s

end Sys2Proof.Machine
end

