-- ==== Sys2Proof/Safety.lean ====
section
/-! DEFINITION. What a safe state of the part is: the promises that spec/ makes of every state, in the order of its chapters.  Each is
a decidable property of one state; the claims say that `State.reset` has it and that every step keeps it. -/

namespace Sys2Proof.Safety

open Sys2Proof.Machine

/-! ### Strategy Table and Media Slot Table -/

/-- The records that the places hold. -/
def held (places : List Place) : List Record := places.filterMap (·.held)

/-- The fields of a write strategy within their ranges, the powers in order and the override list ascending (R4, R6, R7). -/
def strategyInRange (st : Strategy) : Bool :=
  st.powersInRange && st.shapeInRange && overridesInRange st.overrides.length st.overrides && decide (st.dt ≤ 255)
    && st.powersOrdered && st.overridesAscending

/-- A record within its ranges (R4). -/
def recordInRange (r : Record) : Bool :=
  decide (r.key.media ≤ 7 ∧ r.key.layer ≤ 3 ∧ r.key.zone ≤ 23 ∧ r.key.speed ≤ 3) && strategyInRange r.strat && corrInRange r.corr
    && decide (r.onTime ≤ Config.maxOnTime ∧ r.ageThreshold ≤ Config.maxOnTime)

/-- A working copy within the ranges its fields come from (R45, R93, R157). -/
def copyInRange : Copy → Bool
  | .strategy wc =>
    strategyInRange wc.strat && corrInRange wc.running && corrInRange wc.initial && decide (wc.tally ≤ Config.maxOnTime)
  | _ => true

/-- A slot within its ranges (R22, R23): a FREE slot is empty, another has one to four layers with settings in range. -/
def slotInRange (m : Slot) : Bool :=
  if m.state = .free then decide (m = Slot.empty)
  else decide (1 ≤ m.layers.length ∧ m.layers.length ≤ 4) && m.layers.all LayerSettings.inRange

/-- The eight slots: each within its ranges, at most one MOUNTED, and no identity held twice (R21 to R24). -/
abbrev MediaTableHolds (s : State) : Prop :=
  s.mst.length = 8 ∧ s.mst.all slotInRange = true ∧ s.mst.countP (·.state = .mounted) ≤ 1
    ∧ ((s.mst.filter (·.state ≠ .free)).map (·.identity)).Nodup

/-- The 96 places: every record and every working copy within its ranges, every generation 0..255 (R3, R4, R10). -/
abbrev RecordsInRange (s : State) : Prop :=
  s.stb.length = 96 ∧ s.stb.all (fun p => decide (p.gen ≤ 255)) = true ∧ (held s.stb).all recordInRange = true
    ∧ s.sgq.queue.all (fun e => copyInRange e.copy) = true ∧ s.mst.all slotInRange = true

/-- Each slot's record count is the number of records whose key names it, and every record names a slot that is not FREE (R33). -/
abbrev CountsAgree (s : State) : Prop :=
  (∀ i < s.mst.length, (s.mst[i]?).map (·.records) = some ((held s.stb).countP (·.key.media = i)))
    ∧ (held s.stb).all (fun r => (s.mst[r.key.media]?).any (·.state ≠ .free)) = true
    ∧ s.mst.all (fun m => decide (m.state = .free → m = Slot.empty)) = true

/-- For each key at most one record that is ACTIVE or SUSPECT and at most one that is PROVISIONAL (R13). -/
abbrev KeysLimited (s : State) : Prop :=
  (((held s.stb).filter Record.usable).map (·.key)).Nodup
    ∧ (((held s.stb).filter (·.state = .provisional)).map (·.key)).Nodup

/-! ### Segment Queue -/

/-- The six entries: positions 0..5 and tags 0..15, each held once, kinds charged to classes that admit them, and every class
within its allotment (R80, R82, R83). -/
abbrev QueueWithinCredits (s : State) : Prop :=
  (s.sgq.queue.map (·.pos)).Nodup ∧ (s.sgq.queue.map (·.tag)).Nodup
    ∧ s.sgq.queue.all (fun e => decide (e.pos < 6 ∧ e.tag < 16) && e.cls.admits e.kind) = true
    ∧ s.sgq.occupied .w ≤ 2 ∧ s.sgq.occupied .r ≤ 1 ∧ s.sgq.occupied .s ≤ 3

/-- Whether an entry still waits behind the head or for its turn. -/
def waits (e : Entry) : Bool := decide (e.state = .pending ∨ e.state = .resolving ∨ e.state = .ready)

/-- Whether an entry pins its sources (R11). -/
def pins (e : Entry) : Bool :=
  decide (e.state = .ready ∨ e.state = .arming ∨ e.state = .armed ∨ e.state = .active ∨ e.state = .closing)

/-- A working copy has two sources when it is DERIVED and one otherwise (R47). -/
def sourcesFit (wc : WorkingCopy) : Bool :=
  match wc.kind with
  | .derived => decide (wc.sources.length = 2)
  | .exact | .exactTrial | .borrowed => decide (wc.sources.length = 1)

/-- What an entry holds fits its kind and state: a READ entry its read power, a PENDING or RESOLVING write nothing, any other write a
working copy with the sources of its kind (R47, R82, R84, R85). -/
def copyFits (e : Entry) : Bool :=
  match e.kind, e.copy with
  | .read, .read _ => decide (e.state = .ready ∨ e.state = .arming ∨ e.state = .active)
  | .write, .none | .trial, .none => decide (e.state = .pending ∨ e.state = .resolving)
  | .write, .strategy wc | .trial, .strategy wc => pins e && sourcesFit wc
  | _, _ => false

/-- Only the head is armed or runs, a head that is READY has begun arming, and every entry's copy fits it (R82, R86). -/
abbrev QueueShaped (s : State) : Prop :=
  QueueWithinCredits s ∧ (s.sgq.queue.drop 1).all waits = true ∧ s.sgq.queue.all copyFits = true
    ∧ s.sgq.queue.head?.all (fun h => decide (h.state ≠ .ready)) = true

/-- Each record's pin count is the number of READY to CLOSING entries that name it as a source; a pinned record belongs to the mounted
slot, a RETIRING record is pinned, and every source is held (R11, R15). -/
abbrev PinsAgree (s : State) : Prop :=
  QueueShaped s
    ∧ (∀ i < s.stb.length, ∀ r ∈ s.record i,
        r.pins = s.sgq.queue.countP (·.uses i) ∧ (r.pins ≠ 0 → s.mountedIndex = some r.key.media)
          ∧ (r.state = .retiring → r.pins ≠ 0))
    ∧ s.sgq.queue.all (fun e => e.sources.all fun h => (s.record h.index).isSome) = true
    ∧ s.sgq.queue.all (fun e => decide (e.sources.map (·.index)).Nodup) = true
    ∧ (s.sgq.queue.any Entry.isWrite = true → s.mountedIndex.isSome = true)

/-- The hold causes, timers and return state fit the laser state, and a sample waits to be taken only in a HOLD by SUPPLY_TRIP (R166, R173,
R178). -/
abbrev LaserConsistent (s : State) : Prop :=
  ((s.lsc.laser = .settling ∨ s.lsc.laser = .read ∨ s.lsc.laser = .write) → s.lsc.causes = HoldCauses.empty)
    ∧ (s.lsc.laser = .hold → s.lsc.causes ≠ HoldCauses.empty)
    ∧ (s.lsc.settle.isSome = true ↔ s.lsc.laser = .settling)
    ∧ (s.lsc.ret.isSome = true ↔ s.lsc.laser = .hold)
    ∧ (s.wgd.keepalive.isSome = true ↔ s.lsc.laser = .write)
    ∧ (s.lsc.offered.isSome = true → s.lsc.laser = .hold ∧ s.lsc.causes.supplyTrip = true)

/-- WRITE holds exactly while the head is an ACTIVE write under an asserted gate with focus STEADY on its layer and no hold cause; an
ARMED or ACTIVE head has its focus and a laser that reads or writes (R91, R121, R166, R171). -/
abbrev WriteGuarded (s : State) : Prop :=
  QueueShaped s ∧ LaserConsistent s
    ∧ (s.lsc.laser = .write ↔ s.sgq.activeWrite.isSome = true)
    ∧ (s.lsc.laser = .write → s.lines.wgate = true)
    ∧ (s.sgq.queue.head?.any (fun e => decide (e.state = .armed ∨ e.state = .active)) = true →
        s.lsc.laser = .read ∨ s.lsc.laser = .write)
    ∧ s.sgq.queue.head?.all
        (fun e => decide ((e.state = .armed ∨ e.state = .active) → s.pkp.focus = .steady e.layer)) = true

/-! ### Formatter Link and Command Port -/

/-- The outgoing queue holds at most 32 messages, each of six bytes that sum to 0, and the incoming side fewer than six (R78, R79). -/
abbrev LinkHolds (s : State) : Prop :=
  s.flk.out.length ≤ 32 ∧ s.flk.out.all (fun m => decide (m.length = 6 ∧ m.sum = 0)) = true
    ∧ s.flk.sent ≤ 5 ∧ (s.flk.out = [] → s.flk.sent = 0) ∧ s.flk.rx.length ≤ 5 ∧ (s.flk.side = .resync → s.flk.rx = [])

/-- The request code of a host lookup. -/
def lookupCode : HostLookup → Byte
  | .find _ _ => 38
  | .scan _ _ => 39
  | .retireMatch _ => 36

/-- The host lookup that waits or is in flight (R35). -/
def hostLookup (r : Rse) : Option HostLookup :=
  match r.waiting, r.inFlight with
  | some q, _ => some q
  | none, .host q => some q
  | _, _ => none

/-- The code of the request the port serves. -/
def servedCode (c : Cpt) : Option Byte :=
  match c.port with
  | .serving code => some code
  | _ => none

/-- Whether a segment lookup is in flight, its entry still held or gone (R35, R50). -/
def segmentInFlight (r : Rse) : Bool :=
  match r.inFlight with
  | .segment _ _ | .gone _ _ => true
  | _ => false

/-- The port serves exactly the host lookup of the engine; a host request waits only behind a segment lookup and through at most two
completions; a response read in progress acts on what the port still holds (R35, R38, R39, R188, R190). -/
abbrev PortHolds (s : State) : Prop :=
  servedCode s.cpt = (hostLookup s.rse).map lookupCode
    ∧ (s.rse.waiting = none → s.rse.waitCount = 0) ∧ s.rse.waitCount ≤ 1
    ∧ (s.rse.waiting.isSome = true → segmentInFlight s.rse = true)
    ∧ (s.cpt.port = .idle → s.cpt.busyReply = none)
    ∧ (∀ r ∈ s.cpt.reading, r.acts = .response → s.cpt.port = .responseReady r.frame ∧ s.cpt.busyReply = none)

/-! ### Settings, Pickup Position Unit and Power Loop -/

/-- Every setting within its range (R197). -/
abbrev SettingsInRange (s : State) : Prop :=
  let n := s.cpt.settings
  n.gain ≤ 15 ∧ (2 ≤ n.deriveSpan ∧ n.deriveSpan ≤ 8) ∧ n.borrowDistance ≤ 3 ∧ n.deriveWarn ≤ 160
    ∧ (1 ≤ n.keepPeriod ∧ n.keepPeriod ≤ 16) ∧ (2 ≤ n.jumpTimeout ∧ n.jumpTimeout ≤ 30) ∧ n.jumpRetries ≤ 3
    ∧ (1 ≤ n.settleTime ∧ n.settleTime ≤ 20) ∧ (-160 ≤ n.hotLimit ∧ n.hotLimit ≤ 400) ∧ n.tripMargin ≤ 63 ∧ n.guardBand ≤ 255

/-- Whether a jump is under way. -/
def jumping : FocusState → Bool
  | .jumping _ _ => true
  | _ => false

/-- The Pickup Position Unit within its ranges, with a running jump timer exactly in JUMPING and a requester only then (R88, R105,
R111, R115 to R118). -/
abbrev PickupInRange (s : State) : Prop :=
  s.pkp.sled ≤ Config.maxSled ∧ s.pkp.wobCount ≤ Config.maxWobble ∧ s.pkp.measurement.all (· ≤ Config.maxWobble) = true
    ∧ (s.pkp.zoneMap.length = 23 ∧ s.pkp.zoneMap.Pairwise (· < ·)
        ∧ s.pkp.zoneMap.all (fun b => decide (1 ≤ b ∧ b ≤ Config.maxSled)) = true)
    ∧ (s.pkp.windows.length = 4 ∧ s.pkp.windows.all (fun w => decide (w.lo ≤ w.hi ∧ w.hi ≤ 65534)) = true
        ∧ windowsDisjoint s.pkp.windows = true)
    ∧ (s.pkp.jumpTimer.isSome = true ↔ jumping s.pkp.focus = true)
    ∧ (s.sgq.requester.isSome = true → s.pkp.jumpTimer.isSome = true)

/-- The Power Loop within its ranges (R143, R145, R146, R156, R159). -/
abbrev PowerLoopInRange (s : State) : Prop :=
  s.plp.diode.inRange = true
    ∧ s.plp.limits.all (fun l => decide (1 ≤ l.pd ∧ l.pd ≤ Config.maxPower ∧ 1 ≤ l.imax ∧ l.imax ≤ 4095)) = true
    ∧ s.plp.sample.all (fun t => decide (Config.minTemp ≤ t ∧ t ≤ Config.maxTemp)) = true
    ∧ s.plp.returns.count < Config.returnSamples ∧ s.plp.track.spaceCount ≤ Config.trackSamples
    ∧ s.plp.track.peakCount < Config.trackSamples
    ∧ (s.plp.track.ib = none → s.plp.track.spaceCount = 0) ∧ (s.plp.track.ip = none → s.plp.track.peakCount = 0)

/-! ### Laser and codes -/

/-- Every code of a set at or below a bound. -/
def codesWithin (bound : Nat) (c : CodeSet) : Bool :=
  decide (c.read ≤ bound ∧ c.space ≤ bound ∧ c.peak ≤ bound ∧ c.cool ≤ bound)

/-- The bound of the codes: Imax, and 0 while no limits have been set. -/
def codeBound (l : Option Limits) : Nat := (l.map (·.imax)).getD 0

/-- No code presented or waiting exceeds Imax, and without limits every code is 0 (R145, R154). -/
abbrev CodesBounded (s : State) : Prop :=
  codesWithin (codeBound s.plp.limits) s.pgn.presented = true ∧ s.pgn.waiting.all (codesWithin (codeBound s.plp.limits)) = true

/-- Outside WRITE the write period is closed: READ is selected, nothing of a train is left, no set waits and no sample is accumulated
(R127, R135, R140, R156, R159). -/
abbrev WritePeriodFits (s : State) : Prop :=
  s.lsc.laser ≠ .write →
    s.pgn = { s.pgn.closed with presented := s.pgn.presented } ∧ s.plp.returns = ReturnAcc.empty ∧ s.plp.track = TrackAcc.empty

/-- A disabled laser is given no current (R148, R166, R167). -/
abbrev DarkMeansNoCurrent (s : State) : Prop := s.lsc.len = false → s.pgn.presented = CodeSet.zero

/-- The laser's promises together. -/
abbrev LaserSafe (s : State) : Prop := LaserConsistent s ∧ WritePeriodFits s ∧ DarkMeansNoCurrent s

end Sys2Proof.Safety
end

