-- ==== Sys2Proof/Certificates/Slice0/Obligations.lean ====
section
/-! DEFINITION. The statements for the provers.  `Sys2Proof.Stated` holds what several statements share: the bytes of a request frame, the
state around a request write, and facts written from the rules; each `Obligations.<Name>` is one statement. -/

namespace Sys2Proof.Stated

open Sys2Proof.Machine

/-- A request frame with payload `p` (R188, R207), received whole. -/
def frame (p : List Byte) : HostWrite := .whole (putU16 p.length ++ p)

/-- The bytes clocked in after the request code. -/
def received : HostWrite → List Byte
  | .firstByte => []
  | .release body => body
  | .whole body => body

/-- The state `t` that a request write taken whole in `s` leaves, with its transaction over (R188): the port status byte of `s` and then 0
have gone out. -/
def clocked (w : HostWrite) (s t : State) : State :=
  { t with cpt :=
      { t.cpt with
        reading := none, writing := none, spiOut := s.cpt.statusByte :: List.replicate (received w).length 0 } }

/-- The part with a response frame waiting (R189, R190). -/
def replied (code : Byte) (status : Status) (payload : List Byte) (s : State) : State :=
  { s with cpt := { s.cpt with port := .responseReady { status, code, payload } } }

/-- A request refused with a status and no payload, which changes nothing else (R57, R191). -/
def refused (code : Byte) (status : Status) (w : HostWrite) (s : State) : State := clocked w s (replied code status [] s)

/-- The status that a list of checks gives, each with its status on failure: that of the first check that fails. -/
def firstRefusal (checks : List (Bool × Status)) : Option Status := (checks.find? fun c => !c.1).map (·.2)

/-- The checks of a slot index and of its slot not being FREE (R21). -/
def slotChecks (s : State) (i : Nat) : List (Bool × Status) :=
  [(decide (i ≤ 7), .badField), ((s.mst[i]?).any (·.state ≠ .free), .notFound)]

/-- The checks of a handle in their order, the last that of the record's state against the request (R16). -/
def handleChecks (s : State) (i gen : Nat) (admits : Record → Bool) : List (Bool × Status) :=
  [(decide (i ≤ 95), .badField), ((s.record i).isSome, .notFound), (decide ((s.stb[i]?).map (·.gen) = some gen), .stale),
    ((s.record i).any admits, .state)]

/-- The fields of a layer settings entry within their ranges (R23, R25). -/
def layerFits (l : LayerSettings) : Bool :=
  decide ((4 ≤ l.readPower ∧ l.readPower ≤ 60) ∧ (1 ≤ l.ceiling ∧ l.ceiling ≤ 1200) ∧ l.ageDefault ≤ 16777215)

/-- The ranges of a record image's fields (R4, R12): powers, shape, override list with its entry count, and correction. -/
def powersFit (st : Strategy) : Bool := decide ((1 ≤ st.pp ∧ st.pp ≤ 1200) ∧ st.ps ≤ 1200 ∧ st.pc ≤ 1200)
def shapeFits (st : Strategy) : Bool :=
  decide ((-16 ≤ st.dT ∧ st.dT ≤ 15) ∧ (4 ≤ st.tf ∧ st.tf ≤ 64) ∧ (4 ≤ st.tm ∧ st.tm ≤ 32) ∧ (4 ≤ st.tl ∧ st.tl ≤ 48) ∧ st.tc ≤ 64)
def overridesFit (count : Nat) (st : Strategy) : Bool :=
  decide (count ≤ 4) && st.overrides.all fun o =>
    decide ((2 ≤ o.len ∧ o.len ≤ 8) ∧ (-8 ≤ o.lead ∧ o.lead ≤ 7) ∧ (-8 ≤ o.cool ∧ o.cool ≤ 7))
def corrFits (c : Int) : Bool := decide (-160 ≤ c ∧ c ≤ 160)

/-- The order of the powers (R6) and of the override list (R7). -/
def powersInOrder (st : Strategy) : Bool := decide (st.pc ≤ st.ps ∧ st.ps ≤ st.pp)
def overridesInOrder (st : Strategy) : Bool := decide ((st.overrides.map (·.len)).Pairwise (· < ·))

/-- Whether the key filter at offset `i` of a payload lies within its bounds (R18, R207). -/
def filterFits (p : List Byte) (i : Nat) : Bool :=
  let one := fun (k top : Nat) => decide (u8 p (i + k) ≤ top ∨ u8 p (i + k) = 255)
  one 0 7 && one 1 3
    && decide (u8 p (i + 2) ≤ u8 p (i + 3) ∧ u8 p (i + 3) ≤ 23 ∨ u8 p (i + 2) = 255 ∧ u8 p (i + 3) = 255) && one 4 3

/-- A set as its field: member number k at weight 2 to the power k (R207). -/
def setCode (members : List Bool) : Nat := (members.mapIdx fun k b => if b then 2 ^ k else 0).sum

/-- The set of notice kinds, in the order of R194. -/
def kindSet (n : Notices) : Nat :=
  setCode [n.aged.isSome, n.suspect.isSome, n.needsRecord.isSome, n.holdEntered, n.supplyWarn, n.tempRange, n.diodeTrackLimit,
    n.overdrive, n.counterWrap.isSome, n.linkFault, n.positionLost, n.focusLost, n.reset.isSome]

/-- A record image in the order of its bytes (R207). -/
def recordImage (gen : Nat) (r : Record) : List Byte :=
  let st := r.strat
  let entries := st.overrides.flatMap fun o => putU8 o.len ++ putS8 o.lead ++ putS8 o.cool
  putU8 r.key.media ++ putU8 r.key.layer ++ putU8 r.key.zone ++ putU8 r.key.speed ++ putU16 st.pp ++ putU16 st.ps ++ putU16 st.pc
    ++ putS8 st.dT ++ putU8 st.tf ++ putU8 st.tm ++ putU8 st.tl ++ putU8 st.tc
    ++ putU8 st.overrides.length ++ (entries ++ List.replicate 12 0).take 12
    ++ putU8 st.dt ++ putS16 r.corr ++ putU24 r.onTime ++ putU24 r.ageThreshold
    ++ (match r.state with
      | .provisional => [1]
      | .active => [2]
      | .suspect => [3]
      | .retiring => [4])
    ++ putU8 gen ++ putU8 r.pins

/-- A key filter in the order of its bytes, 255 for any (R207). -/
def filterBytes (f : KeyFilter) : List Byte :=
  let field := fun o : Option Nat => putU8 (o.getD 255)
  field f.media ++ field f.layer
    ++ (match f.zone with
      | some (lo, hi) => putU8 lo ++ putU8 hi
      | none => [255, 255])
    ++ field f.speed

/-- A key matches a filter: each of media, layer and speed class is any or equal, and the zone is any or within its range (R19). -/
def filterTakes (f : KeyFilter) (k : Key) : Bool :=
  decide ((f.media = none ∨ f.media = some k.media) ∧ (f.layer = none ∨ f.layer = some k.layer)
    ∧ (∀ z ∈ f.zone, z.1 ≤ k.zone ∧ k.zone ≤ z.2) ∧ (f.speed = none ∨ f.speed = some k.speed))

/-- A link message: its code, four payload bytes and the byte that makes all six sum to 0 (R207). -/
def message (code b1 b2 b3 b4 : Byte) : List Byte := [code, b1, b2, b3, b4, 0 - (code + b1 + b2 + b3 + b4)]

/-- The class codes of the link (R207). -/
def classCode : CreditClass → Nat
  | .w => 1
  | .r => 2
  | .s => 3

/-- READY, DONE and REJECT as their bytes; REJECT with the class half as received (R207). -/
def readyBytes (tag : Nat) : List Byte := message 162 (BitVec.ofNat 8 (tag * 16)) 0 0 0
def doneBytes (tag : Nat) (cls : CreditClass) (o : DoneOutcome) (w : Warnings) : List Byte :=
  let outcomes : List DoneOutcome :=
    [.ok, .cancelled, .aborted, .guard, .noStrategy, .noTrial, .posUnknown, .zoneMismatch, .speedMismatch, .hot, .lowSupply, .jumpFail,
      .focusLost]
  message 163 (BitVec.ofNat 8 (tag * 16 + classCode cls)) (BitVec.ofNat 8 (outcomes.idxOf o))
    (BitVec.ofNat 8 (setCode [w.suspectSource, w.shape, w.clamped, w.overdrive, w.corrLimit, w.staleWriteback])) 0
def rejectBytes (tag cls : Nat) (r : RejectReason) (returned : Bool) : List Byte :=
  let reasons : List RejectReason := [.hold, .classViolation, .creditViolation, .dupTag, .noMedia, .badField]
  message 164 (BitVec.ofNat 8 (tag * 16 + cls)) (BitVec.ofNat 8 (reasons.idxOf r + 1)) (if returned then 1 else 0) 0

/-- The answer of NOTICES_READ (R195, R207): the kinds, the details that are keys, those of COUNTER_WRAP and RESET, and the notice enables. -/
def noticesAnswer (n : Notices) (enables : BitVec 13) : List Byte :=
  let key := fun k : Option Key => match k with
    | some k => putU8 k.media ++ putU8 k.layer ++ putU8 k.zone ++ putU8 k.speed
    | none => [0, 0, 0, 0]
  putU16 (kindSet n) ++ key n.aged ++ key n.suspect ++ key n.needsRecord
    ++ (match n.counterWrap with
      | some w => putU8 w.toNat
      | none => [0])
    ++ (match n.reset with
      | some .pin => [1]
      | some .command => [2]
      | _ => [0])
    ++ putU16 enables.toNat

/-- The thirteen settings as SETTINGS answers them (R197, R207). -/
def settingsAnswer (n : Settings) : List Byte :=
  [n.gain, n.deriveSpan, n.borrowDistance, n.deriveWarn, n.keepPeriod, if n.windowMode then 1 else 0, n.jumpTimeout, n.jumpRetries,
    n.settleTime].flatMap putU8 ++ putS16 n.hotLimit ++ putU8 n.tripMargin ++ putU8 n.guardBand ++ putU16 n.enables.toNat

/-- The counter events in the order of their codes, which run from 1 (R207). -/
def counterEvents : List CounterEvent :=
  [.lookupExact, .lookupDerived, .lookupBorrowed, .lookupMiss, .clampCeiling, .overdrive, .staleWriteback, .corrLimit, .edgeCollide,
    .shortMark, .longMark, .trackSkip, .writeMs, .queueOccupancy, .segmentFailed]

/-- One counter as COUNTER_READ answers it: its event code, its filter with 255 for any, and its value (R205, R207). -/
def counterAnswer (c : Counter) : List Byte :=
  (match c.event with
    | some ev => putU8 (counterEvents.idxOf ev + 1)
    | none => [0])
    ++ filterBytes c.filter ++ putU8 (c.value / 16777216) ++ putU24 c.value

/-- The request rows: code, payload length and command (R207); SOFT_RESET with the levels found after it. -/
def requests (found : FoundLines) : List (Byte × Nat × (HostWrite → Instr)) :=
  [(16, 31, .mediaInstall), (17, 26, .mediaAmend), (18, 1, .mediaMount), (19, 0, .mediaUnmount), (20, 1, .mediaRetire),
    (21, 1, .mediaRead), (32, 41, .recInstall), (33, 43, .recAmend), (34, 2, .recPromote), (35, 2, .recRetire),
    (36, 5, .recRetireMatch), (37, 2, .recRead), (38, 5, .recFind), (39, 6, .recScan), (48, 11, .diodeSet), (49, 0, .diodeRead),
    (50, 4, .limitsSet), (64, 46, .zoneMap), (65, 17, .speedMap), (66, 0, .pickupRead), (80, 0, .laserOn), (81, 0, .laserOff),
    (82, 0, .holdClear), (83, 0, .supplyAck), (96, 0, .queueRead), (97, 0, .queueAbort), (112, 7, .counterSet),
    (113, 1, .counterRead), (128, 17, .settings), (129, 0, .status), (130, 0, .noticesRead), (131, 0, .ident),
    (132, 0, fun w => .softReset ⟨w, found⟩)]

/-- The frame a response read clocks out (R190). -/
def waitingFrame (c : Cpt) : Frame :=
  match c.busyReply, c.port with
  | some code, _ => { status := .busy, code, payload := [] }
  | none, .responseReady f => f
  | none, .serving code => { status := .busy, code, payload := [] }
  | none, .idle => { status := .busy, code := 0, payload := [] }

/-- The answer of DIODE_READ (R164, R207). -/
def diodeAnswer (s : State) : List Byte :=
  let d := s.plp.diode
  let temp := s.plp.sample.getD d.tRef
  let line := diodeLine d temp
  let limits := match s.plp.limits with
    | some l => putU16 l.pd ++ putU16 l.imax ++ [1]
    | none => [0, 0, 0, 0, 0]
  let codes := s.pgn.presented
  putU16 d.ithRef ++ putU16 d.sRef ++ putS16 d.tRef ++ putS16 d.kI ++ putS16 d.kS ++ putU8 d.defaultRead ++ putBool s.plp.diodeValid
    ++ limits ++ putS16 (s.plp.sample.getD 0) ++ putBool s.plp.sample.isSome ++ putS16 temp ++ putU16 line.ith ++ putU16 line.slope
    ++ putU16 codes.read ++ putU16 codes.space ++ putU16 codes.peak ++ putU16 codes.cool ++ putBool s.pgn.waiting.isSome
    ++ putU8 s.plp.returns.count ++ putU8 s.plp.track.spaceCount ++ putU8 s.plp.track.peakCount
    ++ putU16 (s.plp.track.ib.getD 0) ++ putU16 (s.plp.track.ip.getD 0)

/-- The three bytes of a focus layer state (R117, R207). -/
def focusAnswer : FocusState → List Byte
  | .unknown => [0, 0, 0]
  | .steady l => [1, BitVec.ofNat 8 l, 0]
  | .jumping t left => [2, BitVec.ofNat 8 t, BitVec.ofNat 8 left]

/-- The answer of PICKUP_READ (R123, R207); an invalid measurement is sent as 0 (log entry 21). -/
def pickupAnswer (s : State) : List Byte :=
  let k := s.pkp
  let measured := match k.measurement with
    | some m => putU16 m ++ [1] ++ putOpt (k.windows.findIdx? fun w => decide (w.lo ≤ m ∧ m ≤ w.hi))
    | none => [0, 0, 0, 255]
  putU16 k.sled ++ putBool k.valid ++ (if k.valid = true then putU8 (k.zoneMap.countP (· ≤ k.sled)) else [255])
    ++ k.zoneMap.flatMap putU16 ++ putU8 s.cpt.settings.guardBand ++ putU8 k.interval.toNat
    ++ k.windows.flatMap (fun w => putU16 w.lo ++ putU16 w.hi) ++ measured ++ focusAnswer k.focus ++ putU8 k.fjTarget
    ++ putBool s.lines.fok ++ putU8 s.lines.flay

/-- One entry as QUEUE_READ shows it (R102, R207); what stands in the place of a copy not held or a ceiling not captured, and a read power in
one byte, are the model's choice (log entry 19). -/
def entryAnswer (e : Entry) : List Byte :=
  let copy := match e.copy with
    | .strategy wc =>
      putU8 wc.kind.toNat ++ putKey wc.key ++ putU8 wc.sources.length
        ++ wc.sources.flatMap (fun h => [BitVec.ofNat 8 h.index, BitVec.ofNat 8 h.gen]) ++ putS16 wc.running ++ putS16 wc.initial
        ++ putU24 wc.tally ++ putU8 e.warnings.toNat
    | .read p => [BitVec.ofNat 8 p]
    | .none => List.replicate 14 0
  putU8 e.pos ++ putU8 e.tag ++ putU8 e.kind.toNat ++ putU8 e.cls.toNat ++ putU8 e.state.toNat ++ putU8 e.layer ++ putU8 e.zone
    ++ putU8 e.speed ++ copy ++ (match e.captured with
      | some c => putU16 c.ceiling
      | none => [0, 0])

/-- The answer of QUEUE_READ (R102, R207). -/
def queueAnswer (s : State) : List Byte :=
  let charged := fun c : CreditClass => putU8 (s.sgq.queue.countP (·.cls = c))
  charged .w ++ charged .r ++ charged .s ++ putU8 s.sgq.queue.length ++ s.sgq.queue.flatMap entryAnswer ++ putOpt s.sgq.requester

/-- The answer of STATUS (R199, R207). -/
def statusAnswer (s : State) : List Byte :=
  let charged := fun c : CreditClass => putU8 (s.sgq.queue.countP (·.cls = c))
  let keepalive := match s.wgd.keepalive with
    | some k => [1, BitVec.ofNat 8 k.count, BitVec.ofNat 8 k.k]
    | none => [0, 0, 0]
  putU8 s.lsc.laser.toNat ++ putU8 s.lsc.causes.toNat
    ++ (match s.lsc.ret with
      | some .lit => [1]
      | some .dark => [2]
      | none => [0])
    ++ putBool s.wgd.supplyWarn ++ putBool s.lines.ldwarn ++ putBool s.lines.ldtrip ++ keepalive
    ++ putOpt (s.mst.findIdx? (·.state = .mounted)) ++ putU8 (s.mst.countP (·.state = .free)) ++ putU8 (s.stb.countP (·.held = none))
    ++ putU8 ((Safety.held s.stb).countP (·.state = .retiring))
    ++ charged .w ++ charged .r ++ charged .s
    ++ (match s.sgq.queue with
      | e :: _ => putU8 e.state.toNat
      | [] => [255])
    ++ putBool (decide (s.flk.side = .resync)) ++ putU8 s.flk.out.length
    ++ putBool s.plp.limits.isSome ++ putBool s.plp.diodeValid ++ putS16 (s.plp.sample.getD s.plp.diode.tRef)
    ++ putBool s.pkp.valid ++ focusAnswer s.pkp.focus
    ++ putU16 (kindSet s.cpt.notices) ++ putU8 s.cpt.lastReset.toNat

/-- What a complete response read empties (R190): the busy reply, or else the response frame, or nothing. -/
def waitingActs (c : Cpt) : ReadActs :=
  match c.busyReply, c.port with
  | some _, _ => .busyReply
  | none, .responseReady _ => .response
  | none, _ => .nothing

/-- The port after a complete read of its waiting frame (R190). -/
def afterRead (c : Cpt) : PortState :=
  match c.busyReply, c.port with
  | none, .responseReady _ => .idle
  | _, p => p

/-- A generator with its write period closed, all but the code sets (R127, R135, R142): nothing read but whether the last T of WDATA was of a
mark (R134), nothing to output. -/
def closed (g : Pgn) : Pgn :=
  { level := .read, read := 0, run := { mark := g.run.mark, len := 0, own := false }, lastEnd := none, edges := [], tail := none
    starts := [], mids := [], spaces := [], peaks := [], returns := [], held := none, early := none, presented := CodeSet.zero
    waiting := none }

/-- The positions of what the output timeline has next of each kind: the edge list, mark starts, midpoints, space, peak and return samples. -/
def upcoming (g : Pgn) : List Int :=
  [g.edges.map (·.pos), g.starts, g.mids, g.spaces, g.peaks, g.returns].flatMap fun l => l.take 1

/-- The output has come to position `p`, nine T behind WDATA (R126) and with nothing to come before it (R139). -/
def outputAt (g : Pgn) (p : Int) : Prop := p < 32 * ((g.read : Int) - 9) ∧ ∀ q ∈ upcoming g, p ≤ q

/-- The output has come to a peak sample at position `p`, and the space sample and the mark start at that position have gone before it (R139,
R140). -/
def peakDue (g : Pgn) (p : Int) : Prop := outputAt g p ∧ (∀ q ∈ g.starts.head?, p < q) ∧ ∀ q ∈ g.spaces.head?, p < q

/-- The state with its write period closed and its accumulations emptied (R135, R156, R159). -/
def periodClosed (s : State) : State :=
  { s with
    pgn := { closed s.pgn with presented := s.pgn.presented, waiting := s.pgn.waiting }
    plp := { s.plp with returns := ReturnAcc.empty, track := TrackAcc.empty } }

/-- The tally that the ACTIVE write of `s` has for the record in place `i`: its on-time tally when the record is one of its sources (R69). -/
def tallyFor (s : State) (i : Nat) : Option Nat :=
  match s.sgq.activeWrite with
  | some (e, wc) => if e.uses i = true then some wc.tally else none
  | none => none

/-- Whether the record `r` in place `i` ages when the ACTIVE write of `s` gets its partial write-back (R9, R70). -/
def ages (s : State) (i : Nat) (r : Record) : Prop :=
  ∃ n ∈ tallyFor s i, r.ageThreshold ≠ 0 ∧ r.onTime < r.ageThreshold ∧ r.ageThreshold ≤ min 16777215 (r.onTime + n)
    ∧ r.state ≠ .retiring

/-- No record changes between `s` and `t` but by releases and by the partial write-back of the write that is ACTIVE in `s` (R69, R70): each
source of that write takes its tally, turns SUSPECT where it was ACTIVE and ages, and AGED then names a record that aged; every other field
stands, pins only go, and a record goes only from RETIRING. -/
def PartlyWritten (s t : State) : Prop :=
  t.stb.map (·.gen) = s.stb.map (·.gen)
    ∧ (∀ i, (s.record i = none → t.record i = none)
      ∧ ∀ r, s.record i = some r →
        (t.record i = none ∧ r.state = .retiring)
          ∨ ∃ q, t.record i = some q ∧ q.pins ≤ r.pins
            ∧ q.onTime = (match tallyFor s i with
              | some n => min 16777215 (r.onTime + n)
              | none => r.onTime)
            ∧ (ages s i r → r.state = .active → q.state = .suspect)
            ∧ (¬ (ages s i r ∧ r.state = .active) → q.state = r.state)
            ∧ q = { r with pins := q.pins, onTime := q.onTime, state := q.state })
    ∧ ((∀ i r, s.record i = some r → ¬ ages s i r) → t.cpt.notices.aged = s.cpt.notices.aged)
    ∧ ∀ i r, s.record i = some r → ages s i r → ∃ j q, s.record j = some q ∧ ages s j q ∧ t.cpt.notices.aged = some q.key

/-- Hold entry from another laser state, as far as R174 and R100 fix it in every case: `t` is the state after cause `c` was raised in
`s`.  Only a trip of the supply may leave a sample to be taken in HOLD (R173, log entry 29). -/
def HoldEntered (c : HoldCause) (s t : State) : Prop :=
  let ended := s.sgq.queue.filter (·.state ≠ .closing)
  t.lsc = { laser := .hold, causes := s.lsc.causes.join c, settle := none,
            ret := some (if s.lsc.laser = .off then .dark else .lit), offered := t.lsc.offered }
    ∧ (c ≠ .supplyTrip ∨ s.lsc.laser ≠ .write → t.lsc.offered = none)
    ∧ t.wgd.keepalive = none
    ∧ t.sgq.queue.map (·.tag) = (s.sgq.queue.filter (·.state = .closing)).map (·.tag)
    ∧ (s.flk.out.length + ended.length ≤ 32 → t.flk.out = s.flk.out ++ ended.map fun e =>
        doneBytes e.tag e.cls (if e.state = .active ∧ e.kind ≠ .read then .guard else .aborted) e.warnings)
    ∧ t.cpt.notices.holdEntered = true
    ∧ PartlyWritten s t
    ∧ (s.lsc.laser = .write ∨ s.pgn.level = .read → t.pgn.level = .read)
    ∧ (t.lsc.len = false → t.pgn.presented = CodeSet.zero)
    ∧ t.pkp = s.pkp ∧ t.plp.diode = s.plp.diode ∧ t.plp.limits = s.plp.limits ∧ t.plp.sample = s.plp.sample
    ∧ t.cpt.settings = s.cpt.settings ∧ t.cpt.port = s.cpt.port ∧ t.wgd.supplyWarn = s.wgd.supplyWarn ∧ t.pending = s.pending

/-- The intake check that a descriptor fails first (R83). -/
def firstFailing (s : State) (d : Descriptor) : Option RejectReason :=
  let kind := SegKind.ofNat? d.kind
  let cls := CreditClass.ofNat? d.cls
  let layers := match s.mountedSlot with
    | some m => m.layers.length
    | none => 4
  let checks : List (Bool × RejectReason) :=
    [(decide (s.lsc.laser ≠ .hold), .hold),
     ((match kind, cls with
        | some k, some c => c.admits k
        | _, _ => false), .classViolation),
     (cls.all fun c => decide (s.sgq.occupied c < c.allotment), .creditViolation),
     (s.sgq.queue.all fun e => decide (e.tag ≠ d.tag), .dupTag),
     (decide (kind = some .read) || s.mountedSlot.isSome, .noMedia),
     (decide (d.layer < layers) && (decide (kind = some .read) || decide (d.zone ≤ 23 ∧ d.speed ≤ 3)), .badField)]
  (checks.find? fun c => !c.1).map (·.2)

/-- The record that a full write-back leaves of a source's record with generation `gen` (R70 to R74). -/
def writtenBack (wc : WorkingCopy) (limit : Bool) (h : Handle) (gen : Nat) (r : Record) : Option Record :=
  let onTime := min 16777215 (r.onTime + wc.tally)
  let crossed := decide (r.ageThreshold ≠ 0 ∧ r.onTime < r.ageThreshold ∧ r.ageThreshold ≤ onTime)
  let exact := decide (wc.kind = .exact ∨ wc.kind = .exactTrial)
  if r.state = .retiring ∧ r.pins ≤ 1 then none
  else some
    { r with
      onTime
      corr := if exact ∧ gen = h.gen then wc.running else r.corr
      state := if r.state = .active ∧ (crossed ∨ (exact ∧ gen = h.gen ∧ limit)) then .suspect else r.state
      pins := r.pins - 1 }

/-- A usable record of a key's media, layer and speed class in a zone, at the lowest place that holds one (R40). -/
def usableAt (places : List Place) (k : Key) (zone i : Nat) : Prop :=
  (∃ r ∈ sourceRecord places i, r.key = { k with zone } ∧ r.usable = true)
    ∧ ∀ j < i, ∀ r ∈ sourceRecord places j, r.key = { k with zone } → r.usable = false

/-- No usable record of the key's media, layer and speed class stands in a zone. -/
def noneUsable (places : List Place) (k : Key) (zone : Nat) : Prop :=
  ∀ i, ∀ r ∈ sourceRecord places i, r.key = { k with zone } → r.usable = false

/-- Whether the value offered for setting `k` lies outside its range (R197); guard band and notice enables cannot. -/
def offeredOutside (p : List Byte) : Nat → Bool
  | 0 => decide (15 < u8 p 2)
  | 1 => decide (u8 p 3 < 2 ∨ 8 < u8 p 3)
  | 2 => decide (3 < u8 p 4)
  | 3 => decide (160 < u8 p 5)
  | 4 => decide (u8 p 6 < 1 ∨ 16 < u8 p 6)
  | 5 => decide (1 < u8 p 7)
  | 6 => decide (u8 p 8 < 2 ∨ 30 < u8 p 8)
  | 7 => decide (3 < u8 p 9)
  | 8 => decide (u8 p 10 < 1 ∨ 20 < u8 p 10)
  | 9 => decide (s16 p 11 < -160 ∨ 400 < s16 p 11)
  | 10 => decide (63 < u8 p 13)
  | _ => false

/-- The outward order of the pair SLA, SLB (R106). -/
def outward : Bool × Bool → Bool × Bool
  | (false, false) => (false, true)
  | (false, true) => (true, true)
  | (true, true) => (true, false)
  | (true, false) => (false, false)

/-- POSITION_LOST and an invalid position (R108, R109). -/
def lost (s : State) : State :=
  { s with
    pkp := { s.pkp with valid := false }
    cpt := { s.cpt with notices := { s.cpt.notices with positionLost := true } } }

/-- A message joins the outgoing queue, or is discarded with LINK_FAULT when 32 messages are held (R79). -/
def sent (m : List Byte) (s : State) : State :=
  if s.flk.out.length < 32 then { s with flk := { s.flk with out := s.flk.out ++ [m] } }
  else { s with cpt := { s.cpt with notices := { s.cpt.notices with linkFault := true } } }

/-- An ignored message: LINK_FAULT and nothing else (R97, R98). -/
def faulted (s : State) : State := { s with cpt := { s.cpt with notices := { s.cpt.notices with linkFault := true } } }

/-- The state with its queue replaced. -/
def queued (q : List Entry) (s : State) : State := { s with sgq := { s.sgq with queue := q } }

/-- A jump to the entry's layer requested for it (R88, R118). -/
def jumpRequested (e : Entry) (s : State) : State :=
  { s with
    pkp :=
      { s.pkp with
        focus := .jumping e.layer s.cpt.settings.jumpRetries, jumpTimer := some s.cpt.settings.jumpTimeout
        fjTarget := e.layer, fjStrobe := true }
    sgq := { s.sgq with requester := some e.tag } }

/-- The effective ceiling of a layer: the smaller of its ceiling in the mounted slot and Pd, or Pd when no slot is mounted (R31). -/
def ceilingOf (s : State) (layer pd : Nat) : Nat :=
  match s.mst.find? (·.state = .mounted) with
  | some m => match m.layers[layer]? with
    | some l => min l.ceiling pd
    | none => pd
  | none => pd

/-- The values captured at arming (R89). -/
def capturedFor (s : State) (e : Entry) (pd : Nat) : Captured :=
  { ceiling := ceilingOf s e.layer pd
    readPower := match e.copy with
      | .read p => p
      | _ => match (s.mst.find? (·.state = .mounted)).bind (·.layers[e.layer]?) with
        | some l => l.readPower
        | none => 0 }

/-- Whether the position lies in zone `z` or within the guard band of it (R113), for boundaries `b` and sled count `n`. -/
def zonePasses (b : List Nat) (z n guard : Nat) : Prop :=
  let p := b.countP (· ≤ n)
  p = z ∨ (p = z + 1 ∧ ∀ x ∈ b[z]?, n < x + guard) ∨ (p + 1 = z ∧ ∀ x ∈ b[p]?, x ≤ n + guard)

/-- dT and Tc of a strategy with the adjusts of the override entry for a mark of `n` T, before they are held (R128). -/
def adjusted (st : Strategy) (n : Nat) : Int × Int :=
  match if 2 ≤ n ∧ n ≤ 8 then st.overrides.find? (fun o => o.len == n) else none with
  | some o => (st.dT + o.lead, (st.tc : Int) + o.cool)
  | none => (st.dT, st.tc)

/-- The effective lead offset and cool gap (R128). -/
def leadOf (st : Strategy) (n : Nat) : Int := max (-16) (min 15 (adjusted st n).1)
def coolOf (st : Strategy) (n : Nat) : Int := max 0 (min 64 (adjusted st n).2)

/-- Rise and fall of the first pulse of a mark at `start`, of its middle pulses 1 to `k`, and of its last pulse (R129). -/
def firstPulse (st : Strategy) (start : Int) (n : Nat) : Int × Int := (start + leadOf st n, start + leadOf st n + st.tf)
def middlePulses (st : Strategy) (start : Int) (k : Nat) : List (Int × Int) :=
  (List.range k).map fun (j : Nat) => (start + 32 * ((j : Int) + 2), start + 32 * ((j : Int) + 2) + st.tm)
def lastPulse (st : Strategy) (start : Int) (n : Nat) : Int × Int :=
  (start + 32 * ((n : Int) - 1), start + 32 * ((n : Int) - 1) + st.tl)

/-- The edges of a pulse and the pulses that follow it, a rise at or before the fall before it merging the two (R132). -/
def outline (rise fall : Int) : List (Int × Int) → List Edge
  | [] => [{ pos := rise, level := .peak }, { pos := fall, level := .cool }]
  | (r, f) :: more =>
    if fall < r then { pos := rise, level := .peak } :: { pos := fall, level := .cool } :: outline r f more else outline rise f more

/-- How many of the pulses that follow a fall merge with the pulse before them (R132). -/
def merges (fall : Int) : List (Int × Int) → Nat
  | [] => 0
  | (r, f) :: more => (if fall < r then 0 else 1) + merges f more

/-- A train, given by its edges and its first rise, added to the edge list behind the tail of the train before it, with the number of cuts and
merges (R133). -/
def addTrain (g : Pgn) (rise : Int) (train : List Edge) : List Edge × Nat :=
  match g.tail with
  | none => (g.edges ++ train, 0)
  | some t =>
    if rise ≤ t.fall then (g.edges.filter (fun x => decide (x.pos < t.fall)) ++ train.drop 1, 1)
    else if rise < t.gapEnd then (g.edges.filter (fun x => decide (x.pos < t.gapEnd)) ++ train, 1)
    else (g.edges.filter (fun x => decide (x.pos < rise)) ++ train, 0)

/-- One more pulse of the same train behind an edge list that ends in the fall `last` (R132). -/
def addPulseTo (front : List Edge) (last : Edge) (p : Int × Int) : List Edge × Nat :=
  if last.pos < p.1 then (front ++ [last, { pos := p.1, level := .peak }, { pos := p.2, level := .cool }], 0)
  else (front ++ [{ pos := p.2, level := .cool }], 1)

/-- The edge list with a cool gap behind its last fall; one of 0 goes from PEAK to SPACE at the fall (R129). -/
def withCool (edges : List Edge) (fall cool : Int) : List Edge :=
  if cool = 0 then edges.dropLast ++ [{ pos := fall, level := .space }] else edges ++ [{ pos := fall + cool, level := .space }]

/-- A T of WDATA taken in the write of `e`: the generator becomes `g`, SHAPE joins the warning set when `shape` or a collision calls for it, and
EDGE_COLLIDE is counted for each of the `k` collisions (R141). -/
def tookT (e : Entry) (wc : WorkingCopy) (rest : List Entry) (shape : Bool) (k : Nat) (g : Pgn) (s : State) : State :=
  Nat.repeat (countEvent .edgeCollide (some wc.key) 1) k
    { queued ({ e with warnings := { e.warnings with shape := e.warnings.shape || shape || decide (k ≠ 0) } } :: rest) s with
      pgn := g }

/-- The entry as it stands in a state with a head of write: the laser writes from `wc`, the working copy of the ACTIVE head `e`. -/
def writing (s : State) (e : Entry) (wc : WorkingCopy) (rest : List Entry) : Prop :=
  s.lsc.laser = .write ∧ s.sgq.queue = e :: rest ∧ e.state = .active ∧ e.copy = .strategy wc

end Sys2Proof.Stated

section
open Sys2Proof Sys2Proof.Machine Sys2Proof.Stated

/-! ### The machine -/

/-- The command at the front of the queue is the one a step takes. -/
def Obligations.StepTakesFrontCommand : Prop :=
  ∀ (c : Instr) (rest : List Instr) (s : State), step { s with pending := c :: rest } = exec c { s with pending := rest }

/-- With no command waiting the part idles (the model's choice, log entry 1). -/
def Obligations.StepIdlesOnEmptyQueue : Prop := ∀ s : State, s.pending = [] → step s = .next s

/-- Every command answers a next state, and none touches the queue of waiting commands (the model's queue, log entry 1). -/
def Obligations.EveryCommandAnswersNext : Prop :=
  ∀ (c : Instr) (s : State), ∃ t, exec c s = .next t ∧ t.pending = s.pending

/-! ### What every step keeps -/

/-- The reset state has every property that the invariants below keep. -/
def Obligations.ResetMeetsEveryInvariant : Prop :=
  Safety.MediaTableHolds .reset ∧ Safety.RecordsInRange .reset ∧ Safety.CountsAgree .reset ∧ Safety.KeysLimited .reset
    ∧ Safety.PinsAgree .reset ∧ Safety.WriteGuarded .reset ∧ Safety.LinkHolds .reset ∧ Safety.PortHolds .reset
    ∧ Safety.SettingsInRange .reset ∧ Safety.PickupInRange .reset ∧ Safety.PowerLoopInRange .reset
    ∧ Safety.CodesBounded .reset ∧ Safety.LaserSafe .reset

/-- At most one slot is MOUNTED, no identity is held twice and every slot stays within its ranges (R21 to R24). -/
def Obligations.StepKeepsMediaTable : Prop :=
  ∀ s t : State, Safety.MediaTableHolds s → step s = .next t → Safety.MediaTableHolds t

/-- Every record, working copy and generation stays within its ranges (R4, R6, R7, R10, R45). -/
def Obligations.StepKeepsRecordsInRange : Prop :=
  ∀ s t : State, Safety.RecordsInRange s → step s = .next t → Safety.RecordsInRange t

/-- Each slot's record count stays the number of its records (R33). -/
def Obligations.StepKeepsRecordCounts : Prop :=
  ∀ s t : State, Safety.CountsAgree s → step s = .next t → Safety.CountsAgree t

/-- Each key keeps at most one ACTIVE or SUSPECT and at most one PROVISIONAL record (R13). -/
def Obligations.StepKeepsKeyLimits : Prop :=
  ∀ s t : State, Safety.KeysLimited s → step s = .next t → Safety.KeysLimited t

/-- Each pin count stays the number of entries that name the record, pinned records belong to the mounted slot and RETIRING records are
pinned (R11, R15). -/
def Obligations.StepKeepsPinCounts : Prop :=
  ∀ s t : State, Safety.PinsAgree s → step s = .next t → Safety.PinsAgree t

/-- Positions and tags stay distinct and every class within its allotment (R80, R82). -/
def Obligations.StepKeepsCredits : Prop :=
  ∀ s t : State, Safety.QueueWithinCredits s → step s = .next t → Safety.QueueWithinCredits t

/-- Only the head is armed or runs, a READY entry that becomes the head begins arming in the same event, and each entry holds what its kind and
state call for, a working copy with two sources when it is DERIVED and one otherwise (R47, R82, R86). -/
def Obligations.StepKeepsQueueShape : Prop :=
  ∀ s t : State, Safety.QueueShaped s → step s = .next t → Safety.QueueShaped t

/-- The laser is in WRITE only under an asserted gate, an ACTIVE write head, its focus and no hold cause (R171). -/
def Obligations.StepKeepsWriteGuarded : Prop :=
  ∀ s t : State, Safety.WriteGuarded s → step s = .next t → Safety.WriteGuarded t

/-- The outgoing queue stays within 32 well-formed messages (R78, R79). -/
def Obligations.StepKeepsLink : Prop := ∀ s t : State, Safety.LinkHolds s → step s = .next t → Safety.LinkHolds t

/-- The port serves exactly the engine's host lookup, which waits through at most two segment lookups (R35, R39, R190). -/
def Obligations.StepKeepsPort : Prop := ∀ s t : State, Safety.PortHolds s → step s = .next t → Safety.PortHolds t

/-- Settings, pickup and power loop stay within their ranges (R105, R143, R197). -/
def Obligations.StepKeepsUnitsInRange : Prop :=
  ∀ s t : State, Safety.SettingsInRange s ∧ Safety.PickupInRange s ∧ Safety.PowerLoopInRange s → step s = .next t →
    Safety.SettingsInRange t ∧ Safety.PickupInRange t ∧ Safety.PowerLoopInRange t

/-- No current code presented to the laser driver exceeds Imax (R154). -/
def Obligations.StepKeepsCodesBounded : Prop :=
  ∀ s t : State, Safety.CodesBounded s → step s = .next t → Safety.CodesBounded t

/-- The hold causes and timers fit the laser state, the write period is closed outside WRITE, and a disabled laser is given no current
(R127, R148, R166, R167, R178).  That a sample waits to be taken only in a HOLD by SUPPLY_TRIP rests on log entry 29. -/
def Obligations.StepKeepsLaserSafe : Prop := ∀ s t : State, Safety.LaserSafe s → step s = .next t → Safety.LaserSafe t

/-! ### Resets -/

/-- Power-on and pin reset leave every block at its reset values (R20, R34, R56, R104, R124, R142, R165, R187, R193, R196, R198, R206) and the
lines as the first observations find them; they differ in the RESET cause, in SUPPLY_WARN and in the supply warning flag, which pin reset
keeps. Neither forgets whether the last T of WDATA read was of a mark, so that a mark begun before is not written (R142).  That GRANT stands
in the outgoing queue behind the idle byte owed in the reset's own event, that the byte last transmitted is held and is 0, and that the
waiting commands stay are the model's choices (log entries 22, 23 and 26), as are the levels carried by the command (log entry 4). -/
def Obligations.HardResetsReturnEveryBlock : Prop :=
  ∀ (f : FoundLines) (s : State), ∃ t u : State,
    exec (.powerOnReset f) s = .next t ∧ exec (.pinReset f) s = .next u
      ∧ t.stb = List.replicate 96 { gen := 0, held := none } ∧ u.stb = t.stb
      ∧ t.mst = List.replicate 8 Slot.empty ∧ u.mst = t.mst
      ∧ t.rse = { inFlight := .idle, waiting := none, waitCount := 0 } ∧ u.rse = t.rse
      ∧ t.sgq = { queue := [], requester := none } ∧ u.sgq = t.sgq
      ∧ t.flk = { side := .inStep, rx := [], out := [[161, 2, 1, 3, 0, 89]], sent := 0, idleFirst := true, txByte := 0 } ∧ u.flk = t.flk
      ∧ t.pkp =
          { sled := 0, valid := false, zoneMap := (List.range 23).map (fun z => 1344 * (z + 1)), interval := .one, wobCount := 0
            wobMarks := 0, halfPassed := false, windows := [⟨400, 479⟩, ⟨600, 719⟩, ⟨800, 959⟩, ⟨1200, 1439⟩]
            measurement := none, focus := .unknown, jumpTimer := none, fjTarget := 0, fjStrobe := false } ∧ u.pkp = t.pkp
      ∧ t.pgn =
          { level := .read, read := 0, run := { mark := s.pgn.run.mark, len := 0, own := false }, lastEnd := none, edges := []
            tail := none, starts := [], mids := [], spaces := [], peaks := [], returns := [], held := none, early := none
            presented := ⟨0, 0, 0, 0⟩, waiting := none } ∧ u.pgn = t.pgn
      ∧ t.plp =
          { diode := { ithRef := 0, sRef := 256, tRef := 100, kI := 0, kS := 0, defaultRead := 20 }, diodeValid := false
            limits := none, sample := none, tempTicks := 0, returns := ReturnAcc.empty, track := TrackAcc.empty } ∧ u.plp = t.plp
      ∧ t.lsc = { laser := .off, causes := HoldCauses.empty, settle := none, ret := none, offered := none } ∧ u.lsc = t.lsc
      ∧ t.wgd = { keepalive := none, tickTaken := false, supplyWarn := true }
      ∧ u.wgd = { keepalive := none, tickTaken := false, supplyWarn := s.wgd.supplyWarn }
      ∧ t.cpt.port = .idle ∧ t.cpt.busyReply = none ∧ t.cpt.reading = none ∧ t.cpt.writing = none ∧ t.cpt.settings = Settings.default
      ∧ t.cpt.notices = { Notices.empty with supplyWarn := true, reset := some .powerOn } ∧ t.cpt.lastReset = .powerOn
      ∧ u.cpt.port = .idle ∧ u.cpt.busyReply = none ∧ u.cpt.reading = none ∧ u.cpt.writing = none ∧ u.cpt.settings = Settings.default
      ∧ u.cpt.notices = { Notices.empty with reset := some .pin } ∧ u.cpt.lastReset = .pin
      ∧ t.act = List.replicate 4 { event := none, filter := KeyFilter.any, value := 0 } ∧ u.act = t.act
      ∧ t.lines =
          { wgate := f.wgate, keep := f.keep, sla := f.sla, slb := f.slb, shome := f.shome, fok := f.fok, flay := f.flay
            ldwarn := false, ldtrip := false } ∧ u.lines = t.lines
      ∧ t.pending = s.pending ∧ u.pending = s.pending

/-- SOFT_RESET keeps the tables, the limits and the settings and clears the work in flight, and the lines are as the first observations after
it find them (R20, R34, R56, R104, R124, R142, R165, R187, R196, R198, R201, R206).  That GRANT stands in the outgoing queue behind the idle
byte owed in the reset's own event and that the waiting commands stay are the model's choices (log entries 22 and 26), as are the levels
carried by the command (log entry 4). -/
def Obligations.SoftResetKeepsTheTables : Prop :=
  ∀ (f : FoundLines) (s : State), s.cpt.port = .idle → ∃ t : State,
    exec (.softReset ⟨frame [], f⟩) s = .next t
      ∧ t.stb.length = s.stb.length
      ∧ (∀ (i : Nat) (p : Place), s.stb[i]? = some p → ∃ q : Place, t.stb[i]? = some q ∧ q.gen = p.gen
          ∧ (p.held = none → q.held = none)
          ∧ ∀ r ∈ p.held, q.held = if r.state = .retiring then none else some { r with pins := 0 })
      ∧ t.mst.length = s.mst.length
      ∧ (∀ (i : Nat) (m : Slot), s.mst[i]? = some m → t.mst[i]? = some
          { m with
            state := if m.state = .mounted then .known else m.state
            records := m.records - (Safety.held s.stb).countP (fun r => decide (r.state = .retiring ∧ r.key.media = i)) })
      ∧ t.rse = { inFlight := .idle, waiting := none, waitCount := 0 } ∧ t.sgq = { queue := [], requester := none }
      ∧ t.flk.side = .inStep ∧ t.flk.rx = [] ∧ t.flk.out = [[161, 2, 1, 3, 0, 89]] ∧ t.flk.sent = 0 ∧ t.flk.idleFirst = true
      ∧ t.pkp = { s.pkp with wobCount := 0, wobMarks := 0, halfPassed := false, measurement := none, focus := .unknown,
                             jumpTimer := none, fjTarget := 0, fjStrobe := false }
      ∧ t.pgn = closed s.pgn
      ∧ t.plp = { s.plp with tempTicks := 0, returns := ReturnAcc.empty, track := TrackAcc.empty }
      ∧ t.lsc = { laser := .off, causes := HoldCauses.empty, settle := none, ret := none, offered := none }
      ∧ t.wgd = { keepalive := none, tickTaken := false, supplyWarn := s.wgd.supplyWarn }
      ∧ t.cpt.reading = none ∧ t.cpt.writing = none ∧ t.cpt.settings = s.cpt.settings ∧ t.cpt.notices = { Notices.empty with reset := some .command }
      ∧ t.cpt.lastReset = .command ∧ t.cpt.busyReply = none
      ∧ t.cpt.port = .responseReady { status := .ok, code := 132, payload := [] }
      ∧ t.act = s.act.map ({ · with value := 0 })
      ∧ t.lines =
          { wgate := f.wgate, keep := f.keep, sla := f.sla, slb := f.slb, shome := f.shome, fok := f.fok, flay := f.flay
            ldwarn := false, ldtrip := false }
      ∧ t.pending = s.pending

/-! ### The command port -/

/-- A request write is dropped into the busy reply unless the port is IDLE, answered UNKNOWN_REQUEST when its code names no request,
and BAD_LENGTH when its frame does not fit.  Its first byte fixes the port status byte that it clocks out; its release, taken later, does what
the whole transaction would do then but for that byte, and a release without that first byte is no transaction (R188, R189, R190; the phases
are the model's, log entry 3). -/
def Obligations.RequestsPassThePort : Prop :=
  (∀ (f : FoundLines) (code : Byte) (c : HostWrite → Instr),
    ((∃ len, (code, len, c) ∈ requests f) ∨ c = .unknownRequest code) → ∀ s : State,
      exec (c .firstByte) s
          = .next { s with cpt := { s.cpt with reading := none, writing := some { code, statusByte := s.cpt.statusByte } } }
        ∧ (∀ (body : List Byte) (b : Byte), s.cpt.writing = some { code, statusByte := b } →
          ∃ t, exec (c (.whole body)) s = .next t
            ∧ exec (c (.release body)) s = .next { t with cpt := { t.cpt with spiOut := b :: List.replicate body.length 0 } })
        ∧ (∀ body : List Byte, (∀ b, s.cpt.writing ≠ some { code, statusByte := b }) → exec (c (.release body)) s = .next s))
  ∧ (∀ (f : FoundLines) (code : Byte) (len : Nat) (c : HostWrite → Instr), (code, len, c) ∈ requests f →
    ∀ (body : List Byte) (s : State),
      (s.cpt.port ≠ .idle →
          exec (c (.whole body)) s = .next (clocked (.whole body) s { s with cpt := { s.cpt with busyReply := some code } }))
        ∧ (s.cpt.port = .idle → ¬(2 ≤ body.length ∧ u16 body 0 = body.length - 2 ∧ u16 body 0 = len) →
          exec (c (.whole body)) s = .next (clocked (.whole body) s (replied code .badLength [] s))))
  ∧ ∀ (code : Byte) (body : List Byte) (s : State),
    (s.cpt.port ≠ .idle →
        exec (.unknownRequest code (.whole body)) s
          = .next (clocked (.whole body) s { s with cpt := { s.cpt with busyReply := some code } }))
      ∧ (s.cpt.port = .idle → exec (.unknownRequest code (.whole body)) s
          = .next (clocked (.whole body) s (replied code .unknownRequest [] s)))

/-- A request answered with a status other than OK changes nothing but the port, and only a DUPLICATE carries a payload (R57, R191). -/
def Obligations.RefusedRequestsChangeNothing : Prop :=
  ∀ (found : FoundLines) (code : Byte) (len : Nat) (c : HostWrite → Instr), (code, len, c) ∈ requests found →
    ∀ (body : List Byte) (s t : State) (f : Frame), s.cpt.port = .idle → exec (c (.whole body)) s = .next t →
      t.cpt.port = .responseReady f → f.status ≠ .ok →
      t = clocked (.whole body) s (replied code f.status f.payload s) ∧ (f.status ≠ .duplicate → f.payload = [])

/-- A response read clocks out the waiting frame, and a complete one empties what it delivered; its first byte fixes the port status byte, the
frame and what a complete read of it empties, and its release acts on those (R188, R190).  The phases, and that a release without a first
byte and a selection with no byte clocked change nothing, are the model's form of R188 (log entry 3). -/
def Obligations.ResponseReadsDeliver : Prop :=
  (∀ (s : State) (n : Nat), 1 ≤ n →
    let f := waitingFrame s.cpt
    let out := ((s.cpt.statusByte :: f.bytes) ++ List.replicate n 0).take n
    exec (.responseRead (.whole n)) s = .next
      { s with cpt :=
          if 5 + f.payload.length ≤ n then
            { s.cpt with
              reading := none, writing := none, spiOut := out, busyReply := none, port := afterRead s.cpt }
          else { s.cpt with reading := none, writing := none, spiOut := out } })
  ∧ (∀ s : State, exec (.responseRead .firstByte) s = .next
      { s with cpt :=
          { s.cpt with
            reading := some { statusByte := s.cpt.statusByte, frame := waitingFrame s.cpt, acts := waitingActs s.cpt }
            writing := none } })
  ∧ (∀ (s : State) (r : FixedRead) (n : Nat), s.cpt.reading = some r →
    let out := ((r.statusByte :: r.frame.bytes) ++ List.replicate n 0).take n
    exec (.responseRead (.release n)) s = .next
      { s with cpt :=
          { s.cpt with
            reading := none, writing := none, spiOut := out
            busyReply := if 5 + r.frame.payload.length ≤ n ∧ r.acts = .busyReply then none else s.cpt.busyReply
            port := if 5 + r.frame.payload.length ≤ n ∧ r.acts = .response then .idle else s.cpt.port } })
  ∧ (∀ (s : State) (n : Nat), s.cpt.reading = none → exec (.responseRead (.release n)) s = .next s)
  ∧ ∀ s : State, exec (.responseRead (.whole 0)) s = .next s

/-- The requests that read change nothing but the port, and answer the contents their rules list (R17, R32, R102, R123, R164, R199, R200), or are
refused for a slot index above 7 (R21) or a handle, by the first of its checks that fails (R16).
The bytes in place of what an entry does not hold and of an invalid measurement are the model's choice (log entries 19 and 21). -/
def Obligations.ReadRequestsChangeNothing : Prop :=
  ∀ s : State, s.cpt.port = .idle →
    (s.mst.length = 8 → ∀ i : Byte, 7 < i.toNat →
        exec (.mediaRead (frame [i])) s = .next (refused 21 .badField (frame [i]) s))
      ∧ (s.stb.length = 96 → ∀ (i gen : Byte) (st : Status), firstRefusal (handleChecks s i.toNat gen.toNat fun _ => true) = some st →
        exec (.recRead (frame [i, gen])) s = .next (refused 37 st (frame [i, gen]) s))
      ∧ (∀ (i : Byte) (m : Slot), s.mst[i.toNat]? = some m → m.layers.length ≤ 4 →
        exec (.mediaRead (frame [i])) s = .next (clocked (frame [i]) s (replied 21 .ok
          (putU8 m.state.toNat ++ putU48 m.identity.toNat ++ putU8 m.layers.length
            ++ (List.range 4).flatMap (fun k => match m.layers[k]? with
                | some l => putU8 l.readPower ++ putU16 l.ceiling ++ putU24 l.ageDefault
                | none => [0, 0, 0, 0, 0, 0])
            ++ putU8 m.records) s)))
      ∧ (∀ (i gen : Byte) (r : Record), s.stb[i.toNat]? = some { gen := gen.toNat, held := some r } →
        exec (.recRead (frame [i, gen])) s = .next (clocked (frame [i, gen]) s (replied 37 .ok (recordImage gen.toNat r) s)))
      ∧ exec (.ident (frame [])) s
          = .next (clocked (frame []) s (replied 131 .ok [0, 7, 2, 128, 1, 96, 8, 6, 2, 1, 3, 4, 13, 24] s))
      ∧ exec (.diodeRead (frame [])) s = .next (clocked (frame []) s (replied 49 .ok (diodeAnswer s) s))
      ∧ exec (.pickupRead (frame [])) s = .next (clocked (frame []) s (replied 66 .ok (pickupAnswer s) s))
      ∧ exec (.queueRead (frame [])) s = .next (clocked (frame []) s (replied 96 .ok (queueAnswer s) s))
      ∧ exec (.status (frame [])) s = .next (clocked (frame []) s (replied 129 .ok (statusAnswer s) s))

/-- The layouts of R207: quantities most significant byte first and signed fields in two's complement, both written and read; the record
image, which carries every field from REC_READ to REC_INSTALL and REC_AMEND, and the key filter, each read back from its bytes; the response
frame; the codes of named values (R17, R18, R207). -/
def Obligations.ImagesRoundTrip : Prop :=
  (∀ (gen : Nat) (r : Record), gen ≤ 255 → Safety.recordInRange r = true → r.pins ≤ 6 →
    (recordImage gen r).length = 40
      ∧ readImage (recordImage gen r) 0
          = { key := r.key, strat := r.strat, overrideCount := r.strat.overrides.length, corr := r.corr,
              ageThreshold := r.ageThreshold }
      ∧ u24 (recordImage gen r) 31 = r.onTime ∧ u8 (recordImage gen r) 38 = gen ∧ u8 (recordImage gen r) 39 = r.pins)
  ∧ (∀ f : KeyFilter, f.media.all (· ≤ 7) = true → f.layer.all (· ≤ 3) = true →
      f.zone.all (fun z => decide (z.1 ≤ z.2 ∧ z.2 ≤ 23)) = true → f.speed.all (· ≤ 3) = true → readFilter (filterBytes f) 0 = some f)
  ∧ (∀ (p : List Byte) (i : Nat),
      let byte := fun k => (p.getD (i + k) 0).toNat
      u8 p i = byte 0 ∧ u16 p i = 256 * byte 0 + byte 1 ∧ u24 p i = 65536 * byte 0 + 256 * byte 1 + byte 2
        ∧ u48 p i = 16777216 * u24 p i + u24 p (i + 3) ∧ s8 p i = (p.getD i 0).toInt
        ∧ s16 p i = (p.getD i 0 ++ p.getD (i + 1) 0 : BitVec 16).toInt)
  ∧ (∀ (n : Nat) (z : Int),
      let byte := fun k => BitVec.ofNat 8 (n / 256 ^ k)
      putU8 n = [byte 0] ∧ putU16 n = [byte 1, byte 0] ∧ putU24 n = [byte 2, byte 1, byte 0]
        ∧ putU48 n = [byte 5, byte 4, byte 3, byte 2, byte 1, byte 0]
        ∧ putS8 z = [BitVec.ofInt 8 z] ∧ putS16 z = [(BitVec.ofInt 16 z).extractLsb' 8 8, (BitVec.ofInt 16 z).extractLsb' 0 8])
  ∧ (∀ f : Frame, f.bytes = putU8 f.status.toNat ++ [f.code] ++ putU16 f.payload.length ++ f.payload)
  ∧ ([Status.ok, .busy, .unknownRequest, .badLength, .badField, .badOrder, .duplicate, .notFound, .stale, .full, .locked, .inUse, .state,
        .noLimits, .noDiode].map Status.toNat = List.range 15
      ∧ [RecState.provisional, .active, .suspect, .retiring].map RecState.toNat = [1, 2, 3, 4]
      ∧ [SlotState.free, .known, .mounted].map SlotState.toNat = [0, 1, 2]
      ∧ [SegKind.read, .write, .trial].map SegKind.toNat = [1, 2, 3] ∧ [CreditClass.w, .r, .s].map CreditClass.toNat = [1, 2, 3]
      ∧ [EntryState.pending, .resolving, .ready, .arming, .armed, .active, .closing].map EntryState.toNat = [1, 2, 3, 4, 5, 6, 7]
      ∧ [ResKind.exact, .exactTrial, .derived, .borrowed].map ResKind.toNat = [1, 2, 3, 4]
      ∧ [LaserState.off, .settling, .read, .write, .hold].map LaserState.toNat = [0, 1, 2, 3, 4]
      ∧ [WobbleInterval.half, .one, .two, .four].map WobbleInterval.toNat = [0, 1, 2, 3]
      ∧ [ResetCause.powerOn, .pin, .command].map ResetCause.toNat = [0, 1, 2])
  ∧ (∀ n : Nat, SegKind.ofNat? n = (if n = 1 then some .read else if n = 2 then some .write else if n = 3 then some .trial else none)
      ∧ CreditClass.ofNat? n = (if n = 1 then some .w else if n = 2 then some .r else if n = 3 then some .s else none)
      ∧ CounterEvent.ofCode? n = (if n = 0 then some none else if n ≤ 15 then (counterEvents[n - 1]?).map some else none))
  ∧ (∀ c : HoldCauses, c.toNat = setCode [c.keepExpired, c.keepEarly, c.gateEarly, c.overpower, c.supplyTrip])
  ∧ ∀ w : Warnings, w.toNat = setCode [w.suspectSource, w.shape, w.clamped, w.overdrive, w.corrLimit, w.staleWriteback]

/-- SETTINGS takes each selected setting, keeps the others and answers all thirteen with the held set; NOTICES_READ lists the notice set with its
details and empties it; COUNTER_SET reprograms one counter; COUNTER_READ answers all four and clears those it names; a value that names nothing is
refused BAD_FIELD (R155, R195, R197, R202, R205, R207). -/
def Obligations.SettingsNoticesAndCounters : Prop :=
  ∀ s : State, s.cpt.port = .idle →
    (∀ p : List Byte, p.length = 17 → u16 p 0 ≤ 8191 →
        let new := Settings.select (u16 p 0) (offeredSettings p) s.cpt.settings
        exec (.settings (frame p)) s = .next (clocked (frame p) s (replied 128 .ok
          (settingsAnswer new ++ putU16 (heldSet (u16 p 0) p)) (recompute false { s with cpt := { s.cpt with settings := new } }))))
      ∧ (∀ p : List Byte, p.length = 17 → 8191 < u16 p 0 →
        exec (.settings (frame p)) s = .next (refused 128 .badField (frame p) s))
      ∧ exec (.noticesRead (frame [])) s = .next (clocked (frame []) s (replied 130 .ok (noticesAnswer s.cpt.notices s.cpt.settings.enables)
          { s with cpt := { s.cpt with notices := Notices.empty } }))
      ∧ (∀ (p : List Byte) (ev : Option CounterEvent) (f : KeyFilter), p.length = 7 → u8 p 0 ≤ 3 →
        CounterEvent.ofCode? (u8 p 1) = some ev → readFilter p 2 = some f →
        exec (.counterSet (frame p)) s = .next (clocked (frame p) s (replied 112 .ok []
          { s with act := s.act.set (u8 p 0) { event := ev, filter := f, value := 0 } })))
      ∧ (∀ p : List Byte, p.length = 7 → 3 < u8 p 0 ∨ 15 < u8 p 1 ∨ filterFits p 2 = false →
        exec (.counterSet (frame p)) s = .next (refused 112 .badField (frame p) s))
      ∧ (∀ b : Byte, 15 < b.toNat → exec (.counterRead (frame [b])) s = .next (refused 113 .badField (frame [b]) s))
      ∧ (∀ b : Byte, b.toNat ≤ 15 →
        exec (.counterRead (frame [b])) s = .next (clocked (frame [b]) s (replied 113 .ok (s.act.flatMap counterAnswer)
          { s with
            act := s.act.mapIdx fun k c => if b.toNat.testBit k then { c with value := 0 } else c })))

/-- Each selected setting takes the offered value held within its range, unselected ones are kept, and the held set names exactly the
selected settings offered outside their range (R197). -/
def Obligations.SettingsAreHeld : Prop :=
  ∀ (p : List Byte) (o : Settings), p.length = 17 →
    let sel := fun k => (u16 p 0).testBit k
    Settings.select (u16 p 0) (offeredSettings p) o
        = { gain := if sel 0 then min 15 (u8 p 2) else o.gain
            deriveSpan := if sel 1 then max 2 (min 8 (u8 p 3)) else o.deriveSpan
            borrowDistance := if sel 2 then min 3 (u8 p 4) else o.borrowDistance
            deriveWarn := if sel 3 then min 160 (u8 p 5) else o.deriveWarn
            keepPeriod := if sel 4 then max 1 (min 16 (u8 p 6)) else o.keepPeriod
            windowMode := if sel 5 then decide (1 ≤ u8 p 7) else o.windowMode
            jumpTimeout := if sel 6 then max 2 (min 30 (u8 p 8)) else o.jumpTimeout
            jumpRetries := if sel 7 then min 3 (u8 p 9) else o.jumpRetries
            settleTime := if sel 8 then max 1 (min 20 (u8 p 10)) else o.settleTime
            hotLimit := if sel 9 then max (-160) (min 400 (s16 p 11)) else o.hotLimit
            tripMargin := if sel 10 then min 63 (u8 p 13) else o.tripMargin
            guardBand := if sel 11 then u8 p 14 else o.guardBand
            enables := if sel 12 then BitVec.ofNat 13 (u16 p 15) else o.enables }
      ∧ ∀ k : Nat, (heldSet (u16 p 0) p).testBit k = (sel k && offeredOutside p k)

/-- A counter event adds its amount, modulo 2 to the power 32, to each counter whose event code names it and whose filter matches its
key, field by field, a keyless event whatever the filter, and each wrap joins COUNTER_WRAP with the counter's number, which is pending
afterwards exactly when it was before or a counter wrapped; nothing else changes (R19, R203, R204). -/
def Obligations.CounterEventsCountAndWrap : Prop :=
  ∀ (ev : CounterEvent) (key : Option Key) (amount : Nat) (s : State), s.act.length = 4 →
    let t := countEvent ev key amount s
    let counted := fun c : Counter => decide (c.event = some ev) && key.all (fun k => filterTakes c.filter k)
    (∀ (i : Nat) (c : Counter), s.act[i]? = some c → t.act[i]? = some
        (if counted c = true then { c with value := (c.value + amount) % 4294967296 } else c))
      ∧ (∀ (i : Nat) (c : Counter), s.act[i]? = some c →
          ((t.cpt.notices.counterWrap.getD 0).getLsbD i = true
            ↔ (s.cpt.notices.counterWrap.getD 0).getLsbD i = true ∨ (counted c = true ∧ 4294967296 ≤ c.value + amount)))
      ∧ (t.cpt.notices.counterWrap.isSome = true
          ↔ s.cpt.notices.counterWrap.isSome = true ∨ ∃ c ∈ s.act, counted c = true ∧ 4294967296 ≤ c.value + amount)
      ∧ t = { s with act := t.act,
                     cpt := { s.cpt with notices := { s.cpt.notices with counterWrap := t.cpt.notices.counterWrap } } }

/-- The ms tick: WRITE_MS and the tally of an ACTIVE write, QUEUE_OCCUPANCY, and one count for every timer, the keepalive count unless this
tick has reached the Write Guard by an expiry before (R180), and the wobble interval by the marks passed; FJREQ's strobe is withdrawn (R2,
R93, R103, R117, R178; the model's choices: a tick reached by an expiry, log entry 7, the half-millisecond marks, log entry 8, and the tally and
the keepalive count advanced in one event, log entry 30). -/
def Obligations.MsTickCounts : Prop :=
  ∀ s : State,
    let u : State := match s.sgq.activeWrite with
      | some (_, wc) => countEvent .writeMs (some wc.key) 1
          { s with sgq := { s.sgq with queue := s.sgq.queue.mapIdx fun k e =>
              if k = 0 then { e with copy := .strategy { wc with tally := min 16777215 (wc.tally + 1) } } else e } }
      | none => s
    let v := countEvent .queueOccupancy none s.sgq.queue.length u
    exec .msTick s = .next
      { v with
        wgd :=
          { s.wgd with
            tickTaken := false
            keepalive := match s.wgd.keepalive with
              | some k => some { k with count := if s.wgd.tickTaken = true then k.count else min k.k (k.count + 1) }
              | none => none }
        lsc := { s.lsc with settle := s.lsc.settle.map (· - 1) }
        pkp :=
          { s.pkp with
            jumpTimer := s.pkp.jumpTimer.map (· - 1), fjStrobe := false, halfPassed := false
            wobMarks := s.pkp.wobMarks + if s.pkp.interval = .half ∧ s.pkp.halfPassed = false then 2 else 1 }
        plp := { s.plp with tempTicks := s.plp.tempTicks + 1 } }

/-! ### Media requests -/

/-- MEDIA_INSTALL by its checks in their order: a layer count or a layer setting out of range is refused BAD_FIELD, an identity already held
DUPLICATE with the slot's index and state, a table without a FREE slot FULL; otherwise it takes the lowest FREE slot (R24, R25). -/
def Obligations.MediaInstallTakesLowestFreeSlot : Prop :=
  ∀ (s : State) (p : List Byte), s.cpt.port = .idle → p.length = 31 →
    let id := BitVec.ofNat 48 (u48 p 0)
    let checks : List (Bool × Status) :=
      [(decide (1 ≤ u8 p 6 ∧ u8 p 6 ≤ 4), .badField), ((List.range (u8 p 6)).all fun k => layerFits (readLayer p 7 k), .badField)]
    (∀ st, firstRefusal checks = some st → exec (.mediaInstall (frame p)) s = .next (refused 16 st (frame p) s))
      ∧ (firstRefusal checks = none →
        (∀ (i : Nat) (m : Slot), s.mst[i]? = some m →
          ((∀ n ∈ s.mst, n.state ≠ .free → n.identity ≠ id) → m.state = .free →
              (∀ (j : Nat) (n : Slot), j < i → s.mst[j]? = some n → n.state ≠ .free) →
              exec (.mediaInstall (frame p)) s = .next (clocked (frame p) s (replied 16 .ok [BitVec.ofNat 8 i]
                { s with
                  mst := s.mst.set i
                    { state := .known, identity := id, layers := (List.range (u8 p 6)).map (readLayer p 7), records := 0 } })))
            ∧ (m.state ≠ .free → m.identity = id →
              (∀ (j : Nat) (n : Slot), j < i → s.mst[j]? = some n → n.state ≠ .free → n.identity ≠ id) →
              exec (.mediaInstall (frame p)) s
                = .next (clocked (frame p) s (replied 16 .duplicate [BitVec.ofNat 8 i, BitVec.ofNat 8 m.state.toNat] s))))
        ∧ ((∀ n ∈ s.mst, n.state ≠ .free ∧ n.identity ≠ id) →
          exec (.mediaInstall (frame p)) s = .next (refused 16 .full (frame p) s)))

/-- MEDIA_MOUNT and MEDIA_UNMOUNT change the mounted slot with the queue empty, and are refused otherwise (R21, R26, R27). -/
def Obligations.MountingChangesTheMountedSlot : Prop :=
  ∀ s : State, s.cpt.port = .idle →
    (s.mst.length = 8 → ∀ i : Byte, 7 < i.toNat →
        exec (.mediaMount (frame [i])) s = .next (refused 18 .badField (frame [i]) s))
      ∧ (∀ (i : Byte) (m : Slot), s.mst[i.toNat]? = some m →
      (m.state = .free → exec (.mediaMount (frame [i])) s = .next (clocked (frame [i]) s (replied 18 .notFound [] s)))
        ∧ (m.state = .mounted → exec (.mediaMount (frame [i])) s = .next (clocked (frame [i]) s (replied 18 .inUse [] s)))
        ∧ (m.state = .known → s.sgq.queue ≠ [] →
          exec (.mediaMount (frame [i])) s = .next (clocked (frame [i]) s (replied 18 .inUse [] s)))
        ∧ (m.state = .known → s.sgq.queue = [] →
          exec (.mediaMount (frame [i])) s = .next (clocked (frame [i]) s (replied 18 .ok []
            { s with
              mst := s.mst.mapIdx fun k n =>
                if k = i.toNat then { n with state := .mounted }
                else if n.state = .mounted then { n with state := .known } else n }))))
      ∧ ((∀ m ∈ s.mst, m.state ≠ .mounted) →
        exec (.mediaUnmount (frame [])) s = .next (clocked (frame []) s (replied 19 .state [] s)))
      ∧ ((∃ m ∈ s.mst, m.state = .mounted) → s.sgq.queue ≠ [] →
        exec (.mediaUnmount (frame [])) s = .next (clocked (frame []) s (replied 19 .inUse [] s)))
      ∧ ((∃ m ∈ s.mst, m.state = .mounted) → s.sgq.queue = [] →
        exec (.mediaUnmount (frame [])) s = .next (clocked (frame []) s (replied 19 .ok []
          { s with
            mst := s.mst.map fun n => if n.state = .mounted then { n with state := .known } else n })))

/-- MEDIA_RETIRE of a KNOWN slot frees the slot and every record that names it; MEDIA_AMEND replaces the selected layers' settings and
nothing else; each is refused by the first of its checks that fails (R21, R29, R30).  That a layer selection is read in its positions 0 to 3 alone,
so that members at positions 4 to 7 are passed over and do not refuse the request, is the model's choice (log entry 20). -/
def Obligations.RetiringAndAmendingASlot : Prop :=
  ∀ s : State, s.cpt.port = .idle →
    (∀ (i : Byte) (m : Slot), s.mst[i.toNat]? = some m → m.state = .known →
      exec (.mediaRetire (frame [i])) s = .next (clocked (frame [i]) s (replied 20 .ok [BitVec.ofNat 8 m.records]
        { s with
          stb := s.stb.map fun q => if q.held.any (fun r => decide (r.key.media = i.toNat)) then { q with held := none } else q
          mst := s.mst.set i.toNat Slot.empty })))
      ∧ (∀ (p : List Byte) (m : Slot), p.length = 26 → s.mst[u8 p 0]? = some m → m.state ≠ .free →
        (∃ k < 4, (u8 p 1).testBit k = true) →
        (∀ k < 4, (u8 p 1).testBit k = true → k < m.layers.length ∧ (readLayer p 2 k).inRange = true) →
        (m.state = .mounted → s.sgq.queue.all Safety.waits = true) →
        exec (.mediaAmend (frame p)) s = .next (clocked (frame p) s (replied 17 .ok []
          { s with
            mst := s.mst.set (u8 p 0)
              { m with layers := m.layers.mapIdx fun k l =>
                  if k < 4 ∧ (u8 p 1).testBit k = true then readLayer p 2 k else l } })))
      ∧ (s.mst.length = 8 →
        (∀ (i : Byte) (st : Status),
          firstRefusal (slotChecks s i.toNat ++ [((s.mst[i.toNat]?).any (·.state ≠ .mounted), .inUse)]) = some st →
            exec (.mediaRetire (frame [i])) s = .next (refused 20 st (frame [i]) s))
          ∧ ∀ (p : List Byte) (st : Status), p.length = 26 →
            let slot := s.mst[u8 p 0]?
            let chosen := (List.range 4).filter fun k => (u8 p 1).testBit k
            let count := ((slot.map (·.layers)).getD []).length
            firstRefusal (slotChecks s (u8 p 0) ++
                [(!chosen.isEmpty && chosen.all (· < count), .badField), (chosen.all fun k => layerFits (readLayer p 2 k), .badField),
                  (slot.any (·.state ≠ .mounted) || s.sgq.queue.all Safety.waits, .inUse)]) = some st →
              exec (.mediaAmend (frame p)) s = .next (refused 17 st (frame p) s))

/-! ### Record requests -/

/-- An accepted REC_INSTALL places the record in the lowest FREE place with its generation advanced, no pin, no on-time and the layer's
default threshold, counts it in its slot, and, when requested as ACTIVE, sends back the READY entries it may serve better (R3, R9,
R10, R12, R59, R60).  A refused one has the status of the first of the nine checks that fails, DUPLICATE with the handle of the record it meets
(R12, R13). -/
def Obligations.RecInstallPlacesTheRecord : Prop :=
  (∀ (s : State) (p : List Byte) (st : RecState) (m : Slot) (l : LayerSettings) (i g : Nat),
    let im := readImage p 1
    s.cpt.port = .idle → p.length = 41 → (u8 p 0 = 1 ∧ st = .provisional ∨ u8 p 0 = 2 ∧ st = .active) →
    im.key.media ≤ 7 → im.key.layer ≤ 3 → im.key.zone ≤ 23 → im.key.speed ≤ 3 →
    s.mst[im.key.media]? = some m → m.state ≠ .free → m.layers[im.key.layer]? = some l →
    Safety.strategyInRange im.strat = true → im.overrideCount ≤ 4 → corrInRange im.corr = true →
    (∀ r ∈ Safety.held s.stb, r.key = im.key → (st = .provisional → r.state ≠ .provisional) ∧ (st = .active → r.usable = false)) →
    s.stb[i]? = some { gen := g, held := none } → (∀ j < i, (s.record j).isSome = true) →
    let r : Record :=
      { key := im.key, strat := im.strat, corr := im.corr, onTime := 0, ageThreshold := l.ageDefault, state := st, pins := 0 }
    let placed : State :=
      { s with
        stb := s.stb.set i { gen := (g + 1) % 256, held := some r }
        mst := s.mst.set im.key.media { m with records := m.records + 1 } }
    let served := fun e : Entry => decide (st = .active) && e.approximates im.key
    exec (.recInstall (frame p)) s = .next (clocked (frame p) s (replied 32 .ok
      [BitVec.ofNat 8 i, BitVec.ofNat 8 ((g + 1) % 256),
        BitVec.ofNat 8 (s.sgq.queue.countP fun e => decide (e.state = .ready) && served e)]
      (arbiter (reResolve served placed)))))
  ∧ ∀ (s : State) (p : List Byte), s.cpt.port = .idle → p.length = 41 → s.mst.length = 8 →
    let im := readImage p 1
    let slot := s.mst[im.key.media]?
    let clashes := fun r : Record => decide (r.key = im.key) && if u8 p 0 = 1 then decide (r.state = .provisional) else r.usable
    let checks : List (Bool × Status) :=
      [(decide (u8 p 0 = 1 ∨ u8 p 0 = 2), .badField),
        (decide (im.key.media ≤ 7 ∧ im.key.zone ≤ 23 ∧ im.key.speed ≤ 3 ∧ im.key.layer ≤ 3), .badField),
        (slot.any (·.state ≠ .free), .notFound), (slot.any fun m => decide (im.key.layer < m.layers.length), .badField),
        (powersFit im.strat && shapeFits im.strat && overridesFit im.overrideCount im.strat && corrFits im.corr, .badField),
        (powersInOrder im.strat, .badOrder), (overridesInOrder im.strat, .badOrder)]
    (∀ st, firstRefusal checks = some st → exec (.recInstall (frame p)) s = .next (refused 32 st (frame p) s))
      ∧ (firstRefusal checks = none →
        (∀ (j g : Nat) (r : Record), s.stb[j]? = some { gen := g, held := some r } → clashes r = true →
            (∀ k < j, ∀ o ∈ s.record k, clashes o = false) →
            exec (.recInstall (frame p)) s
              = .next (clocked (frame p) s (replied 32 .duplicate [BitVec.ofNat 8 j, BitVec.ofNat 8 g] s)))
          ∧ ((Safety.held s.stb).all (fun r => !clashes r) = true → (s.stb.all fun q => q.held.isSome) = true →
            exec (.recInstall (frame p)) s = .next (refused 32 .full (frame p) s)))

/-- An accepted REC_AMEND replaces the selected groups, advances the generation, makes a SUSPECT record ACTIVE and sends back the READY
entries sourced on the record (R61, R62, R63).  A refused one has the status of the first check that fails: the handle's and the state (R16), a
selection of no group, the ranges of the selected groups, the order of the powers and of the override list as they would stand (R61). That bit 7 of
the group selection is not read is the model's choice (log entry 20). -/
def Obligations.RecAmendReplacesTheGroups : Prop :=
  (∀ (s : State) (p : List Byte) (r : Record),
    let i := u8 p 0
    let on := fun k => (u8 p 2).testBit k
    let im := readImage p 3
    let st : Strategy :=
      { pp := if on 0 then im.strat.pp else r.strat.pp, ps := if on 0 then im.strat.ps else r.strat.ps
        pc := if on 0 then im.strat.pc else r.strat.pc, dT := if on 1 then im.strat.dT else r.strat.dT
        tf := if on 1 then im.strat.tf else r.strat.tf, tm := if on 1 then im.strat.tm else r.strat.tm
        tl := if on 1 then im.strat.tl else r.strat.tl, tc := if on 1 then im.strat.tc else r.strat.tc
        overrides := if on 2 then im.strat.overrides else r.strat.overrides, dt := if on 3 then im.strat.dt else r.strat.dt }
    s.cpt.port = .idle → p.length = 43 → s.stb[i]? = some { gen := u8 p 1, held := some r } → r.state ≠ .retiring →
    (∃ k < 7, on k = true) → Safety.strategyInRange st = true → (on 2 = true → im.overrideCount ≤ 4) →
    (on 4 = true → corrInRange im.corr = true) →
    let amended : Record :=
      { r with
        strat := st
        corr := if on 4 then im.corr else r.corr
        ageThreshold := if on 5 then im.ageThreshold else r.ageThreshold
        onTime := if on 6 then 0 else r.onTime
        state := if r.state = .suspect then .active else r.state }
    exec (.recAmend (frame p)) s = .next (clocked (frame p) s (replied 33 .ok
      [BitVec.ofNat 8 i, BitVec.ofNat 8 ((u8 p 1 + 1) % 256), BitVec.ofNat 8 amended.state.toNat,
        BitVec.ofNat 8 (s.sgq.queue.countP fun e => decide (e.state = .ready) && e.uses i)]
      (arbiter (reResolve (·.uses i)
        { s with stb := s.stb.set i { gen := (u8 p 1 + 1) % 256, held := some amended } })))))
  ∧ ∀ (s : State) (p : List Byte) (st : Status), s.cpt.port = .idle → p.length = 43 → s.stb.length = 96 →
    let on := fun k => (u8 p 2).testBit k
    let im := readImage p 3
    let record := s.record (u8 p 0)
    firstRefusal (handleChecks s (u8 p 0) (u8 p 1) (fun r => decide (r.state ≠ .retiring)) ++
        [((List.range 7).any on, .badField),
          ((!on 0 || powersFit im.strat) && (!on 1 || shapeFits im.strat) && (!on 2 || overridesFit im.overrideCount im.strat)
            && (!on 4 || corrFits im.corr), .badField),
          (if on 0 then powersInOrder im.strat else record.any fun r => powersInOrder r.strat, .badOrder),
          (if on 2 then overridesInOrder im.strat else record.any fun r => overridesInOrder r.strat, .badOrder)]) = some st →
      exec (.recAmend (frame p)) s = .next (refused 33 st (frame p) s)

/-- An accepted REC_PROMOTE retires the working record of the key, if there is one, and makes the candidate ACTIVE with its generation
advanced; the READY entries it concerns re-resolve (R64, R65).  A refused one has the status of the first check of the handle that fails, and STATE
for a record that is not PROVISIONAL (R16, R64).  That the old handle and the outcome are sent as 0, 0 and 0 when no record is
retired is the model's choice (log entry 18). -/
def Obligations.RecPromoteReplacesTheWorkingRecord : Prop :=
  (∀ (s : State) (i g : Byte) (st : Status), s.cpt.port = .idle → s.stb.length = 96 →
    firstRefusal (handleChecks s i.toNat g.toNat fun r => decide (r.state = .provisional)) = some st →
      exec (.recPromote (frame [i, g])) s = .next (refused 34 st (frame [i, g]) s))
  ∧ ∀ (s : State) (i g : Byte) (r : Record), s.cpt.port = .idle →
    s.stb[i.toNat]? = some { gen := g.toNat, held := some r } → r.state = .provisional →
    let body := frame [i, g]
    let count := fun sent : Entry → Bool => BitVec.ofNat 8 (s.sgq.queue.countP fun e => decide (e.state = .ready) && sent e)
    let promoted := fun u : State =>
      (u.withRecord i.toNat ({ · with state := .active })).withPlace i.toNat fun q => { q with gen := (g.toNat + 1) % 256 }
    ((∀ q ∈ Safety.held s.stb, q.key = r.key → q.usable = false) →
        let sent := fun e : Entry => e.uses i.toNat || e.approximates r.key
        exec (.recPromote body) s = .next (clocked body s (replied 34 .ok [i, g + 1, 0, 0, 0, count sent]
          (arbiter (promoted (reResolve sent s))))))
      ∧ (∀ (j h : Nat) (q : Record), s.stb[j]? = some { gen := h, held := some q } → q.key = r.key → q.usable = true →
        (∀ k < j, ∀ o ∈ s.record k, o.key = r.key → o.usable = false) →
        let sent := fun e : Entry => e.uses j || e.uses i.toNat || e.approximates r.key
        let u := reResolve sent s
        let freed := (u.record j).all fun o => decide (o.pins = 0)
        exec (.recPromote body) s = .next (clocked body s (replied 34 .ok
          [i, g + 1, BitVec.ofNat 8 j, BitVec.ofNat 8 h, if freed then 0 else 1, count sent]
          (arbiter (promoted (if freed then freePlace j u else u.withRecord j ({ · with state := .retiring })))))))

/-- REC_RETIRE sends back the READY entries sourced on the record and then frees it at pin count 0 or leaves it RETIRING; a record already
RETIRING is left as it is (R66).  A handle whose checks fail is refused by the first of them (R16). -/
def Obligations.RecRetireFreesOrLeavesRetiring : Prop :=
  (∀ (s : State) (i g : Byte) (st : Status), s.cpt.port = .idle → s.stb.length = 96 →
    firstRefusal (handleChecks s i.toNat g.toNat fun _ => true) = some st →
      exec (.recRetire (frame [i, g])) s = .next (refused 35 st (frame [i, g]) s))
  ∧ ∀ (s : State) (i g : Byte) (r : Record), s.cpt.port = .idle → s.stb[i.toNat]? = some { gen := g.toNat, held := some r } →
    let body := frame [i, g]
    (r.state = .retiring → exec (.recRetire body) s = .next (clocked body s (replied 35 .ok [1, 0] s)))
      ∧ (r.state ≠ .retiring →
        let u := reResolve (·.uses i.toNat) s
        let count := BitVec.ofNat 8 (s.sgq.queue.countP fun e => decide (e.state = .ready) && e.uses i.toNat)
        let freed := (u.record i.toNat).all fun o => decide (o.pins = 0)
        exec (.recRetire body) s = .next (clocked body s (replied 35 .ok [if freed then 0 else 1, count]
          (arbiter (if freed then freePlace i.toNat u else u.withRecord i.toNat ({ · with state := .retiring }))))))

/-- An accepted REC_FIND, REC_SCAN or REC_RETIRE_MATCH joins the wait list and leaves the port SERVING; nothing else changes until the
arbiter takes it (R38, R53, R54, R55, R189).  A refused one has the status of the first of its checks that fails and joins nothing (R53 to R55). -/
def Obligations.HostLookupsJoinTheWaitList : Prop :=
  ∀ s : State, s.cpt.port = .idle →
    let joined := fun (code : Byte) (w : HostWrite) (q : HostLookup) =>
      clocked w s (arbiter { s with
        rse := { s.rse with waiting := some q, waitCount := 0 }
        cpt := { s.cpt with port := .serving code } })
    (∀ (mode m l z sp : Byte) (slot : Slot), mode.toNat ≤ 1 → m.toNat ≤ 7 → l.toNat ≤ 3 → z.toNat ≤ 23 → sp.toNat ≤ 3 →
      s.mst[m.toNat]? = some slot → slot.state ≠ .free → l.toNat < slot.layers.length →
      exec (.recFind (frame [mode, m, l, z, sp])) s = .next (joined 38 (frame [mode, m, l, z, sp])
        (.find (if mode = 1 then .trial else .normal) ⟨m.toNat, l.toNat, z.toNat, sp.toNat⟩)))
      ∧ (∀ (p : List Byte) (f : KeyFilter), p.length = 6 → readFilter p 0 = some f → u8 p 5 ≤ 95 →
        exec (.recScan (frame p)) s = .next (joined 39 (frame p) (.scan f (u8 p 5))))
      ∧ (∀ (p : List Byte) (f : KeyFilter), p.length = 5 → readFilter p 0 = some f →
        exec (.recRetireMatch (frame p)) s = .next (joined 36 (frame p) (.retireMatch f)))
      ∧ (s.mst.length = 8 → ∀ (mode m l z sp : Byte) (st : Status),
        firstRefusal
            [(decide (mode.toNat ≤ 1), .badField),
              (decide (m.toNat ≤ 7 ∧ l.toNat ≤ 3 ∧ z.toNat ≤ 23 ∧ sp.toNat ≤ 3), .badField),
              ((s.mst[m.toNat]?).any (·.state ≠ .free), .notFound),
              ((s.mst[m.toNat]?).any fun slot => decide (l.toNat < slot.layers.length), .badField)] = some st →
          exec (.recFind (frame [mode, m, l, z, sp])) s = .next (refused 38 st (frame [mode, m, l, z, sp]) s))
      ∧ (∀ p : List Byte, p.length = 6 → filterFits p 0 = false ∨ 95 < u8 p 5 →
        exec (.recScan (frame p)) s = .next (refused 39 .badField (frame p) s))
      ∧ (∀ p : List Byte, p.length = 5 → filterFits p 0 = false →
        exec (.recRetireMatch (frame p)) s = .next (refused 36 .badField (frame p) s))

/-- The completions of host lookups: REC_FIND and REC_SCAN only form their response and free the engine; the matching pass frees each matching
record in service that no pin holds once the READY entries have re-resolved, leaves the others RETIRING, touches no other record but its
pins, and answers its three counts (R36, R53, R54, R55, R66, R68). -/
def Obligations.HostLookupsComplete : Prop :=
  (∀ (s : State) (mode : Mode) (k : Key), s.rse.inFlight = .host (.find mode k) →
    let found := resolve s.stb s.cpt.settings mode k
    let answers := fun p =>
      exec .recFindCompletion s = .next (arbiter (replied 38 .ok p { s with rse := { s.rse with inFlight := .idle } }))
    (∀ w, working s.stb k found = some w → answers
        ([BitVec.ofNat 8 w.kind.toNat, BitVec.ofNat 8 w.sources.length]
          ++ w.sources.flatMap (fun h =>
            [BitVec.ofNat 8 h.index, BitVec.ofNat 8 h.gen, BitVec.ofNat 8 (((s.record h.index).map (·.state.toNat)).getD 0)])
          ++ [if w.suspect then 1 else 0] ++ putU16 w.strat.pp ++ putU16 w.strat.ps ++ putU16 w.strat.pc ++ putS8 w.strat.dT
          ++ putU8 w.strat.tf ++ putU8 w.strat.tm ++ putU8 w.strat.tl ++ putU8 w.strat.tc ++ putU8 w.strat.overrides.length
          ++ ((w.strat.overrides.flatMap fun (o : Override) => putU8 o.len ++ putS8 o.lead ++ putS8 o.cool) ++ List.replicate 12 0).take 12
          ++ putU8 w.strat.dt ++ putS16 w.corr))
      ∧ (working s.stb k found = none → answers ((if mode = .trial then 6 else 5) :: List.replicate 29 0))
      ∧ (found = .miss ∨ found = .noTrial → working s.stb k found = none))
  ∧ (∀ (s : State) (f : KeyFilter) (start : Nat), s.rse.inFlight = .host (.scan f start) →
    let found := (List.range s.stb.length).filter fun i =>
      decide (start ≤ i) && (s.record i).any fun r => filterTakes f r.key
    let page := found.take 24
    let next : Byte := if page.length = 24 ∧ page.getLast?.getD 95 < 95 then BitVec.ofNat 8 (page.getLast?.getD 95 + 1) else 255
    exec .recScanCompletion s = .next (arbiter (replied 39 .ok
      (BitVec.ofNat 8 page.length :: page.flatMap (fun i =>
          [BitVec.ofNat 8 i, BitVec.ofNat 8 (((s.stb[i]?).map (·.gen)).getD 0),
            BitVec.ofNat 8 (((s.record i).map (·.state.toNat)).getD 0)])
        ++ [next]) { s with rse := { s.rse with inFlight := .idle } })))
  ∧ ∀ (s : State) (f : KeyFilter), s.rse.inFlight = .host (.retireMatch f) →
    let retired := fun e : Entry => (List.range s.stb.length).any fun i =>
      e.uses i && (s.record i).any fun r => filterTakes f r.key && decide (r.state ≠ .retiring)
    let u := reResolve retired s
    ∃ t, exec .recRetireMatchCompletion s = .next t
      ∧ (∀ i, s.record i = none → t.record i = none)
      ∧ (∀ i r, s.record i = some r → filterTakes f r.key = true → r.state ≠ .retiring →
          ∃ q, u.record i = some q
            ∧ t.record i = if q.pins = 0 then none else some { r with state := .retiring, pins := q.pins })
      ∧ (∀ i r, s.record i = some r → filterTakes f r.key = false ∨ r.state = .retiring → t.record i = u.record i)
      ∧ (∀ i r, s.record i = some r →
          u.record i = none ∧ r.state = .retiring ∨ ∃ n, u.record i = some { r with pins := n })
      ∧ (let freed := (List.range s.stb.length).countP fun i => (s.record i).isSome && (t.record i).isNone
        let retiring := (List.range s.stb.length).countP fun i =>
          (t.record i).any fun r => filterTakes f r.key && decide (r.state = .retiring)
        let sentBack := s.sgq.queue.countP fun e => decide (e.state = .ready) && retired e
        let counts := [BitVec.ofNat 8 freed, BitVec.ofNat 8 retiring, BitVec.ofNat 8 sentBack]
        t.cpt = { s.cpt with port := .responseReady { status := .ok, code := 36, payload := counts } })
      ∧ t.lsc = s.lsc ∧ t.wgd = s.wgd ∧ t.pkp = s.pkp ∧ t.pgn = s.pgn ∧ t.plp = s.plp ∧ t.flk = s.flk ∧ t.act = s.act
      ∧ t.lines = s.lines

/-- Re-resolution sends each READY entry it concerns back to PENDING with its copy discarded, keeps queue order, releases one pin from each
of its sources and frees a RETIRING source left without a pin; nothing else changes (R51, R58). -/
def Obligations.ReResolutionReleasesPins : Prop :=
  ∀ (p : Entry → Bool) (s : State), Safety.PinsAgree s → (∀ e ∈ s.sgq.queue, p e = true → e.kind ≠ .read) →
    let t := reResolve p s
    t.sgq.queue = s.sgq.queue.map (fun e =>
        if e.state = .ready ∧ p e = true then { e with state := .pending, copy := .none, warnings := Warnings.empty } else e)
      ∧ Safety.PinsAgree t
      ∧ (∀ i r, s.record i = some r →
          t.record i = none ∧ r.state = .retiring ∨ ∃ n ≤ r.pins, t.record i = some { r with pins := n })
      ∧ t = { s with stb := t.stb, mst := t.mst, sgq := { s.sgq with queue := t.sgq.queue } }

/-- The arbiter's rule for a free engine, by the host wait count (R39). -/
def Obligations.ArbiterTakesTheNextRequester : Prop :=
  ∀ s : State, (s.rse.inFlight ≠ .idle → arbiter s = s)
    ∧ (s.rse.inFlight = .idle →
      let taken := fun e : Entry =>
        { s with
          sgq := { s.sgq with queue := s.sgq.queue.map fun x => if x.pos = e.pos then { x with state := .resolving } else x }
          rse := { s.rse with inFlight := .segment e.pos e.tag } }
      (∀ q, s.rse.waiting = some q → s.rse.waitCount = 2 →
          arbiter s = { s with rse := { inFlight := .host q, waiting := none, waitCount := 0 } })
        ∧ (∀ (a b : List Entry) (e : Entry), s.sgq.queue = a ++ e :: b → e.state = .pending → e.isWrite = true →
          (∀ x ∈ a, x.state ≠ .pending ∨ x.isWrite = false) → (s.rse.waiting = none ∨ s.rse.waitCount ≠ 2) → arbiter s = taken e)
        ∧ ((∀ x ∈ s.sgq.queue, x.state ≠ .pending ∨ x.isWrite = false) →
          (∀ q, s.rse.waiting = some q → arbiter s = { s with rse := { inFlight := .host q, waiting := none, waitCount := 0 } })
            ∧ (s.rse.waiting = none → arbiter s = s)))

/-! ### Resolution -/

/-- Resolving a key: the exact record, else a derivation from two neighbours within the span, else a borrow from the nearer neighbour within
the borrow distance, else MISS; a TRIAL lookup finds the PROVISIONAL record alone (R41 to R44). -/
def Obligations.ResolutionFollowsTheSteps : Prop :=
  ∀ (places : List Place) (set : Settings) (k : Key), k.zone ≤ 23 →
    (∀ i r, sourceRecord places i = some r → r.key = k → r.state = .provisional →
        (∀ j < i, ∀ q ∈ sourceRecord places j, q.key = k → q.state ≠ .provisional) →
        resolve places set .trial k = .found .exactTrial [i])
      ∧ ((∀ i, ∀ r ∈ sourceRecord places i, r.key = k → r.state ≠ .provisional) → resolve places set .trial k = .noTrial)
      ∧ (∀ i, usableAt places k k.zone i → resolve places set .normal k = .found .exact [i])
      ∧ (noneUsable places k k.zone →
        (∀ zl zu i j, zl < k.zone → k.zone < zu → zu ≤ 23 → usableAt places k zl i → usableAt places k zu j →
            (∀ z, zl < z → z < zu → noneUsable places k z) →
            resolve places set .normal k =
              if zu - zl ≤ set.deriveSpan then .derived ⟨zl, i⟩ ⟨zu, j⟩
              else if k.zone - zl ≤ zu - k.zone then
                if k.zone - zl ≤ set.borrowDistance then .found .borrowed [i] else .miss
              else if zu - k.zone ≤ set.borrowDistance then .found .borrowed [j] else .miss)
          ∧ (∀ zl i, zl < k.zone → usableAt places k zl i → (∀ z, zl < z → z ≤ 23 → noneUsable places k z) →
            resolve places set .normal k = if k.zone - zl ≤ set.borrowDistance then .found .borrowed [i] else .miss)
          ∧ (∀ zu j, k.zone < zu → zu ≤ 23 → usableAt places k zu j → (∀ z, z < zu → noneUsable places k z) →
            resolve places set .normal k = if zu - k.zone ≤ set.borrowDistance then .found .borrowed [j] else .miss)
          ∧ ((∀ z ≤ 23, noneUsable places k z) → resolve places set .normal k = .miss))

/-- An interpolated field is the nearest-up rounding of the exact weighted value, lies between its two source values, and keeps the order
of two fields (R1, R45).  The working values of a resolution: those of its single source, or, derived, every numeric field and the correction
interpolated and the override list of the nearer source, the lower at equal distance; with the handles of the sources as they stand, the lower
first, and SUSPECT_SOURCE when a source is SUSPECT; none for MISS and NO_TRIAL (R45, R46, R47). -/
def Obligations.InterpolationStaysBetween : Prop :=
  (∀ (a b c d : Int) (z zl zu : Nat), zl < z → z < zu →
    let span : Int := (zu : Int) - zl
    let exact := a * ((zu : Int) - z) + b * ((z : Int) - zl)
    (2 * span * interp a b z zl zu ≤ 2 * exact + span ∧ 2 * exact + span < 2 * span * (interp a b z zl zu + 1))
      ∧ (min a b ≤ interp a b z zl zu ∧ interp a b z zl zu ≤ max a b)
      ∧ (a ≤ c → b ≤ d → interp a b z zl zu ≤ interp c d z zl zu))
  ∧ (∀ (places : List Place) (k : Key) (kind : ResKind) (i g : Nat) (r : Record), places[i]? = some { gen := g, held := some r } →
    working places k (.found kind [i])
      = some { kind, strat := r.strat, corr := r.corr, sources := [⟨i, g⟩], suspect := decide (r.state = .suspect) })
  ∧ (∀ (places : List Place) (k : Key) (zl zu i j gi gj : Nat) (l u : Record), zl < k.zone → k.zone < zu →
    places[i]? = some { gen := gi, held := some l } → places[j]? = some { gen := gj, held := some u } →
    let f := fun a b : Int => interp a b k.zone zl zu
    ∃ w, working places k (.derived ⟨zl, i⟩ ⟨zu, j⟩) = some w ∧ w.kind = .derived
      ∧ (w.strat.pp : Int) = f l.strat.pp u.strat.pp ∧ (w.strat.ps : Int) = f l.strat.ps u.strat.ps
      ∧ (w.strat.pc : Int) = f l.strat.pc u.strat.pc ∧ w.strat.dT = f l.strat.dT u.strat.dT
      ∧ (w.strat.tf : Int) = f l.strat.tf u.strat.tf ∧ (w.strat.tm : Int) = f l.strat.tm u.strat.tm
      ∧ (w.strat.tl : Int) = f l.strat.tl u.strat.tl ∧ (w.strat.tc : Int) = f l.strat.tc u.strat.tc
      ∧ (w.strat.dt : Int) = f l.strat.dt u.strat.dt ∧ w.corr = f l.corr u.corr
      ∧ w.strat.overrides = (if k.zone - zl ≤ zu - k.zone then l.strat.overrides else u.strat.overrides)
      ∧ w.sources = [⟨i, gi⟩, ⟨j, gj⟩] ∧ (w.suspect = true ↔ l.state = .suspect ∨ u.state = .suspect))
  ∧ ∀ (places : List Place) (k : Key), working places k .miss = none ∧ working places k .noTrial = none

/-- A segment lookup completion: the entry gets its working copy and its sources a pin each, and the queue goes on, the head beginning to
arm; or it ends with NO_STRATEGY or NO_TRIAL, which counts LOOKUP_MISS and SEGMENT_FAILED; when the entry is gone only the engine and the
host wait count move (R39, R48, R49, R50, R86). -/
def Obligations.SegmentLookupsComplete : Prop :=
  (∀ (s : State) (e : Entry), Safety.QueueShaped s → e ∈ s.sgq.queue → e.state = .resolving →
    s.rse.inFlight = .segment e.pos e.tag →
    let key := s.entryKey e
    let mode : Mode := if e.kind = .trial then .trial else .normal
    let isHead := decide (s.sgq.queue.head? = some e)
    let idle : Rse :=
      { s.rse with
        inFlight := .idle, waitCount := if s.rse.waiting.isSome then s.rse.waitCount + 1 else s.rse.waitCount }
    (∀ w, working s.stb key (resolve s.stb s.cpt.settings mode key) = some w →
      let copy : WorkingCopy :=
        { kind := w.kind, key, strat := w.strat, running := w.corr, initial := w.corr, sources := w.sources, tally := 0 }
      ∃ u, exec .segmentLookupCompletion s = .next (settleCodes s (arbiter (goOn u)))
        ∧ u.sgq.queue = s.sgq.queue.map (fun x =>
            if x.pos = e.pos then
              { x with state := .ready, copy := .strategy copy, warnings := { Warnings.empty with suspectSource := w.suspect } }
            else x)
        ∧ u.stb.map (·.gen) = s.stb.map (·.gen)
        ∧ (∀ i, u.record i
            = (s.record i).map fun r => { r with pins := r.pins + w.sources.countP (fun h => decide (h.index = i)) })
        ∧ u = { s with
                stb := u.stb, sgq := { s.sgq with queue := u.sgq.queue }, rse := idle
                act := s.act.map (Counter.add w.kind.lookupEvent (some key) 1)
                cpt := { s.cpt with notices := { s.cpt.notices with counterWrap := u.cpt.notices.counterWrap } } })
    ∧ (∀ w, working s.stb key (resolve s.stb s.cpt.settings mode key) = some w → (isHead = false ∨ s.lsc.laser ≠ .read) →
      ∃ t, exec .segmentLookupCompletion s = .next t
        ∧ { e with
            state := if isHead then .arming else .ready
            copy := .strategy
              { kind := w.kind, key, strat := w.strat, running := w.corr, initial := w.corr, sources := w.sources, tally := 0 }
            warnings := { Warnings.empty with suspectSource := w.suspect } } ∈ t.sgq.queue
        ∧ (∀ i r, s.record i = some r →
            t.record i = some { r with pins := r.pins + w.sources.countP (fun h => decide (h.index = i)) })
        ∧ t.act = s.act.map (Counter.add w.kind.lookupEvent (some key) 1)
        ∧ t.mst = s.mst ∧ t.flk = s.flk ∧ t.pkp = s.pkp ∧ t.pgn = s.pgn ∧ t.plp = s.plp ∧ t.lsc = s.lsc ∧ t.wgd = s.wgd)
      ∧ (working s.stb key (resolve s.stb s.cpt.settings mode key) = none →
        (∃ u, exec .segmentLookupCompletion s = .next (settleCodes s (arbiter (goOn u)))
          ∧ u.sgq.queue = s.sgq.queue.filter (fun x => decide (x.tag ≠ e.tag))
          ∧ u.act = s.act.map (fun c => Counter.add .segmentFailed (some key) 1 (Counter.add .lookupMiss (some key) 1 c))
          ∧ (s.flk.out.length < 32 → u.flk = { s.flk with out := s.flk.out
              ++ [doneBytes e.tag e.cls (if e.kind = .trial then .noTrial else .noStrategy) e.warnings] })
          ∧ u.rse = idle ∧ u.stb = s.stb ∧ u.mst = s.mst ∧ u.pkp = s.pkp ∧ u.pgn = s.pgn ∧ u.plp = s.plp ∧ u.lsc = s.lsc
          ∧ u.wgd = s.wgd ∧ u.lines = s.lines)
        ∧ ∃ t, exec .segmentLookupCompletion s = .next t
          ∧ (∀ x ∈ t.sgq.queue, x.tag ≠ e.tag)
          ∧ (s.flk.out.length < 32 → ∃ rest, t.flk.out = s.flk.out
              ++ doneBytes e.tag e.cls (if e.kind = .trial then .noTrial else .noStrategy) e.warnings :: rest)
          ∧ t.cpt.notices.needsRecord = if e.kind = .trial then s.cpt.notices.needsRecord else some key))
  ∧ ∀ (s : State) (pos tag : Nat), s.rse.inFlight = .gone pos tag →
    exec .segmentLookupCompletion s = .next (arbiter
      { s with rse :=
          { s.rse with
            inFlight := .idle
            waitCount := if s.rse.waiting.isSome then s.rse.waitCount + 1 else s.rse.waitCount } })

/-! ### Formatter link and intake -/

/-- SEG: the first intake check that fails sends REJECT with its reason and changes nothing else; an accepted descriptor joins the queue at
the lowest FREE position, a READ with its read power, which arms at once at the head of an empty queue (R81, R83, R84, R86, R89).  The
descriptor's fields and the bytes of REJECT and READY are those of R207. -/
def Obligations.SegIsRejectedOrTaken : Prop :=
  ∀ (b1 b2 b3 b4 : Byte) (s : State), s.flk.side = .inStep → s.flk.rx = [] →
    let d : Descriptor :=
      { tag := b1.toNat / 16, kind := b1.toNat % 16, cls := b2.toNat / 16, layer := b2.toNat % 16, zone := b3.toNat, speed := b4.toNat }
    (∀ r, firstFailing s d = some r →
        exec (.seg b1 b2 b3 b4) s
          = .next (sent (rejectBytes d.tag d.cls r (decide (r ≠ .creditViolation ∧ 1 ≤ d.cls ∧ d.cls ≤ 3))) s))
      ∧ (firstFailing s d = none → Safety.QueueWithinCredits s → s.sgq.queue.head?.all (fun h => decide (h.state ≠ .ready)) = true →
        ∃ (kind : SegKind) (cls : CreditClass) (pos : Nat),
          SegKind.ofNat? d.kind = some kind ∧ CreditClass.ofNat? d.cls = some cls
            ∧ pos < 6 ∧ (∀ e ∈ s.sgq.queue, e.pos ≠ pos) ∧ (∀ q < pos, ∃ e ∈ s.sgq.queue, e.pos = q)
            ∧ (let e : Entry :=
                { pos, tag := d.tag, kind, cls, layer := d.layer, zone := d.zone, speed := d.speed
                  state := if kind = .read then .ready else .pending
                  copy := if kind = .read then .read
                      (match s.mst.find? (·.state = .mounted) with
                        | some m => ((m.layers[d.layer]?).map (·.readPower)).getD 0
                        | none => s.plp.diode.defaultRead)
                    else .none
                  captured := none, warnings := Warnings.empty }
              ((kind ≠ .read ∨ s.sgq.queue ≠ []) →
                  exec (.seg b1 b2 b3 b4) s = .next (arbiter (queued (s.sgq.queue ++ [e]) s)))
                ∧ (kind = .read → s.sgq.queue = [] → (s.lsc.laser ≠ .read ∨ ∃ t a, s.pkp.focus = .jumping t a) →
                  exec (.seg b1 b2 b3 b4) s = .next (arbiter (queued [{ e with state := .arming }] s)))
                ∧ (kind = .read → s.sgq.queue = [] → s.lsc.laser = .read → (∀ t a, s.pkp.focus ≠ .jumping t a) →
                  s.pkp.focus ≠ .steady d.layer →
                  exec (.seg b1 b2 b3 b4) s
                    = .next (arbiter (jumpRequested e (queued [{ e with state := .arming }] s))))
                ∧ (∀ lim, s.plp.limits = some lim → kind = .read → s.sgq.queue = [] → s.lsc.laser = .read →
                  s.pkp.focus = .steady d.layer →
                  exec (.seg b1 b2 b3 b4) s = .next (recompute false (arbiter (sent (readyBytes d.tag)
                    (queued [{ e with state := .active, captured := some (capturedFor s e lim.pd) }] s)))))))

/-- CANCEL ends the waiting, arming or armed entry it names and END the running read, each with one DONE behind the messages already sent;
naming anything else raises LINK_FAULT and changes nothing (R96, R97, R98, R101).  That the tag is the upper half of the first payload byte
whatever its lower half holds is the model's choice (log entry 24), and so is one computation of the codes at the end (log entry 9). -/
def Obligations.CancelAndEndActOnTheirEntry : Prop :=
  (∀ (s : State) (b1 : Byte), s.flk.side = .inStep → s.flk.rx = [] →
    let tag := b1.toNat / 16
    ((∀ e ∈ s.sgq.queue, e.tag = tag → e.state = .active ∨ e.state = .closing) → exec (.cancel b1) s = .next (faulted s))
      ∧ (∀ e ∈ s.sgq.queue, Safety.QueueWithinCredits s → e.tag = tag → e.state ≠ .active → e.state ≠ .closing →
        exec (.cancel b1) s = .next (settleCodes s (goOn (finishEntry .cancelled e (release e s))))
          ∧ (s.sgq.queue.head? ≠ some e → s.sgq.queue.head?.all (fun h => decide (h.state ≠ .ready)) = true →
            exec (.cancel b1) s = .next (finishEntry .cancelled e (release e s))))
      ∧ (∀ (e : Entry) (rest : List Entry), s.sgq.queue = e :: rest → e.tag = tag → e.kind = .read → e.state = .active →
        exec (.endMsg b1) s = .next (settleCodes s (goOn (finishEntry .ok e s))))
      ∧ ((∀ e ∈ s.sgq.queue.head?, e.tag ≠ tag ∨ e.kind ≠ .read ∨ e.state ≠ .active) →
        exec (.endMsg b1) s = .next (faulted s)))
  ∧ ∀ (o : DoneOutcome) (e : Entry) (s : State), Safety.QueueWithinCredits s → e ∈ s.sgq.queue →
    let t := finishEntry o e s
    t.sgq.queue.map (·.tag) = (s.sgq.queue.map (·.tag)).erase e.tag
      ∧ (s.flk.out.length < 32 → t.flk = { s.flk with out := s.flk.out ++ [doneBytes e.tag e.cls o e.warnings] })
      ∧ (o = .ok → t.act = s.act)
      ∧ (o ≠ .ok → t.act
          = s.act.map (Counter.add .segmentFailed (if e.kind = .read then none else some (s.entryKey e)) 1))
      ∧ t.stb = s.stb ∧ t.mst = s.mst ∧ t.pkp = s.pkp ∧ t.pgn = s.pgn ∧ t.plp = s.plp ∧ t.lsc = s.lsc ∧ t.wgd = s.wgd

/-- The link's bytes: a discarded message and RESYNC on the way in, the idle byte and the queued messages in order on the way out; a
message leaves the queue with its sixth byte, and a sixth byte received delivers the SEG, CANCEL or END it completes or discards the message
(R78, R79).  That the outgoing byte of a period is taken before the received one and that the byte last transmitted is held are the model's
choices (log entry 23), as are the idle byte owed while GRANT already stands in the queue (log entry 22) and the payload bits of CANCEL and
END that are not read (log entry 24). -/
def Obligations.LinkBytes : Prop :=
  (∀ (m : LinkMessage) (s : State), s.flk.side = .inStep → s.flk.rx = [] → m.code ≠ 0 →
      ((m.code ≠ 193 ∧ m.code ≠ 194 ∧ m.code ≠ 195) ∨ m.code + m.b1 + m.b2 + m.b3 + m.b4 + m.check ≠ 0) →
      exec (.linkMessageDiscarded m) s = .next (faulted { s with flk := { s.flk with side := .resync } }))
    ∧ (∀ s : State, s.flk.side = .resync →
      exec .resyncIdleByte s = .next { s with flk := { s.flk with side := .inStep } })
    ∧ (∀ s : State, s.flk.idleFirst = true →
      exec (.linkBytePeriod none) s = .next { s with flk := { s.flk with idleFirst := false, txByte := 0 } })
    ∧ (∀ s : State, s.flk.idleFirst = false → s.flk.out = [] →
      exec (.linkBytePeriod none) s = .next { s with flk := { s.flk with txByte := 0 } })
    ∧ (∀ (s : State) (m : List Byte) (ms : List (List Byte)) (b : Byte), s.flk.idleFirst = false → s.flk.out = m :: ms →
      m[s.flk.sent]? = some b →
      (s.flk.sent < 5 → exec (.linkBytePeriod none) s
          = .next { s with flk := { s.flk with sent := s.flk.sent + 1, txByte := b } })
        ∧ (s.flk.sent = 5 → exec (.linkBytePeriod none) s
          = .next { s with flk := { s.flk with out := ms, sent := 0, txByte := b } }))
    ∧ (∀ (s t : State) (b : Byte), exec (.linkBytePeriod none) s = .next t →
      (s.flk.side = .inStep → s.flk.rx = [] → b = 0 → exec (.linkBytePeriod (some b)) s = .next t)
        ∧ (s.flk.side = .inStep → s.flk.rx.length < 5 → (s.flk.rx ≠ [] ∨ b ≠ 0) →
          exec (.linkBytePeriod (some b)) s = .next { t with flk := { t.flk with rx := s.flk.rx ++ [b] } })
        ∧ (s.flk.side = .resync →
          exec (.linkBytePeriod (some b)) s
            = .next { t with flk := { t.flk with side := if b = 0 then .inStep else .resync } })
        ∧ (∀ c b1 b2 b3 b4, s.flk.side = .inStep → s.flk.rx = [c, b1, b2, b3, b4] →
          let u : State := { t with flk := { t.flk with rx := [] } }
          (c + b1 + b2 + b3 + b4 + b = 0 →
              (c = 193 → exec (.linkBytePeriod (some b)) s = exec (.seg b1 b2 b3 b4) u)
                ∧ (c = 194 → exec (.linkBytePeriod (some b)) s = exec (.cancel b1) u)
                ∧ (c = 195 → exec (.linkBytePeriod (some b)) s = exec (.endMsg b1) u))
            ∧ ((c ≠ 193 ∧ c ≠ 194 ∧ c ≠ 195) ∨ c + b1 + b2 + b3 + b4 + b ≠ 0 →
              exec (.linkBytePeriod (some b)) s = .next (faulted { u with flk := { u.flk with side := .resync } }))))

/-! ### Arming, the gate and the end of an entry -/

/-- The arming checks in their order: what a judgement of the ARMING head leads to, and a READY head begins arming (R31, R86 to R90,
R113, R147, R183). -/
def Obligations.ArmingChecksInOrder : Prop :=
  ∀ (s : State) (e : Entry) (rest : List Entry), s.sgq.queue = e :: rest →
    (e.state = .ready → goOn s = judgeAgain (queued ({ e with state := .arming } :: rest) s))
      ∧ (e.state ≠ .ready → goOn s = s) ∧ (e.state ≠ .arming → judgeAgain s = s)
      ∧ (e.state = .arming →
        (s.lsc.laser ≠ .read → judgeAgain s = s)
          ∧ (s.lsc.laser = .read →
            (∀ t a, s.pkp.focus = .jumping t a → judgeAgain s = s)
              ∧ ((∀ t a, s.pkp.focus ≠ .jumping t a) → s.pkp.focus ≠ .steady e.layer → judgeAgain s = jumpRequested e s)
              ∧ (s.pkp.focus = .steady e.layer → ∀ lim, s.plp.limits = some lim →
                let captured := some (capturedFor s e lim.pd)
                let fails := fun o => goOn (finishEntry o e (release e s))
                (e.kind = .read →
                    judgeAgain s = sent (readyBytes e.tag) (queued ({ e with state := .active, captured } :: rest) s))
                  ∧ (e.kind ≠ .read → e.zone ≤ 23 → s.pkp.zoneMap.length = 23 →
                    (s.pkp.valid = false → judgeAgain s = fails .posUnknown)
                      ∧ (s.pkp.valid = true →
                        (¬ zonePasses s.pkp.zoneMap e.zone s.pkp.sled s.cpt.settings.guardBand →
                            judgeAgain s = fails .zoneMismatch)
                          ∧ (zonePasses s.pkp.zoneMap e.zone s.pkp.sled s.cpt.settings.guardBand →
                            (s.pkp.measurement = none → judgeAgain s = s)
                              ∧ (∀ m, s.pkp.measurement = some m → Safety.PickupInRange s →
                                ((∀ w, s.pkp.windows[e.speed]? = some w → m < w.lo ∨ w.hi < m) →
                                    judgeAgain s = fails .speedMismatch)
                                  ∧ (∀ w, s.pkp.windows[e.speed]? = some w → w.lo ≤ m → m ≤ w.hi →
                                    let hot := s.cpt.settings.hotLimit ≤ s.plp.sample.getD s.plp.diode.tRef
                                    (hot → judgeAgain s = fails .hot)
                                      ∧ (¬ hot → s.wgd.supplyWarn = true → judgeAgain s = fails .lowSupply)
                                      ∧ (¬ hot → s.wgd.supplyWarn = false →
                                        judgeAgain s = sent (readyBytes e.tag)
                                          (queued ({ e with state := .armed, captured } :: rest) s)))))))))) 

/-- A gate rise on an ARMED write head opens the write: WRITE, SPACE level, keepalive period, empty accumulations; a gate fall on the ACTIVE
write closes it: CLOSING, READ, keepalive stopped; a rise in HOLD and any other fall are ignored (R92, R94, R134, R135, R171, R172,
R177, R178). -/
def Obligations.GateOpensAndClosesAWrite : Prop :=
  ∀ (s : State) (e : Entry) (rest : List Entry),
    (s.lsc.laser = .read → s.sgq.queue = e :: rest → e.state = .armed → e.kind ≠ .read →
        exec .wgateRise s = .next (recompute true
          { periodClosed (queued ({ e with state := .active } :: rest) s) with
            pgn := { closed s.pgn with level := .space, presented := s.pgn.presented, waiting := s.pgn.waiting }
            lsc := { s.lsc with laser := .write }
            wgd := { s.wgd with keepalive := some { count := 0, k := s.cpt.settings.keepPeriod } }
            lines := { s.lines with wgate := true } }))
      ∧ (s.lsc.laser = .hold → exec .wgateRise s = .next { s with lines := { s.lines with wgate := true } })
      ∧ (∀ wc, writing s e wc rest →
        exec .wgateFall s = .next (recompute true
          { periodClosed (queued ({ e with state := .closing } :: rest) s) with
            lsc := { s.lsc with laser := .read }
            wgd := { s.wgd with keepalive := none }
            lines := { s.lines with wgate := false } }))
      ∧ ((s.lsc.laser ≠ .write ∨ s.sgq.activeWrite = none) →
        exec .wgateFall s = .next { s with lines := { s.lines with wgate := false } })

/-- WRITE_BACK completes for every CLOSING head with a working copy: every source's record takes the tally, the correction
where it is stored, SUSPECT where aging or a correction limit marks it, and loses its pin; DONE(OK) follows, and the queue goes on (R9, R69 to
R74, R95). -/
def Obligations.WriteBackUpdatesTheSources : Prop :=
  ∀ (s : State) (e : Entry) (wc : WorkingCopy) (rest : List Entry), Safety.PinsAgree s → s.sgq.queue = e :: rest →
    e.state = .closing → e.copy = .strategy wc →
    let limit := e.warnings.corrLimit
    let exact := decide (wc.kind = .exact ∨ wc.kind = .exactTrial)
    let stale := exact && wc.sources.any fun h => ((s.stb[h.index]?).map (·.gen)) != some h.gen
    ∃ u, exec .writeBack s = .next (settleCodes s (goOn u))
      ∧ u.sgq.queue = rest
      ∧ u.stb.map (·.gen) = s.stb.map (·.gen)
      ∧ (∀ (h : Handle) (p : Place) (r : Record), h ∈ wc.sources → s.stb[h.index]? = some p → p.held = some r →
          u.record h.index = writtenBack wc limit h p.gen r
            ∧ (r.ageThreshold ≠ 0 → r.onTime < r.ageThreshold → r.ageThreshold ≤ min 16777215 (r.onTime + wc.tally) →
                r.state ≠ .retiring → u.cpt.notices.aged.isSome = true)
            ∧ (limit = true → exact = true → p.gen = h.gen → r.usable = true → u.cpt.notices.suspect = some r.key))
      ∧ (∀ i, (∀ h ∈ wc.sources, h.index ≠ i) → u.record i = s.record i)
      ∧ (s.flk.out.length < 32 → u.flk.out = s.flk.out
          ++ [doneBytes e.tag e.cls .ok { e.warnings with staleWriteback := e.warnings.staleWriteback || stale }])
      ∧ u.cpt.notices.needsRecord
          = (if exact = false ∧ (limit = true ∨ s.cpt.settings.deriveWarn ≤ (wc.running - wc.initial).natAbs) then some wc.key
            else s.cpt.notices.needsRecord)
      ∧ u.act = (if stale then s.act.map (Counter.add .staleWriteback (some wc.key) 1) else s.act)
      ∧ u.lsc = s.lsc ∧ u.wgd = s.wgd ∧ u.pkp = s.pkp ∧ u.pgn = s.pgn ∧ u.plp = s.plp

/-- QUEUE_ABORT ends every entry that is not CLOSING, oldest first, each with DONE(ABORTED), stops a write and answers the number ended
and whether a CLOSING entry remains (R99, R172). -/
def Obligations.QueueAbortEndsTheQueue : Prop :=
  ∀ s : State, s.cpt.port = .idle → Safety.WriteGuarded s → Safety.PinsAgree s → ∃ t,
    let ended := s.sgq.queue.filter (·.state ≠ .closing)
    exec (.queueAbort (frame [])) s = .next t
      ∧ t.sgq.queue = s.sgq.queue.filter (·.state = .closing)
      ∧ t.lsc = (if s.lsc.laser = .write then { s.lsc with laser := .read } else s.lsc)
      ∧ (s.lsc.laser = .write → t.pgn.level = .read ∧ t.pgn.edges = [] ∧ t.pgn.waiting = none)
      ∧ t.wgd = (if s.lsc.laser = .write then { s.wgd with keepalive := none } else s.wgd)
      ∧ (s.flk.out.length + ended.length ≤ 32 →
          t.flk.out = s.flk.out ++ ended.map fun e => doneBytes e.tag e.cls .aborted e.warnings)
      ∧ t.cpt.port = .responseReady
          { status := .ok, code := 97, payload :=
              [BitVec.ofNat 8 ended.length, if s.sgq.queue.any (·.state = .closing) = true then 1 else 0] }
      ∧ PartlyWritten s t
      ∧ t.pkp = s.pkp ∧ t.cpt.settings = s.cpt.settings ∧ t.lines = s.lines ∧ t.pending = s.pending

/-! ### Holds -/

/-- Each hold cause enters HOLD from another laser state: a keepalive period that runs out or is strobed too early, a gate rise that starts no
write, a supply trip, a sample above the trip level; a further cause in HOLD joins the set (R100, R162, R173, R174, R177, R179, R180, R184).
A period runs out when its count stands at K, or with the K-th tick where that reaches the Write Guard first; taking KEEPALIVE_EXPIRY for that
tick, which the MS_TICK that follows does not count again, is the model's choice (log entry 7), so is a period with K of 1 that runs out at
the first tick after a strobe (log entry 31), and the position at which a sample has come is its form (log entries 12 and 14).  An overpower
sample taken before a supply trip leaves both causes in the set (R163, R173). Taken after it, a sample that the output had come to is taken in
HOLD (R173) or was never offered (R163), by a free value of the model (log entry 29), and no other sample is taken. -/
def Obligations.HoldCausesEnterHold : Prop :=
  ∀ s : State, Safety.WriteGuarded s → Safety.PinsAgree s →
    (∀ k, s.lsc.laser = .write → s.wgd.keepalive = some k →
        (k.k ≤ k.count ∨ k.k = k.count + 1 ∧ s.wgd.tickTaken = false →
          ∃ t, exec .keepaliveExpiry s = .next t ∧ HoldEntered .keepExpired s t
            ∧ t.wgd.tickTaken = (s.wgd.tickTaken || decide (k.count < k.k)))
          ∧ (k.count + 1 < k.k ∨ k.count < k.k ∧ s.wgd.tickTaken = true → exec .keepaliveExpiry s = .next s))
      ∧ (∀ k, s.lsc.laser = .write → s.wgd.keepalive = some k → s.cpt.settings.windowMode = true → k.count < k.k / 4 →
        ∃ t, exec .keepStrobe s = .next t ∧ HoldEntered .keepEarly s t)
      ∧ ((s.lsc.laser = .off ∨ s.lsc.laser = .settling
            ∨ s.lsc.laser = .read ∧ s.sgq.queue.head?.all (fun e => decide (e.state ≠ .armed)) = true) →
        ∃ t, exec .wgateRise s = .next t ∧ HoldEntered .gateEarly s t)
      ∧ (s.lsc.laser ≠ .hold → ∃ t, exec .ldtripAssert s = .next t ∧ HoldEntered .supplyTrip s t)
      ∧ (s.lsc.laser = .hold → ∃ t, exec .ldtripAssert s = .next t
          ∧ t.lsc = { s.lsc with causes := { s.lsc.causes with supplyTrip := true } } ∧ t.lines.ldtrip = true
          ∧ t.sgq.queue.map (·.tag) = s.sgq.queue.map (·.tag)
          ∧ (s.lsc.causes.supplyTrip = false → t.cpt.notices.holdEntered = true ∧ t.pgn.presented = CodeSet.zero))
      ∧ (∀ (e : Entry) (wc : WorkingCopy) (rest : List Entry) (c : Captured) (m : Nat), writing s e wc rest →
        e.captured = some c → c.ceiling + s.cpt.settings.tripMargin < m →
        (∀ p ∈ s.pgn.peaks.head?, peakDue s.pgn p →
            ∃ t, exec (.peakSample m) s = .next t ∧ HoldEntered .overpower s t ∧ t.pgn.presented = CodeSet.zero)
          ∧ (∀ p ∈ s.pgn.spaces.head?, outputAt s.pgn p → ∀ h, s.pgn.held = some h → h.reading = m →
            ∃ t, exec .spaceSample s = .next t ∧ HoldEntered .overpower s t ∧ t.pgn.presented = CodeSet.zero))
        -- a supply trip and an overpower sample, in either order
      ∧ (∀ (e : Entry) (wc : WorkingCopy) (rest : List Entry) (c : Captured) (t : State), writing s e wc rest → e.captured = some c →
        exec .ldtripAssert s = .next t →
        (∀ p ∈ s.pgn.spaces.head?, outputAt s.pgn p → ∀ h, s.pgn.held = some h →
            t.lsc.offered = if Config.sampleSurvivesTrip = true then some { ceiling := c.ceiling, held := some h.reading } else none)
          ∧ (∀ p ∈ s.pgn.peaks.head?, peakDue s.pgn p →
            t.lsc.offered = if Config.sampleSurvivesTrip = true then some { ceiling := c.ceiling, held := none } else none)
          ∧ ((∀ p ∈ s.pgn.spaces.head?, ¬ outputAt s.pgn p) → (∀ p ∈ s.pgn.peaks.head?, ¬ peakDue s.pgn p) → t.lsc.offered = none)
          ∧ ∀ m, c.ceiling + s.cpt.settings.tripMargin < m → ∀ p ∈ s.pgn.peaks.head?, peakDue s.pgn p →
            ∃ u v w, exec (.peakSample m) t = .next u ∧ exec (.peakSample m) s = .next v ∧ exec .ldtripAssert v = .next w
              ∧ u.lsc.causes = { HoldCauses.empty with overpower := Config.sampleSurvivesTrip, supplyTrip := true }
              ∧ w.lsc.causes = { HoldCauses.empty with overpower := true, supplyTrip := true })
      ∧ (s.lsc.laser = .hold → ∀ (o : OfferedSample) (m : Nat), s.lsc.offered = some o →
        let taken : Lsc := { s.lsc with offered := none }
        let joined : State :=
          { s with
            lsc := { taken with causes := { s.lsc.causes with overpower := true } }
            cpt := { s.cpt with notices := { s.cpt.notices with holdEntered := true } } }
        let after :=
          if o.ceiling + s.cpt.settings.tripMargin < m ∧ s.lsc.causes.overpower = false then recompute false joined
          else { s with lsc := taken }
        (o.held = none → exec (.peakSample m) s = .next after ∧ exec .spaceSample s = .next s)
          ∧ (o.held = some m → exec .spaceSample s = .next after ∧ ∀ n, exec (.peakSample n) s = .next s))

/-! ### Pickup and focus -/

/-- One observation of SLA and SLB: a step outward or inward with its home event and range limits, or a glitch (R106 to R109). -/
def Obligations.SledStepsAndGlitches : Prop :=
  ∀ (s : State) (sla slb shome : Bool),
    let before := (s.lines.sla, s.lines.slb)
    let o : State := { s with lines := { s.lines with sla, slb, shome } }
    ((sla, slb) = outward before → exec (.sledStep sla slb shome) s
        = .next (if s.pkp.sled < 32767 then { o with pkp := { s.pkp with sled := s.pkp.sled + 1 } } else lost o))
      ∧ (before = outward (sla, slb) → exec (.sledStep sla slb shome) s
        = .next (if shome then { o with pkp := { s.pkp with sled := 0, valid := true } }
            else if 0 < s.pkp.sled then { o with pkp := { s.pkp with sled := s.pkp.sled - 1 } } else lost o))
      ∧ ((sla, slb) = outward (outward before) → exec (.sledStep sla slb shome) s = .next (lost o))
      ∧ ((sla, slb) = before → exec (.sledStep sla slb shome) s = .next o)

/-- An accepted ZONE_MAP replaces the map, an accepted SPEED_MAP the interval and windows; WOB pulses are counted up to 65535 and latched at
the end of the interval: when its marks have passed, or for 0.5 ms at the half-millisecond mark inside the running ms, once.  A refused map has
the status of the first of its checks that fails (R112, R116).  What stands for those marks is the model's choice (R112, R114, R116; log entries 7
and 8). -/
def Obligations.MapsAndWobble : Prop :=
  ∀ s : State,
    (s.cpt.port = .idle → ∀ p : List Byte, p.length = 46 →
        let b := (List.range 23).map fun k => u16 p (2 * k)
        ((∃ x ∈ b, x < 1 ∨ 32767 < x) → exec (.zoneMap (frame p)) s = .next (clocked (frame p) s (replied 64 .badField [] s)))
          ∧ ((∀ x ∈ b, 1 ≤ x ∧ x ≤ 32767) → ¬ b.Pairwise (· < ·) →
            exec (.zoneMap (frame p)) s = .next (clocked (frame p) s (replied 64 .badOrder [] s)))
          ∧ ((∀ x ∈ b, 1 ≤ x ∧ x ≤ 32767) → b.Pairwise (· < ·) → s.sgq.queue ≠ [] →
            exec (.zoneMap (frame p)) s = .next (clocked (frame p) s (replied 64 .inUse [] s)))
          ∧ ((∀ x ∈ b, 1 ≤ x ∧ x ≤ 32767) → b.Pairwise (· < ·) → s.sgq.queue = [] →
            exec (.zoneMap (frame p)) s
              = .next (clocked (frame p) s (replied 64 .ok [] { s with pkp := { s.pkp with zoneMap := b } }))))
      ∧ (s.cpt.port = .idle → ∀ (p : List Byte) (i : WobbleInterval), p.length = 17 → u8 p 0 = i.toNat →
        let ws : List Window := [⟨u16 p 1, u16 p 3⟩, ⟨u16 p 5, u16 p 7⟩, ⟨u16 p 9, u16 p 11⟩, ⟨u16 p 13, u16 p 15⟩]
        (∀ w ∈ ws, w.lo ≤ w.hi ∧ w.hi ≤ 65534) → ws.Pairwise (fun a b => a.hi < b.lo ∨ b.hi < a.lo) →
        exec (.speedMap (frame p)) s = .next (clocked (frame p) s (replied 65 .ok []
          { s with
            pkp := { s.pkp with interval := i, windows := ws, measurement := none, wobCount := 0, wobMarks := 0 } })))
      ∧ (s.cpt.port = .idle → ∀ (p : List Byte) (st : Status), p.length = 17 →
        let ws : List Window := [⟨u16 p 1, u16 p 3⟩, ⟨u16 p 5, u16 p 7⟩, ⟨u16 p 9, u16 p 11⟩, ⟨u16 p 13, u16 p 15⟩]
        firstRefusal
            [(decide (u8 p 0 ≤ 3), .badField), (ws.all fun w => decide (w.lo ≤ 65534 ∧ w.hi ≤ 65534), .badField),
              (ws.all fun w => decide (w.lo ≤ w.hi), .badOrder),
              (decide (ws.Pairwise fun a b => a.hi < b.lo ∨ b.hi < a.lo), .badOrder)] = some st →
          exec (.speedMap (frame p)) s = .next (refused 65 st (frame p) s))
      ∧ exec .wobPulse s = .next { s with pkp := { s.pkp with wobCount := if s.pkp.wobCount < 65535 then s.pkp.wobCount + 1 else 65535 } }
      ∧ (let marks := match s.pkp.interval with
          | .half => 1
          | .one => 1
          | .two => 2
          | .four => 4
        let half := s.pkp.interval = .half ∧ s.pkp.halfPassed = false
        let u : State :=
          { s with pkp :=
              { s.pkp with
                measurement := some s.pkp.wobCount, wobCount := 0
                wobMarks := s.pkp.wobMarks - if marks ≤ s.pkp.wobMarks then marks else 0
                halfPassed := s.pkp.halfPassed || decide (s.pkp.wobMarks < marks) } }
        (marks ≤ s.pkp.wobMarks ∨ half →
            exec .measurementCompletion s = .next (settleCodes s (judgeAgain u))
              ∧ (s.sgq.queue.head?.all (fun e => decide (e.state ≠ .arming)) = true → exec .measurementCompletion s = .next u))
          ∧ (s.pkp.wobMarks < marks → ¬ half → exec .measurementCompletion s = .next s))

/-- FOK and FLAY by the focus layer state, a loss by the head it meets, and the jump timer's retry and failure (R88, R119 to R121).  That the
requester is forgotten when its jump ends is the model's reading (log entry 17), and that the timer has run out when 0 ticks are left its
form (log entry 7). -/
def Obligations.FocusAndJumps : Prop :=
  ∀ s : State,
    (∀ l : Nat,
        let o : State := { s with lines := { s.lines with fok := true, flay := l } }
        (s.pkp.focus = .unknown →
            exec (.fokRise l) s = .next (settleCodes s (judgeAgain { o with pkp := { s.pkp with focus := .steady l } })))
          ∧ (∀ t a, s.pkp.focus = .jumping t a → l ≠ t → exec (.fokRise l) s = .next o)
          ∧ (∀ a, s.pkp.focus = .jumping l a →
            exec (.fokRise l) s = .next (settleCodes s (judgeAgain
              { o with pkp := { s.pkp with focus := .steady l, jumpTimer := none }, sgq := { s.sgq with requester := none } }))))
      ∧ ((∀ l, s.pkp.focus ≠ .steady l) →
        exec .fokFall s = .next { s with lines := { s.lines with fok := false } }
          ∧ ∀ f, exec (.flayChange f) s = .next { s with lines := { s.lines with flay := f } })
      ∧ (∀ f, (s.pkp.focus = .steady f ∨ s.lines.fok = false) →
        exec (.flayChange f) s = .next { s with lines := { s.lines with flay := f } })
      ∧ (Safety.WriteGuarded s → Safety.PinsAgree s → ∀ (l : Nat) (c : Instr) (lines : Lines), s.pkp.focus = .steady l →
        (c = .fokFall ∧ lines = { s.lines with fok := false }
          ∨ ∃ f, c = .flayChange f ∧ f ≠ l ∧ s.lines.fok = true ∧ lines = { s.lines with flay := f }) →
        let u : State :=
          { s with lines, pkp := { s.pkp with focus := .unknown },
                   cpt := { s.cpt with notices := { s.cpt.notices with focusLost := true } } }
        (s.sgq.queue.head?.all (fun e => decide (e.state ≠ .active ∧ e.state ≠ .armed ∧ e.state ≠ .arming)) = true →
            exec c s = .next u)
          ∧ (∀ e ∈ s.sgq.queue.head?, e.state = .arming →
            exec c s = .next (if s.lsc.laser = .read then jumpRequested e u else u))
          ∧ (∀ e ∈ s.sgq.queue.head?, e.state = .active ∨ e.state = .armed → ∃ t, exec c s = .next t
            ∧ (∀ x ∈ t.sgq.queue, x.tag ≠ e.tag)
            ∧ (s.flk.out.length < 32 → t.flk.out[s.flk.out.length]? = some (doneBytes e.tag e.cls .focusLost e.warnings))
            ∧ t.cpt.notices.focusLost = true ∧ PartlyWritten s t
            ∧ t.lsc = (if s.lsc.laser = .write then { s.lsc with laser := .read } else s.lsc)
            ∧ t.wgd = (if s.lsc.laser = .write then { s.wgd with keepalive := none } else s.wgd)))
      ∧ (∀ t, s.pkp.jumpTimer = some 0 →
        (∀ a, s.pkp.focus = .jumping t (a + 1) → exec .jumpTimerExpiry s = .next
            { s with pkp :=
                { s.pkp with focus := .jumping t a, jumpTimer := some s.cpt.settings.jumpTimeout, fjStrobe := true } })
          ∧ (s.pkp.focus = .jumping t 0 →
            let u : State := { s with pkp := { s.pkp with focus := .unknown, jumpTimer := none }
                                      sgq := { s.sgq with requester := none } }
            (∀ (e : Entry) (rest : List Entry), s.sgq.queue = e :: rest → e.state = .arming → s.sgq.requester = some e.tag →
                exec .jumpTimerExpiry s = .next (settleCodes s (goOn (finishEntry .jumpFail e (release e u)))))
              ∧ (s.sgq.queue.head?.all (fun e => decide (e.state ≠ .arming ∨ s.sgq.requester ≠ some e.tag)) = true →
                exec .jumpTimerExpiry s = .next (settleCodes s (judgeAgain u)))))

/-! ### Pulse trains -/

/-- The boundaries of CCLK, taken one after the other.  In a write: each T read lengthens the run of WDATA or begins the next one; a mark's
first T brings up its start and the midpoint and end of a space of 5T or more before it; the end of a mark of 1T reports SHORT_MARK, of 2T to
8T its train, with the pulses of R129, the merges of R132, the tail rules of R133, its cool gap and its samples; the ninth T of a longer mark
reports LONG_MARK and gives the pulses known by then, each further T one more and its end the last; a mark under way at the opening gives
nothing (R126, R128 to R134, R136 to R138, R140, R141).  The model's choices: a boundary that has not come while an output stands before it,
and a long mark built as its T's come (log entry 12); a gap of 0 at the tail is a merge (log entry 13); the lists of positions to come (log
entry 14); the tail is that of the last train built (log entry 16); a midpoint read inside a space of more than 18T does not come up again
(log entry 15). -/
def Obligations.MarksBecomeTrains : Prop :=
  (∀ (w : Bool) (s : State), exec (.markRead w 0) s = .next s
    ∧ ∀ (n : Nat) (t : State), exec (.markRead w 1) s = .next t → exec (.markRead w (n + 1)) s = exec (.markRead w n) t)
  ∧ (∀ (s : State) (w : Bool), s.lsc.laser ≠ .write ∨ s.sgq.activeWrite = none →
      exec (.markRead w 1) s = .next { s with pgn := { s.pgn with run := { mark := w, len := 0, own := false } } })
  ∧ ∀ (s : State) (e : Entry) (wc : WorkingCopy) (rest : List Entry), writing s e wc rest →
    let i := s.pgn.read
    ((∃ p ∈ upcoming s.pgn, p < 32 * ((i : Int) - 9)) → ∀ w, exec (.markRead w 1) s = .next s)
      ∧ ((∀ p ∈ upcoming s.pgn, 32 * ((i : Int) - 9) ≤ p) →
        let run := s.pgn.run
        let st := wc.strat
        let longer : Pgn := { s.pgn with read := i + 1, run := { run with len := run.len + 1 } }
        let spaceBegun : Pgn := { s.pgn with read := i + 1, run := { mark := false, len := 1, own := true } }
        let ended : Pgn := { spaceBegun with lastEnd := some i }
        let takes := fun (w shape : Bool) (k : Nat) (g : Pgn) => exec (.markRead w 1) s = .next (tookT e wc rest shape k g s)
        -- a mark begins
        (run.mark = false →
            let begun : Pgn :=
              { s.pgn with
                read := i + 1, run := { mark := true, len := 1, own := true }, starts := s.pgn.starts ++ [32 * (i : Int)], early := none }
            (∀ last, s.pgn.lastEnd = some last → last + 5 ≤ i →
                let mid := 32 * (i : Int) - 16 * ((i : Int) - last)
                let readBefore := ∃ r, s.pgn.early = some r ∧ 32 * ((r : Int) - 10) ≤ mid ∧ mid < 32 * ((r : Int) - 9)
                (readBefore → exec (.markRead true 1) s = .next { s with pgn :=
                    { begun with spaces := s.pgn.spaces ++ [32 * (i : Int)] } })
                  ∧ (¬ readBefore → exec (.markRead true 1) s = .next { s with pgn :=
                    { begun with mids := s.pgn.mids ++ [mid], spaces := s.pgn.spaces ++ [32 * (i : Int)] } }))
              ∧ ((∀ last ∈ s.pgn.lastEnd, i < last + 5) → exec (.markRead true 1) s = .next { s with pgn := begun }))
        -- a run goes on, or a mark that is not written ends
          ∧ (run.mark = false → exec (.markRead false 1) s = .next { s with pgn := longer })
          ∧ (run.mark = true → run.own = false ∨ run.len < 8 → exec (.markRead true 1) s = .next { s with pgn := longer })
          ∧ (run.mark = true → run.own = false → exec (.markRead false 1) s = .next { s with pgn := spaceBegun })
        -- a mark of 1T ends
          ∧ (run.mark = true → run.own = true → run.len = 1 →
            exec (.markRead false 1) s = .next (countEvent .shortMark (some wc.key) 1
              { queued ({ e with warnings := { e.warnings with shape := true } } :: rest) s with pgn := ended }))
          ∧ (run.mark = true → run.own = true → 2 ≤ run.len → Safety.strategyInRange st = true →
            let n := run.len
            let start : Int := 32 * ((i : Int) - n)
            let cool := coolOf st n
            let held := decide (adjusted st n ≠ (leadOf st n, cool))
            let first := firstPulse st start n
            let sampled := fun g : Pgn =>
              { g with peaks := if 32 ≤ st.tf then g.peaks ++ [start + leadOf st n + ((st.tf + 1) / 2 : Nat)] else g.peaks }
            let returned := fun g : Pgn =>
              { g with returns := if 6 ≤ n then g.returns ++ [start + 32 * ((n : Int) - 1)] else g.returns }
        -- a mark of 2T to 8T ends
            (n ≤ 8 →
                let more := if n = 2 then [] else middlePulses st start (n - 3) ++ [lastPulse st start n]
                let fall := if n = 2 then first.2 else (lastPulse st start n).2
                let placed := addTrain s.pgn first.1 (outline first.1 first.2 more)
                takes false held (merges first.2 more + placed.2) (returned (sampled
                  { ended with edges := withCool placed.1 fall cool, tail := some { fall, gapEnd := fall + cool } })))
        -- a mark's ninth T, a later T, and the end of a mark of 9T or more
              ∧ (n = 8 →
                let opening := firstPulse st start 9
                let more := middlePulses st start 6
                let placed := addTrain s.pgn opening.1 (outline opening.1 opening.2 more)
                exec (.markRead true 1) s = .next (countEvent .longMark (some wc.key) 1
                  (tookT e wc rest true (merges opening.2 more + placed.2)
                    { longer with
                      edges := placed.1
                      peaks := if 32 ≤ st.tf then s.pgn.peaks ++ [start + leadOf st 9 + ((st.tf + 1) / 2 : Nat)]
                        else s.pgn.peaks } s)))
              ∧ (∀ (front : List Edge) (last : Edge), 9 ≤ n → s.pgn.edges = front ++ [last] →
                (let p := (start + 32 * ((n : Int) - 1), start + 32 * ((n : Int) - 1) + (st.tm : Int));
                  (∀ x ∈ front.getLast?, x.pos < p.2) →
                    takes true false (addPulseTo front last p).2 { longer with edges := (addPulseTo front last p).1 })
                  ∧ (let p := lastPulse st start n;
                    (∀ x ∈ front.getLast?, x.pos < p.2) →
                      takes false false (addPulseTo front last p).2 (returned
                        { ended with
                          edges := withCool (addPulseTo front last p).1 p.2 cool
                          tail := some { fall := p.2, gapEnd := p.2 + cool } })))))
        -- the first train of a write: its edges ascend from the first rise to the cool-gap end
      ∧ (∀ t, exec (.markRead false 1) s = .next t → (∀ p ∈ upcoming s.pgn, 32 * ((i : Int) - 9) ≤ p) → s.pgn.run.mark = true →
        s.pgn.run.own = true → 2 ≤ s.pgn.run.len → s.pgn.run.len ≤ 8 → Safety.strategyInRange wc.strat = true → s.pgn.edges = [] →
        s.pgn.tail = none →
        let n := s.pgn.run.len
        let start : Int := 32 * ((i : Int) - n)
        let fall := start + if n = 2 then leadOf wc.strat n + wc.strat.tf else 32 * ((n : Int) - 1) + wc.strat.tl
        t.pgn.edges.Pairwise (·.pos < ·.pos)
          ∧ t.pgn.edges.head? = some { pos := start + leadOf wc.strat n, level := .peak }
          ∧ t.pgn.edges.getLast? = some { pos := fall + coolOf wc.strat n, level := .space }
          ∧ t.pgn.tail = some { fall, gapEnd := fall + coolOf wc.strat n })

/-- The output timeline: a waiting code set is presented at the start of a mark, the level follows the edge list, and the reading at the
midpoint of a space is held with the SPACE code in force, each when the output has come to its position; before it, or with nothing to come,
nothing happens, and outside a write no sample is taken (R126, R129, R136, R139, R140, R163).  That a command before its position changes
nothing is the model's choice (log entry 14), so is a midpoint read inside a space longer than 18T before the mark that ends it is read (log entry
15); a sample is taken in HOLD only where a supply trip has left one, which is a free value of the model (log entry 29). -/
def Obligations.OutputTimeline : Prop :=
  ∀ s : State,
    (∀ (p : Int) (later : List Int), s.pgn.starts = p :: later → outputAt s.pgn p → exec .markStart s = .next
        { s with pgn :=
            { s.pgn with
              starts := later, waiting := none
              presented := match s.pgn.waiting with
                | some c => c
                | none => s.pgn.presented } })
      ∧ ((∀ p ∈ s.pgn.starts.head?, ¬ outputAt s.pgn p) → exec .markStart s = .next s)
      ∧ (∀ (e : Edge) (later : List Edge), s.pgn.edges = e :: later → outputAt s.pgn e.pos →
        exec .outputLevelChange s = .next { s with pgn := { s.pgn with edges := later, level := e.level } })
      ∧ ((∀ e ∈ s.pgn.edges.head?, ¬ outputAt s.pgn e.pos) → exec .outputLevelChange s = .next s)
      ∧ (∀ (m : Nat) (p : Int) (later : List Int), s.pgn.mids = p :: later → outputAt s.pgn p →
        exec (.spaceMidpointReading m) s = .next
          { s with pgn := { s.pgn with mids := later, held := some { reading := m, code := s.pgn.presented.space } } })
      ∧ (∀ m, s.pgn.mids ≠ [] → (∀ p ∈ s.pgn.mids.head?, ¬ outputAt s.pgn p) → exec (.spaceMidpointReading m) s = .next s)
      ∧ (let inLongSpace := s.lsc.laser = .write ∧ s.pgn.run.mark = false ∧ (∃ e, s.pgn.lastEnd = some e ∧ e + 18 < s.pgn.read)
          ∧ ∀ q ∈ upcoming s.pgn, 32 * ((s.pgn.read : Int) - 9) ≤ q;
        s.pgn.mids = [] → ∀ m,
          (inLongSpace → exec (.spaceMidpointReading m) s = .next
              { s with pgn :=
                { s.pgn with held := some { reading := m, code := s.pgn.presented.space }, early := some s.pgn.read } })
            ∧ (¬ inLongSpace → exec (.spaceMidpointReading m) s = .next s))
      ∧ (s.lsc.laser ≠ .write → ∀ m, exec (.returnSample m) s = .next s
        ∧ (s.lsc.laser ≠ .hold ∨ s.lsc.offered = none → exec .spaceSample s = .next s ∧ exec (.peakSample m) s = .next s))

/-! ### Power loop -/

/-- DIODE_SET and LIMITS_SET with their checks in order, and a temperature sample held within its range; each accepted change recomputes
the codes, a sample is due at every sixteenth ms tick from the last reset, and none comes before it (R144, R145, R146, R155; log entry 7). -/
def Obligations.PowerRequestsAndTemperature : Prop :=
  ∀ s : State,
    (s.cpt.port = .idle → ∀ p : List Byte, p.length = 11 →
        let d : Diode :=
          { ithRef := u16 p 0, sRef := u16 p 2, tRef := s16 p 4, kI := s16 p 6, kS := s16 p 8, defaultRead := u8 p 10 }
        let fits := d.ithRef ≤ 2047 ∧ (64 ≤ d.sRef ∧ d.sRef ≤ 8191) ∧ (-160 ≤ d.tRef ∧ d.tRef ≤ 400)
          ∧ (-64 ≤ d.kI ∧ d.kI ≤ 255) ∧ (-512 ≤ d.kS ∧ d.kS ≤ 511) ∧ 4 ≤ d.defaultRead ∧ d.defaultRead ≤ 60
        (s.lsc.laser = .write → exec (.diodeSet (frame p)) s = .next (clocked (frame p) s (replied 48 .state [] s)))
          ∧ (s.lsc.laser ≠ .write → ¬ fits →
            exec (.diodeSet (frame p)) s = .next (clocked (frame p) s (replied 48 .badField [] s)))
          ∧ (s.lsc.laser ≠ .write → fits →
            exec (.diodeSet (frame p)) s = .next (clocked (frame p) s (replied 48 .ok []
              (recompute false { s with plp := { s.plp with diode := d, diodeValid := true } })))))
      ∧ (s.cpt.port = .idle → ∀ p : List Byte, p.length = 4 →
        let fits := (1 ≤ u16 p 0 ∧ u16 p 0 ≤ 1200) ∧ 1 ≤ u16 p 2 ∧ u16 p 2 ≤ 4095
        (s.plp.limits ≠ none → exec (.limitsSet (frame p)) s = .next (clocked (frame p) s (replied 50 .locked [] s)))
          ∧ (s.plp.limits = none → ¬ fits →
            exec (.limitsSet (frame p)) s = .next (clocked (frame p) s (replied 50 .badField [] s)))
          ∧ (s.plp.limits = none → fits →
            exec (.limitsSet (frame p)) s = .next (clocked (frame p) s (replied 50 .ok []
              (recompute false
                { s with plp := { s.plp with limits := some { pd := u16 p 0, imax := u16 p 2 } } })))))
      ∧ (16 ≤ s.plp.tempTicks → ∀ reading : Int,
        let t := max (-160) (min 400 reading)
        let u : State :=
          { s with
            plp := { s.plp with sample := some t, tempTicks := s.plp.tempTicks - 16 }
            cpt := { s.cpt with notices :=
              { s.cpt.notices with tempRange := s.cpt.notices.tempRange || decide (reading < -160 ∨ 400 < reading) } } }
        exec (.temperatureSample reading) s
          = .next (if t = s.plp.sample.getD s.plp.diode.tRef then u else recompute false u))
      ∧ (s.plp.tempTicks < 16 → ∀ reading : Int, exec (.temperatureSample reading) s = .next s)

/-- Space, peak and return samples at or below the trip level: how they accumulate, when a tracking completion is skipped or updates the
diode record, and the correction update at the sixteenth return sample; each sample is taken when the output has come to it, in the order of
positions, and not before (R136 to R140, R156 to R162; the positions are the model's form, log entries 12 and 14). -/
def Obligations.SamplesAccumulateAndUpdate : Prop :=
  ∀ (s : State) (e : Entry) (wc : WorkingCopy) (rest : List Entry) (c : Captured), writing s e wc rest → e.captured = some c →
    let trip := c.ceiling + s.cpt.settings.tripMargin
    let a := s.plp.track
    let tracked := fun (g : Pgn) (a : TrackAcc) => ({ s with pgn := g, plp := { s.plp with track := a } } : State)
    (∀ (p : Int) (later : List Int) (h : HeldReading), s.pgn.spaces = p :: later → s.pgn.held = some h → outputAt s.pgn p →
        h.reading ≤ trip →
        let g := { s.pgn with spaces := later, held := none }
        exec .spaceSample s = .next (tracked g
          (if a.ib ≠ none ∧ a.ib ≠ some h.code then
              { spaceSum := h.reading, spaceCount := 1, peakSum := 0, peakCount := 0, ib := some h.code, ip := none }
            else if a.ib = some h.code ∧ a.spaceCount = 32 then a
            else { a with spaceSum := a.spaceSum + h.reading, spaceCount := a.spaceCount + 1, ib := some h.code })))
      ∧ (∀ (p : Int) (later : List Int) (m : Nat), s.pgn.peaks = p :: later → peakDue s.pgn p → m ≤ trip →
        let g := { s.pgn with peaks := later }
        let code := s.pgn.presented.peak
        let same := a.ip = none ∨ a.ip = some code
        (¬ same → exec (.peakSample m) s = .next (tracked g
            { spaceSum := 0, spaceCount := 0, peakSum := m, peakCount := 1, ib := none, ip := some code }))
          ∧ (same → a.peakCount < 31 → exec (.peakSample m) s = .next (tracked g
            { a with peakSum := a.peakSum + m, peakCount := a.peakCount + 1, ip := some code }))
          ∧ (same → a.peakCount = 31 →
            let mb := rnd a.spaceSum a.spaceCount
            let mp := rnd ((a.peakSum : Int) + m) 32
            let skipped := a.spaceCount = 0 ∨ a.ib.getD 0 = 0 ∨ code ≤ a.ib.getD 0 ∨ mp - mb < 8
            (skipped → exec (.peakSample m) s = .next (countEvent .trackSkip (some wc.key) 1 (tracked g TrackAcc.empty)))
              ∧ (¬ skipped →
                let ib := a.ib.getD 0
                let line := diodeLine s.plp.diode (s.plp.sample.getD s.plp.diode.tRef)
                let sMeas := rnd (256 * ((code : Int) - ib)) (mp - mb).toNat
                let ithMeas := (ib : Int) - rnd (mb * sMeas) 256
                let sNew := (s.plp.diode.sRef : Int) + rnd (sMeas - line.slope) 8
                let ithNew := (s.plp.diode.ithRef : Int) + rnd (ithMeas - line.ith) 8
                let d : Diode :=
                  { s.plp.diode with
                    sRef := (max 64 (min 8191 sNew)).toNat, ithRef := (max 0 (min 2047 ithNew)).toNat }
                let limited := sNew < 64 ∨ 8191 < sNew ∨ ithNew < 0 ∨ 2047 < ithNew ∨ line.held = true
                let u : State :=
                  { tracked g TrackAcc.empty with
                    plp := { s.plp with diode := d, track := TrackAcc.empty }
                    cpt := { s.cpt with notices :=
                      { s.cpt.notices with diodeTrackLimit := s.cpt.notices.diodeTrackLimit || decide limited } } }
                exec (.peakSample m) s = .next (if d = s.plp.diode then u else recompute false u))))
      ∧ (∀ (p : Int) (later : List Int) (m : Nat), s.pgn.returns = p :: later → outputAt s.pgn p →
        let g := { s.pgn with returns := later }
        let sum := s.plp.returns.sum + m
        (s.plp.returns.count < 15 → exec (.returnSample m) s = .next
            { s with pgn := g, plp := { s.plp with returns := { sum, count := s.plp.returns.count + 1 } } })
          ∧ (s.plp.returns.count = 15 →
            let raw := wc.running + rnd (((wc.strat.dt : Int) - rnd sum 16) * s.cpt.settings.gain) 16
            let new := max (-160) (min 160 raw)
            let limit := decide (raw ≤ -160 ∨ 160 ≤ raw)
            let u : State :=
              { queued ({ e with copy := .strategy { wc with running := new },
                                 warnings := { e.warnings with corrLimit := e.warnings.corrLimit || limit } } :: rest) s with
                pgn := g
                plp := { s.plp with returns := { sum := 0, count := 0 } } }
            let v := if limit then countEvent .corrLimit (some wc.key) 1 u else u
            exec (.returnSample m) s = .next (if new = wc.running then v else recompute false v)))
      ∧ ((∀ p ∈ s.pgn.spaces.head?, ¬ outputAt s.pgn p) → exec .spaceSample s = .next s)
      ∧ (∀ m, ((∀ p ∈ s.pgn.peaks.head?, ¬ peakDue s.pgn p) → exec (.peakSample m) s = .next s)
        ∧ ((∀ p ∈ s.pgn.returns.head?, ¬ outputAt s.pgn p) → exec (.returnSample m) s = .next s))

/-- The stages from a power to a current code, each with its value: rounding (R1), correction (R150), the diode line (R152), ceiling, current and
limit (R151, R153); no code above Imax, no lit level below the threshold, order kept from powers to codes and from COOL over SPACE to PEAK,
and no code at all where the laser is dark (R148, R154).  A computation hands its set over,
presented at once at a change of laser state or outside WRITE and waiting otherwise, and reports its clamped and overdriven levels; the end of
an event computes exactly when the laser state, the governing entry or the causes in HOLD changed (R140, R149, R151 to R153, R155).  That one
event computes once, from the state at its end, and that DIODE_TRACK_LIMIT is raised at every computation that holds the diode line, also in
the dark, are the model's readings (log entries 9 and 10). -/
def Obligations.CodesFollowTheStages : Prop :=
  (∀ (n : Int) (d : Nat), 0 < d → 2 * d * rnd n d ≤ 2 * n + d ∧ 2 * n + d < 2 * d * (rnd n d + 1))
  ∧ (∀ (d : Diode) (temp : Int),
    let line := diodeLine d temp
    let ith := d.ithRef + rnd (d.kI * (temp - d.tRef)) 64
    let slope := d.sRef + rnd (d.kS * (temp - d.tRef)) 64
    (line.ith : Int) = max 0 (min 2047 ith) ∧ (line.slope : Int) = max 64 (min 8191 slope)
      ∧ (line.held = true ↔ ith < 0 ∨ 2047 < ith ∨ slope < 64 ∨ 8191 < slope))
  ∧ (∀ (line : Line) (imax ceiling p q : Nat),
    let c := (levelCode line imax ceiling p).code
    let bounded := min p ceiling
    let current := line.ith + rnd ((bounded : Nat) * line.slope) 256
    (c : Int) = (if bounded = 0 then 0 else if current ≤ imax then current else if line.ith ≤ imax then (imax : Int) else 0)
      ∧ c ≤ imax ∧ (c ≠ 0 → line.ith ≤ c) ∧ (p ≤ q → c ≤ (levelCode line imax ceiling q).code)
      ∧ (levelCode line imax ceiling p).clamped = decide (ceiling < p)
      ∧ (levelCode line imax ceiling p).beyond
          = decide (min p ceiling ≠ 0 ∧ (imax : Int) < line.ith + rnd ((min p ceiling : Nat) * line.slope) 256))
  ∧ (∀ (p : Nat) (c : Int), -160 ≤ c → c ≤ 160 →
    (corrected p c : Int) = rnd (p * (1024 + c)) 1024 ∧ (1 ≤ corrected p c ↔ 1 ≤ p) ∧ ∀ q, p ≤ q → corrected p c ≤ corrected q c)
  ∧ (∀ s : State,
    let codes := s.computeCodes.codes
    (s.lsc.len = false → codes = CodeSet.zero)
      ∧ (s.lsc.laser ≠ .write → codes.space = 0 ∧ codes.peak = 0 ∧ codes.cool = 0)
      ∧ (Safety.RecordsInRange s → codes.cool ≤ codes.space ∧ codes.space ≤ codes.peak)
      ∧ Safety.codesWithin (Safety.codeBound s.plp.limits) codes = true
      ∧ ∀ lim, s.plp.limits = some lim →
        let line := diodeLine s.plp.diode (s.plp.sample.getD s.plp.diode.tRef)
        let target := (s.sgq.governing.bind (·.captured)).getD { ceiling := lim.pd, readPower := s.plp.diode.defaultRead }
        (s.lsc.len = true → codes.read = (levelCode line lim.imax (min target.ceiling lim.pd) target.readPower).code)
          ∧ ∀ e wc rest, writing s e wc rest →
            let lit := fun p => (levelCode line lim.imax (min target.ceiling lim.pd) (corrected p wc.running)).code
            codes.space = lit wc.strat.ps ∧ codes.peak = lit wc.strat.pp ∧ codes.cool = lit wc.strat.pc)
  ∧ (∀ (changed : Bool) (s : State), (∀ c ∈ s.act, c.value < 4294967296) →
    let c := s.computeCodes
    let levels := [c.read, c.space, c.peak, c.cool]
    let key := match s.sgq.governing with
      | some e => if e.kind = .read then none else some (s.entryKey e)
      | none => none
    let t := recompute changed s
    t.pgn = (if changed = true ∨ s.lsc.laser ≠ .write then { s.pgn with presented := c.codes, waiting := none }
        else { s.pgn with waiting := some c.codes })
      ∧ (∀ e rest, s.sgq.queue = e :: rest → e.state = .armed ∨ e.state = .active ∨ e.state = .closing →
        t.sgq.queue = { e with warnings :=
          { e.warnings with
            clamped := e.warnings.clamped || levels.any (·.clamped)
            overdrive := e.warnings.overdrive || levels.any (·.beyond) } } :: rest)
      ∧ (s.sgq.governing = none → t.sgq.queue = s.sgq.queue)
      ∧ t.act = s.act.map (fun x =>
          Counter.add .overdrive key (levels.countP (·.beyond)) (Counter.add .clampCeiling key (levels.countP (·.clamped)) x))
      ∧ t.cpt.notices.overdrive = (s.cpt.notices.overdrive || levels.any (·.beyond))
      ∧ t.cpt.notices.diodeTrackLimit
          = (s.cpt.notices.diodeTrackLimit || (diodeLine s.plp.diode (s.plp.sample.getD s.plp.diode.tRef)).held)
      ∧ t = { s with
              sgq := { s.sgq with queue := t.sgq.queue }, pgn := t.pgn, act := t.act
              cpt := { s.cpt with notices :=
                { s.cpt.notices with
                  overdrive := t.cpt.notices.overdrive, diodeTrackLimit := t.cpt.notices.diodeTrackLimit
                  counterWrap := t.cpt.notices.counterWrap } } })
  ∧ ∀ s t : State,
    let due := s.lsc.laser ≠ t.lsc.laser ∨ s.sgq.governing.map (·.pos) ≠ t.sgq.governing.map (·.pos)
      ∨ t.lsc.laser = .hold ∧ s.lsc.causes ≠ t.lsc.causes
    (due → settleCodes s t = recompute (decide (s.lsc.laser ≠ t.lsc.laser)) t) ∧ (¬ due → settleCodes s t = t)

/-! ### Laser -/

/-- LASER_ON, LASER_OFF, HOLD_CLEAR and SUPPLY_ACK by the laser state, the causes and the supply lines (R168, R170, R175, R176,
R182). -/
def Obligations.LaserRequests : Prop :=
  ∀ s : State, s.cpt.port = .idle →
    let body := frame []
    let settling : Lsc :=
      { laser := .settling, causes := HoldCauses.empty, settle := some s.cpt.settings.settleTime, ret := none }
    let answers := fun (c : Instr) (code : Byte) (st : Status) => exec c s = .next (clocked body s (replied code st [] s))
    let moves := fun (c : Instr) (code : Byte) (l : Lsc) =>
      exec c s = .next (clocked body s (replied code .ok [] (recompute true { s with lsc := l })))
    ((s.lsc.laser ≠ .off ∨ s.lsc.causes ≠ HoldCauses.empty → answers (.laserOn body) 80 .state)
        ∧ (s.lsc.laser = .off → s.lsc.causes = HoldCauses.empty →
          (s.plp.limits = none → answers (.laserOn body) 80 .noLimits)
            ∧ (s.plp.limits ≠ none → s.plp.diodeValid = false → answers (.laserOn body) 80 .noDiode)
            ∧ (s.plp.limits ≠ none → s.plp.diodeValid = true → moves (.laserOn body) 80 settling)))
      ∧ ((s.lsc.laser = .off → answers (.laserOff body) 81 .ok)
        ∧ (s.lsc.laser = .write ∨ (s.lsc.laser = .settling ∨ s.lsc.laser = .read) ∧ s.sgq.queue ≠ [] →
          answers (.laserOff body) 81 .busy)
        ∧ (s.lsc.laser = .hold ∨ (s.lsc.laser = .settling ∨ s.lsc.laser = .read) ∧ s.sgq.queue = [] →
          moves (.laserOff body) 81 { laser := .off, causes := s.lsc.causes, settle := none, ret := none }))
      ∧ ((s.lsc.laser = .settling ∨ s.lsc.laser = .read ∨ s.lsc.laser = .write → answers (.holdClear body) 82 .state)
        ∧ (s.lsc.laser = .hold → s.lines.ldtrip = true → answers (.holdClear body) 82 .state)
        ∧ (s.lsc.laser = .hold → s.lines.ldtrip = false → s.lsc.ret = some .lit → moves (.holdClear body) 82 settling)
        ∧ (s.lsc.laser = .hold → s.lines.ldtrip = false → s.lsc.ret = some .dark →
          moves (.holdClear body) 82 { laser := .off, causes := HoldCauses.empty, settle := none, ret := none })
        ∧ (s.lsc.laser = .off → s.lsc.causes = HoldCauses.empty → answers (.holdClear body) 82 .ok)
        ∧ (s.lsc.laser = .off → s.lsc.causes ≠ HoldCauses.empty → s.lines.ldtrip = true → answers (.holdClear body) 82 .state)
        ∧ (s.lsc.laser = .off → s.lsc.causes ≠ HoldCauses.empty → s.lines.ldtrip = false →
          exec (.holdClear body) s = .next (clocked body s (replied 82 .ok []
            { s with lsc := { s.lsc with causes := HoldCauses.empty } }))))
      ∧ (s.lines.ldwarn = true → answers (.supplyAck body) 83 .state)
      ∧ (s.lines.ldwarn = false → exec (.supplyAck body) s
          = .next (clocked body s (replied 83 .ok [] { s with wgd := { s.wgd with supplyWarn := false } })))

/-- The settle timer's end brings READ and judges a waiting head, an accepted KEEP strobe restarts the keepalive period and is ignored
outside WRITE, and the supply lines set and leave the warning flag and the trip level as they say (R169, R179, R181, R184).  That the settle timer
has run out when 0 ticks are left is the model's form (log entry 7); that the settle timer's end, which changes the laser state and may arm the head
or end it in the same event, computes the codes once, from the state at its end, is the model's reading (log entry 9). -/
def Obligations.LaserTimersAndSupplyLines : Prop :=
  ∀ s : State,
    (s.lsc.laser = .settling → s.lsc.settle = some 0 →
        exec .settleExpiry s = .next (recompute true (judgeAgain { s with lsc := { s.lsc with laser := .read, settle := none } })))
      ∧ (∀ k, s.lsc.laser = .write → s.wgd.keepalive = some k →
        ¬ (s.cpt.settings.windowMode = true ∧ k.count < k.k / 4) →
        exec .keepStrobe s
          = .next { s with wgd := { s.wgd with keepalive := some { count := 0, k := s.cpt.settings.keepPeriod } } })
      ∧ (s.lsc.laser ≠ .write → exec .keepStrobe s = .next s)
      ∧ exec .ldwarnAssert s = .next
          { s with lines := { s.lines with ldwarn := true }, wgd := { s.wgd with supplyWarn := true }
                   cpt := { s.cpt with notices := { s.cpt.notices with supplyWarn := true } } }
      ∧ exec .ldwarnDeassert s = .next { s with lines := { s.lines with ldwarn := false } }
      ∧ exec .ldtripDeassert s = .next { s with lines := { s.lines with ldtrip := false } }

end
end

