-- ==== Sys2Proof/Laws/State.lean ====
section
/-! SUPPORT. One lemma for each field that a state update leaves as it was, and one for what it writes; all are true by `rfl`. -/

namespace Sys2Proof.Machine

@[simp] theorem withNotices_stb (s : State) (f : Notices → Notices) : (s.withNotices f).stb = s.stb := rfl
@[simp] theorem withNotices_mst (s : State) (f : Notices → Notices) : (s.withNotices f).mst = s.mst := rfl
@[simp] theorem withNotices_rse (s : State) (f : Notices → Notices) : (s.withNotices f).rse = s.rse := rfl
@[simp] theorem withNotices_sgq (s : State) (f : Notices → Notices) : (s.withNotices f).sgq = s.sgq := rfl
@[simp] theorem withNotices_flk (s : State) (f : Notices → Notices) : (s.withNotices f).flk = s.flk := rfl
@[simp] theorem withNotices_pkp (s : State) (f : Notices → Notices) : (s.withNotices f).pkp = s.pkp := rfl
@[simp] theorem withNotices_pgn (s : State) (f : Notices → Notices) : (s.withNotices f).pgn = s.pgn := rfl
@[simp] theorem withNotices_plp (s : State) (f : Notices → Notices) : (s.withNotices f).plp = s.plp := rfl
@[simp] theorem withNotices_lsc (s : State) (f : Notices → Notices) : (s.withNotices f).lsc = s.lsc := rfl
@[simp] theorem withNotices_wgd (s : State) (f : Notices → Notices) : (s.withNotices f).wgd = s.wgd := rfl
@[simp] theorem withNotices_act (s : State) (f : Notices → Notices) : (s.withNotices f).act = s.act := rfl
@[simp] theorem withNotices_lines (s : State) (f : Notices → Notices) : (s.withNotices f).lines = s.lines := rfl
@[simp] theorem withNotices_pending (s : State) (f : Notices → Notices) : (s.withNotices f).pending = s.pending := rfl
@[simp] theorem withNotices_port (s : State) (f : Notices → Notices) : (s.withNotices f).cpt.port = s.cpt.port := rfl
@[simp] theorem withNotices_busyReply (s : State) (f : Notices → Notices) : (s.withNotices f).cpt.busyReply = s.cpt.busyReply := rfl
@[simp] theorem withNotices_reading (s : State) (f : Notices → Notices) : (s.withNotices f).cpt.reading = s.cpt.reading := rfl
@[simp] theorem withNotices_writing (s : State) (f : Notices → Notices) : (s.withNotices f).cpt.writing = s.cpt.writing := rfl
@[simp] theorem withNotices_spiOut (s : State) (f : Notices → Notices) : (s.withNotices f).cpt.spiOut = s.cpt.spiOut := rfl
@[simp] theorem withNotices_settings (s : State) (f : Notices → Notices) : (s.withNotices f).cpt.settings = s.cpt.settings := rfl
@[simp] theorem withNotices_lastReset (s : State) (f : Notices → Notices) : (s.withNotices f).cpt.lastReset = s.cpt.lastReset := rfl

@[simp] theorem withPlace_mst (s : State) (i : Nat) (f : Place → Place) : (s.withPlace i f).mst = s.mst := rfl
@[simp] theorem withPlace_rse (s : State) (i : Nat) (f : Place → Place) : (s.withPlace i f).rse = s.rse := rfl
@[simp] theorem withPlace_sgq (s : State) (i : Nat) (f : Place → Place) : (s.withPlace i f).sgq = s.sgq := rfl
@[simp] theorem withPlace_flk (s : State) (i : Nat) (f : Place → Place) : (s.withPlace i f).flk = s.flk := rfl
@[simp] theorem withPlace_pkp (s : State) (i : Nat) (f : Place → Place) : (s.withPlace i f).pkp = s.pkp := rfl
@[simp] theorem withPlace_pgn (s : State) (i : Nat) (f : Place → Place) : (s.withPlace i f).pgn = s.pgn := rfl
@[simp] theorem withPlace_plp (s : State) (i : Nat) (f : Place → Place) : (s.withPlace i f).plp = s.plp := rfl
@[simp] theorem withPlace_lsc (s : State) (i : Nat) (f : Place → Place) : (s.withPlace i f).lsc = s.lsc := rfl
@[simp] theorem withPlace_wgd (s : State) (i : Nat) (f : Place → Place) : (s.withPlace i f).wgd = s.wgd := rfl
@[simp] theorem withPlace_cpt (s : State) (i : Nat) (f : Place → Place) : (s.withPlace i f).cpt = s.cpt := rfl
@[simp] theorem withPlace_act (s : State) (i : Nat) (f : Place → Place) : (s.withPlace i f).act = s.act := rfl
@[simp] theorem withPlace_lines (s : State) (i : Nat) (f : Place → Place) : (s.withPlace i f).lines = s.lines := rfl
@[simp] theorem withPlace_pending (s : State) (i : Nat) (f : Place → Place) : (s.withPlace i f).pending = s.pending := rfl

@[simp] theorem withSlot_stb (s : State) (i : Nat) (f : Slot → Slot) : (s.withSlot i f).stb = s.stb := rfl
@[simp] theorem withSlot_rse (s : State) (i : Nat) (f : Slot → Slot) : (s.withSlot i f).rse = s.rse := rfl
@[simp] theorem withSlot_sgq (s : State) (i : Nat) (f : Slot → Slot) : (s.withSlot i f).sgq = s.sgq := rfl
@[simp] theorem withSlot_flk (s : State) (i : Nat) (f : Slot → Slot) : (s.withSlot i f).flk = s.flk := rfl
@[simp] theorem withSlot_pkp (s : State) (i : Nat) (f : Slot → Slot) : (s.withSlot i f).pkp = s.pkp := rfl
@[simp] theorem withSlot_pgn (s : State) (i : Nat) (f : Slot → Slot) : (s.withSlot i f).pgn = s.pgn := rfl
@[simp] theorem withSlot_plp (s : State) (i : Nat) (f : Slot → Slot) : (s.withSlot i f).plp = s.plp := rfl
@[simp] theorem withSlot_lsc (s : State) (i : Nat) (f : Slot → Slot) : (s.withSlot i f).lsc = s.lsc := rfl
@[simp] theorem withSlot_wgd (s : State) (i : Nat) (f : Slot → Slot) : (s.withSlot i f).wgd = s.wgd := rfl
@[simp] theorem withSlot_cpt (s : State) (i : Nat) (f : Slot → Slot) : (s.withSlot i f).cpt = s.cpt := rfl
@[simp] theorem withSlot_act (s : State) (i : Nat) (f : Slot → Slot) : (s.withSlot i f).act = s.act := rfl
@[simp] theorem withSlot_lines (s : State) (i : Nat) (f : Slot → Slot) : (s.withSlot i f).lines = s.lines := rfl
@[simp] theorem withSlot_pending (s : State) (i : Nat) (f : Slot → Slot) : (s.withSlot i f).pending = s.pending := rfl

@[simp] theorem withRecord_mst (s : State) (i : Nat) (f : Record → Record) : (s.withRecord i f).mst = s.mst := rfl
@[simp] theorem withRecord_rse (s : State) (i : Nat) (f : Record → Record) : (s.withRecord i f).rse = s.rse := rfl
@[simp] theorem withRecord_sgq (s : State) (i : Nat) (f : Record → Record) : (s.withRecord i f).sgq = s.sgq := rfl
@[simp] theorem withRecord_flk (s : State) (i : Nat) (f : Record → Record) : (s.withRecord i f).flk = s.flk := rfl
@[simp] theorem withRecord_pkp (s : State) (i : Nat) (f : Record → Record) : (s.withRecord i f).pkp = s.pkp := rfl
@[simp] theorem withRecord_pgn (s : State) (i : Nat) (f : Record → Record) : (s.withRecord i f).pgn = s.pgn := rfl
@[simp] theorem withRecord_plp (s : State) (i : Nat) (f : Record → Record) : (s.withRecord i f).plp = s.plp := rfl
@[simp] theorem withRecord_lsc (s : State) (i : Nat) (f : Record → Record) : (s.withRecord i f).lsc = s.lsc := rfl
@[simp] theorem withRecord_wgd (s : State) (i : Nat) (f : Record → Record) : (s.withRecord i f).wgd = s.wgd := rfl
@[simp] theorem withRecord_cpt (s : State) (i : Nat) (f : Record → Record) : (s.withRecord i f).cpt = s.cpt := rfl
@[simp] theorem withRecord_act (s : State) (i : Nat) (f : Record → Record) : (s.withRecord i f).act = s.act := rfl
@[simp] theorem withRecord_lines (s : State) (i : Nat) (f : Record → Record) : (s.withRecord i f).lines = s.lines := rfl
@[simp] theorem withRecord_pending (s : State) (i : Nat) (f : Record → Record) : (s.withRecord i f).pending = s.pending := rfl

@[simp] theorem withEntry_stb (s : State) (p : Nat) (f : Entry → Entry) : (s.withEntry p f).stb = s.stb := rfl
@[simp] theorem withEntry_mst (s : State) (p : Nat) (f : Entry → Entry) : (s.withEntry p f).mst = s.mst := rfl
@[simp] theorem withEntry_rse (s : State) (p : Nat) (f : Entry → Entry) : (s.withEntry p f).rse = s.rse := rfl
@[simp] theorem withEntry_flk (s : State) (p : Nat) (f : Entry → Entry) : (s.withEntry p f).flk = s.flk := rfl
@[simp] theorem withEntry_pkp (s : State) (p : Nat) (f : Entry → Entry) : (s.withEntry p f).pkp = s.pkp := rfl
@[simp] theorem withEntry_pgn (s : State) (p : Nat) (f : Entry → Entry) : (s.withEntry p f).pgn = s.pgn := rfl
@[simp] theorem withEntry_plp (s : State) (p : Nat) (f : Entry → Entry) : (s.withEntry p f).plp = s.plp := rfl
@[simp] theorem withEntry_lsc (s : State) (p : Nat) (f : Entry → Entry) : (s.withEntry p f).lsc = s.lsc := rfl
@[simp] theorem withEntry_wgd (s : State) (p : Nat) (f : Entry → Entry) : (s.withEntry p f).wgd = s.wgd := rfl
@[simp] theorem withEntry_cpt (s : State) (p : Nat) (f : Entry → Entry) : (s.withEntry p f).cpt = s.cpt := rfl
@[simp] theorem withEntry_act (s : State) (p : Nat) (f : Entry → Entry) : (s.withEntry p f).act = s.act := rfl
@[simp] theorem withEntry_lines (s : State) (p : Nat) (f : Entry → Entry) : (s.withEntry p f).lines = s.lines := rfl
@[simp] theorem withEntry_pending (s : State) (p : Nat) (f : Entry → Entry) : (s.withEntry p f).pending = s.pending := rfl

@[simp] theorem withHead_stb (s : State) (f : Entry → Entry) : (s.withHead f).stb = s.stb := rfl
@[simp] theorem withHead_mst (s : State) (f : Entry → Entry) : (s.withHead f).mst = s.mst := rfl
@[simp] theorem withHead_rse (s : State) (f : Entry → Entry) : (s.withHead f).rse = s.rse := rfl
@[simp] theorem withHead_flk (s : State) (f : Entry → Entry) : (s.withHead f).flk = s.flk := rfl
@[simp] theorem withHead_pkp (s : State) (f : Entry → Entry) : (s.withHead f).pkp = s.pkp := rfl
@[simp] theorem withHead_pgn (s : State) (f : Entry → Entry) : (s.withHead f).pgn = s.pgn := rfl
@[simp] theorem withHead_plp (s : State) (f : Entry → Entry) : (s.withHead f).plp = s.plp := rfl
@[simp] theorem withHead_lsc (s : State) (f : Entry → Entry) : (s.withHead f).lsc = s.lsc := rfl
@[simp] theorem withHead_wgd (s : State) (f : Entry → Entry) : (s.withHead f).wgd = s.wgd := rfl
@[simp] theorem withHead_cpt (s : State) (f : Entry → Entry) : (s.withHead f).cpt = s.cpt := rfl
@[simp] theorem withHead_act (s : State) (f : Entry → Entry) : (s.withHead f).act = s.act := rfl
@[simp] theorem withHead_lines (s : State) (f : Entry → Entry) : (s.withHead f).lines = s.lines := rfl
@[simp] theorem withHead_pending (s : State) (f : Entry → Entry) : (s.withHead f).pending = s.pending := rfl

@[simp] theorem withRx_stb (s : State) (rx : List Byte) : (s.withRx rx).stb = s.stb := rfl
@[simp] theorem withRx_mst (s : State) (rx : List Byte) : (s.withRx rx).mst = s.mst := rfl
@[simp] theorem withRx_rse (s : State) (rx : List Byte) : (s.withRx rx).rse = s.rse := rfl
@[simp] theorem withRx_sgq (s : State) (rx : List Byte) : (s.withRx rx).sgq = s.sgq := rfl
@[simp] theorem withRx_pkp (s : State) (rx : List Byte) : (s.withRx rx).pkp = s.pkp := rfl
@[simp] theorem withRx_pgn (s : State) (rx : List Byte) : (s.withRx rx).pgn = s.pgn := rfl
@[simp] theorem withRx_plp (s : State) (rx : List Byte) : (s.withRx rx).plp = s.plp := rfl
@[simp] theorem withRx_lsc (s : State) (rx : List Byte) : (s.withRx rx).lsc = s.lsc := rfl
@[simp] theorem withRx_wgd (s : State) (rx : List Byte) : (s.withRx rx).wgd = s.wgd := rfl
@[simp] theorem withRx_cpt (s : State) (rx : List Byte) : (s.withRx rx).cpt = s.cpt := rfl
@[simp] theorem withRx_act (s : State) (rx : List Byte) : (s.withRx rx).act = s.act := rfl
@[simp] theorem withRx_lines (s : State) (rx : List Byte) : (s.withRx rx).lines = s.lines := rfl
@[simp] theorem withRx_pending (s : State) (rx : List Byte) : (s.withRx rx).pending = s.pending := rfl

@[simp] theorem withSled_stb (s : State) (n : Nat) : (s.withSled n).stb = s.stb := rfl
@[simp] theorem withSled_mst (s : State) (n : Nat) : (s.withSled n).mst = s.mst := rfl
@[simp] theorem withSled_rse (s : State) (n : Nat) : (s.withSled n).rse = s.rse := rfl
@[simp] theorem withSled_sgq (s : State) (n : Nat) : (s.withSled n).sgq = s.sgq := rfl
@[simp] theorem withSled_flk (s : State) (n : Nat) : (s.withSled n).flk = s.flk := rfl
@[simp] theorem withSled_pgn (s : State) (n : Nat) : (s.withSled n).pgn = s.pgn := rfl
@[simp] theorem withSled_plp (s : State) (n : Nat) : (s.withSled n).plp = s.plp := rfl
@[simp] theorem withSled_lsc (s : State) (n : Nat) : (s.withSled n).lsc = s.lsc := rfl
@[simp] theorem withSled_wgd (s : State) (n : Nat) : (s.withSled n).wgd = s.wgd := rfl
@[simp] theorem withSled_cpt (s : State) (n : Nat) : (s.withSled n).cpt = s.cpt := rfl
@[simp] theorem withSled_act (s : State) (n : Nat) : (s.withSled n).act = s.act := rfl
@[simp] theorem withSled_lines (s : State) (n : Nat) : (s.withSled n).lines = s.lines := rfl
@[simp] theorem withSled_pending (s : State) (n : Nat) : (s.withSled n).pending = s.pending := rfl

@[simp] theorem observeGate_stb (s : State) (b : Bool) : (s.observeGate b).stb = s.stb := rfl
@[simp] theorem observeGate_mst (s : State) (b : Bool) : (s.observeGate b).mst = s.mst := rfl
@[simp] theorem observeGate_rse (s : State) (b : Bool) : (s.observeGate b).rse = s.rse := rfl
@[simp] theorem observeGate_sgq (s : State) (b : Bool) : (s.observeGate b).sgq = s.sgq := rfl
@[simp] theorem observeGate_flk (s : State) (b : Bool) : (s.observeGate b).flk = s.flk := rfl
@[simp] theorem observeGate_pkp (s : State) (b : Bool) : (s.observeGate b).pkp = s.pkp := rfl
@[simp] theorem observeGate_pgn (s : State) (b : Bool) : (s.observeGate b).pgn = s.pgn := rfl
@[simp] theorem observeGate_plp (s : State) (b : Bool) : (s.observeGate b).plp = s.plp := rfl
@[simp] theorem observeGate_lsc (s : State) (b : Bool) : (s.observeGate b).lsc = s.lsc := rfl
@[simp] theorem observeGate_wgd (s : State) (b : Bool) : (s.observeGate b).wgd = s.wgd := rfl
@[simp] theorem observeGate_cpt (s : State) (b : Bool) : (s.observeGate b).cpt = s.cpt := rfl
@[simp] theorem observeGate_act (s : State) (b : Bool) : (s.observeGate b).act = s.act := rfl
@[simp] theorem observeGate_pending (s : State) (b : Bool) : (s.observeGate b).pending = s.pending := rfl

@[simp] theorem linkFault_stb (s : State) : (linkFault s).stb = s.stb := rfl
@[simp] theorem linkFault_mst (s : State) : (linkFault s).mst = s.mst := rfl
@[simp] theorem linkFault_rse (s : State) : (linkFault s).rse = s.rse := rfl
@[simp] theorem linkFault_sgq (s : State) : (linkFault s).sgq = s.sgq := rfl
@[simp] theorem linkFault_flk (s : State) : (linkFault s).flk = s.flk := rfl
@[simp] theorem linkFault_pkp (s : State) : (linkFault s).pkp = s.pkp := rfl
@[simp] theorem linkFault_pgn (s : State) : (linkFault s).pgn = s.pgn := rfl
@[simp] theorem linkFault_plp (s : State) : (linkFault s).plp = s.plp := rfl
@[simp] theorem linkFault_lsc (s : State) : (linkFault s).lsc = s.lsc := rfl
@[simp] theorem linkFault_wgd (s : State) : (linkFault s).wgd = s.wgd := rfl
@[simp] theorem linkFault_act (s : State) : (linkFault s).act = s.act := rfl
@[simp] theorem linkFault_lines (s : State) : (linkFault s).lines = s.lines := rfl
@[simp] theorem linkFault_pending (s : State) : (linkFault s).pending = s.pending := rfl
@[simp] theorem linkFault_port (s : State) : (linkFault s).cpt.port = s.cpt.port := rfl
@[simp] theorem linkFault_busyReply (s : State) : (linkFault s).cpt.busyReply = s.cpt.busyReply := rfl
@[simp] theorem linkFault_reading (s : State) : (linkFault s).cpt.reading = s.cpt.reading := rfl
@[simp] theorem linkFault_writing (s : State) : (linkFault s).cpt.writing = s.cpt.writing := rfl
@[simp] theorem linkFault_spiOut (s : State) : (linkFault s).cpt.spiOut = s.cpt.spiOut := rfl
@[simp] theorem linkFault_settings (s : State) : (linkFault s).cpt.settings = s.cpt.settings := rfl
@[simp] theorem linkFault_lastReset (s : State) : (linkFault s).cpt.lastReset = s.cpt.lastReset := rfl

@[simp] theorem countEvent_stb (ev : CounterEvent) (k : Option Key) (n : Nat) (s : State) : (countEvent ev k n s).stb = s.stb := rfl
@[simp] theorem countEvent_mst (ev : CounterEvent) (k : Option Key) (n : Nat) (s : State) : (countEvent ev k n s).mst = s.mst := rfl
@[simp] theorem countEvent_rse (ev : CounterEvent) (k : Option Key) (n : Nat) (s : State) : (countEvent ev k n s).rse = s.rse := rfl
@[simp] theorem countEvent_sgq (ev : CounterEvent) (k : Option Key) (n : Nat) (s : State) : (countEvent ev k n s).sgq = s.sgq := rfl
@[simp] theorem countEvent_flk (ev : CounterEvent) (k : Option Key) (n : Nat) (s : State) : (countEvent ev k n s).flk = s.flk := rfl
@[simp] theorem countEvent_pkp (ev : CounterEvent) (k : Option Key) (n : Nat) (s : State) : (countEvent ev k n s).pkp = s.pkp := rfl
@[simp] theorem countEvent_pgn (ev : CounterEvent) (k : Option Key) (n : Nat) (s : State) : (countEvent ev k n s).pgn = s.pgn := rfl
@[simp] theorem countEvent_plp (ev : CounterEvent) (k : Option Key) (n : Nat) (s : State) : (countEvent ev k n s).plp = s.plp := rfl
@[simp] theorem countEvent_lsc (ev : CounterEvent) (k : Option Key) (n : Nat) (s : State) : (countEvent ev k n s).lsc = s.lsc := rfl
@[simp] theorem countEvent_wgd (ev : CounterEvent) (k : Option Key) (n : Nat) (s : State) : (countEvent ev k n s).wgd = s.wgd := rfl
@[simp] theorem countEvent_lines (ev : CounterEvent) (k : Option Key) (n : Nat) (s : State) : (countEvent ev k n s).lines = s.lines := rfl
@[simp] theorem countEvent_pending (ev : CounterEvent) (k : Option Key) (n : Nat) (s : State) : (countEvent ev k n s).pending = s.pending := rfl
@[simp] theorem countEvent_port (ev : CounterEvent) (k : Option Key) (n : Nat) (s : State) : (countEvent ev k n s).cpt.port = s.cpt.port := rfl
@[simp] theorem countEvent_busyReply (ev : CounterEvent) (k : Option Key) (n : Nat) (s : State) : (countEvent ev k n s).cpt.busyReply = s.cpt.busyReply := rfl
@[simp] theorem countEvent_reading (ev : CounterEvent) (k : Option Key) (n : Nat) (s : State) : (countEvent ev k n s).cpt.reading = s.cpt.reading := rfl
@[simp] theorem countEvent_writing (ev : CounterEvent) (k : Option Key) (n : Nat) (s : State) : (countEvent ev k n s).cpt.writing = s.cpt.writing := rfl
@[simp] theorem countEvent_spiOut (ev : CounterEvent) (k : Option Key) (n : Nat) (s : State) : (countEvent ev k n s).cpt.spiOut = s.cpt.spiOut := rfl
@[simp] theorem countEvent_settings (ev : CounterEvent) (k : Option Key) (n : Nat) (s : State) : (countEvent ev k n s).cpt.settings = s.cpt.settings := rfl
@[simp] theorem countEvent_lastReset (ev : CounterEvent) (k : Option Key) (n : Nat) (s : State) : (countEvent ev k n s).cpt.lastReset = s.cpt.lastReset := rfl

@[simp] theorem pin_mst (i : Nat) (s : State) : (pin i s).mst = s.mst := rfl
@[simp] theorem pin_rse (i : Nat) (s : State) : (pin i s).rse = s.rse := rfl
@[simp] theorem pin_sgq (i : Nat) (s : State) : (pin i s).sgq = s.sgq := rfl
@[simp] theorem pin_flk (i : Nat) (s : State) : (pin i s).flk = s.flk := rfl
@[simp] theorem pin_pkp (i : Nat) (s : State) : (pin i s).pkp = s.pkp := rfl
@[simp] theorem pin_pgn (i : Nat) (s : State) : (pin i s).pgn = s.pgn := rfl
@[simp] theorem pin_plp (i : Nat) (s : State) : (pin i s).plp = s.plp := rfl
@[simp] theorem pin_lsc (i : Nat) (s : State) : (pin i s).lsc = s.lsc := rfl
@[simp] theorem pin_wgd (i : Nat) (s : State) : (pin i s).wgd = s.wgd := rfl
@[simp] theorem pin_cpt (i : Nat) (s : State) : (pin i s).cpt = s.cpt := rfl
@[simp] theorem pin_act (i : Nat) (s : State) : (pin i s).act = s.act := rfl
@[simp] theorem pin_lines (i : Nat) (s : State) : (pin i s).lines = s.lines := rfl
@[simp] theorem pin_pending (i : Nat) (s : State) : (pin i s).pending = s.pending := rfl

@[simp] theorem dropEntry_stb (e : Entry) (s : State) : (dropEntry e s).stb = s.stb := rfl
@[simp] theorem dropEntry_mst (e : Entry) (s : State) : (dropEntry e s).mst = s.mst := rfl
@[simp] theorem dropEntry_flk (e : Entry) (s : State) : (dropEntry e s).flk = s.flk := rfl
@[simp] theorem dropEntry_pkp (e : Entry) (s : State) : (dropEntry e s).pkp = s.pkp := rfl
@[simp] theorem dropEntry_pgn (e : Entry) (s : State) : (dropEntry e s).pgn = s.pgn := rfl
@[simp] theorem dropEntry_plp (e : Entry) (s : State) : (dropEntry e s).plp = s.plp := rfl
@[simp] theorem dropEntry_lsc (e : Entry) (s : State) : (dropEntry e s).lsc = s.lsc := rfl
@[simp] theorem dropEntry_wgd (e : Entry) (s : State) : (dropEntry e s).wgd = s.wgd := rfl
@[simp] theorem dropEntry_cpt (e : Entry) (s : State) : (dropEntry e s).cpt = s.cpt := rfl
@[simp] theorem dropEntry_act (e : Entry) (s : State) : (dropEntry e s).act = s.act := rfl
@[simp] theorem dropEntry_lines (e : Entry) (s : State) : (dropEntry e s).lines = s.lines := rfl
@[simp] theorem dropEntry_pending (e : Entry) (s : State) : (dropEntry e s).pending = s.pending := rfl

@[simp] theorem closeWritePeriod_stb (s : State) : (closeWritePeriod s).stb = s.stb := rfl
@[simp] theorem closeWritePeriod_mst (s : State) : (closeWritePeriod s).mst = s.mst := rfl
@[simp] theorem closeWritePeriod_rse (s : State) : (closeWritePeriod s).rse = s.rse := rfl
@[simp] theorem closeWritePeriod_sgq (s : State) : (closeWritePeriod s).sgq = s.sgq := rfl
@[simp] theorem closeWritePeriod_flk (s : State) : (closeWritePeriod s).flk = s.flk := rfl
@[simp] theorem closeWritePeriod_pkp (s : State) : (closeWritePeriod s).pkp = s.pkp := rfl
@[simp] theorem closeWritePeriod_lsc (s : State) : (closeWritePeriod s).lsc = s.lsc := rfl
@[simp] theorem closeWritePeriod_wgd (s : State) : (closeWritePeriod s).wgd = s.wgd := rfl
@[simp] theorem closeWritePeriod_cpt (s : State) : (closeWritePeriod s).cpt = s.cpt := rfl
@[simp] theorem closeWritePeriod_act (s : State) : (closeWritePeriod s).act = s.act := rfl
@[simp] theorem closeWritePeriod_lines (s : State) : (closeWritePeriod s).lines = s.lines := rfl
@[simp] theorem closeWritePeriod_pending (s : State) : (closeWritePeriod s).pending = s.pending := rfl

@[simp] theorem leaveWrite_stb (l : LaserState) (s : State) : (leaveWrite l s).stb = s.stb := rfl
@[simp] theorem leaveWrite_mst (l : LaserState) (s : State) : (leaveWrite l s).mst = s.mst := rfl
@[simp] theorem leaveWrite_rse (l : LaserState) (s : State) : (leaveWrite l s).rse = s.rse := rfl
@[simp] theorem leaveWrite_sgq (l : LaserState) (s : State) : (leaveWrite l s).sgq = s.sgq := rfl
@[simp] theorem leaveWrite_flk (l : LaserState) (s : State) : (leaveWrite l s).flk = s.flk := rfl
@[simp] theorem leaveWrite_pkp (l : LaserState) (s : State) : (leaveWrite l s).pkp = s.pkp := rfl
@[simp] theorem leaveWrite_cpt (l : LaserState) (s : State) : (leaveWrite l s).cpt = s.cpt := rfl
@[simp] theorem leaveWrite_act (l : LaserState) (s : State) : (leaveWrite l s).act = s.act := rfl
@[simp] theorem leaveWrite_lines (l : LaserState) (s : State) : (leaveWrite l s).lines = s.lines := rfl
@[simp] theorem leaveWrite_pending (l : LaserState) (s : State) : (leaveWrite l s).pending = s.pending := rfl

@[simp] theorem requestJump_stb (e : Entry) (s : State) : (requestJump e s).stb = s.stb := rfl
@[simp] theorem requestJump_mst (e : Entry) (s : State) : (requestJump e s).mst = s.mst := rfl
@[simp] theorem requestJump_rse (e : Entry) (s : State) : (requestJump e s).rse = s.rse := rfl
@[simp] theorem requestJump_flk (e : Entry) (s : State) : (requestJump e s).flk = s.flk := rfl
@[simp] theorem requestJump_pgn (e : Entry) (s : State) : (requestJump e s).pgn = s.pgn := rfl
@[simp] theorem requestJump_plp (e : Entry) (s : State) : (requestJump e s).plp = s.plp := rfl
@[simp] theorem requestJump_lsc (e : Entry) (s : State) : (requestJump e s).lsc = s.lsc := rfl
@[simp] theorem requestJump_wgd (e : Entry) (s : State) : (requestJump e s).wgd = s.wgd := rfl
@[simp] theorem requestJump_cpt (e : Entry) (s : State) : (requestJump e s).cpt = s.cpt := rfl
@[simp] theorem requestJump_act (e : Entry) (s : State) : (requestJump e s).act = s.act := rfl
@[simp] theorem requestJump_lines (e : Entry) (s : State) : (requestJump e s).lines = s.lines := rfl
@[simp] theorem requestJump_pending (e : Entry) (s : State) : (requestJump e s).pending = s.pending := rfl

@[simp] theorem endJump_stb (f : FocusState) (s : State) : (endJump f s).stb = s.stb := rfl
@[simp] theorem endJump_mst (f : FocusState) (s : State) : (endJump f s).mst = s.mst := rfl
@[simp] theorem endJump_rse (f : FocusState) (s : State) : (endJump f s).rse = s.rse := rfl
@[simp] theorem endJump_flk (f : FocusState) (s : State) : (endJump f s).flk = s.flk := rfl
@[simp] theorem endJump_pgn (f : FocusState) (s : State) : (endJump f s).pgn = s.pgn := rfl
@[simp] theorem endJump_plp (f : FocusState) (s : State) : (endJump f s).plp = s.plp := rfl
@[simp] theorem endJump_lsc (f : FocusState) (s : State) : (endJump f s).lsc = s.lsc := rfl
@[simp] theorem endJump_wgd (f : FocusState) (s : State) : (endJump f s).wgd = s.wgd := rfl
@[simp] theorem endJump_cpt (f : FocusState) (s : State) : (endJump f s).cpt = s.cpt := rfl
@[simp] theorem endJump_act (f : FocusState) (s : State) : (endJump f s).act = s.act := rfl
@[simp] theorem endJump_lines (f : FocusState) (s : State) : (endJump f s).lines = s.lines := rfl
@[simp] theorem endJump_pending (f : FocusState) (s : State) : (endJump f s).pending = s.pending := rfl

@[simp] theorem answer_stb (c : Byte) (st : Status) (p : List Byte) (s : State) : (answer c st p s).stb = s.stb := rfl
@[simp] theorem answer_mst (c : Byte) (st : Status) (p : List Byte) (s : State) : (answer c st p s).mst = s.mst := rfl
@[simp] theorem answer_rse (c : Byte) (st : Status) (p : List Byte) (s : State) : (answer c st p s).rse = s.rse := rfl
@[simp] theorem answer_sgq (c : Byte) (st : Status) (p : List Byte) (s : State) : (answer c st p s).sgq = s.sgq := rfl
@[simp] theorem answer_flk (c : Byte) (st : Status) (p : List Byte) (s : State) : (answer c st p s).flk = s.flk := rfl
@[simp] theorem answer_pkp (c : Byte) (st : Status) (p : List Byte) (s : State) : (answer c st p s).pkp = s.pkp := rfl
@[simp] theorem answer_pgn (c : Byte) (st : Status) (p : List Byte) (s : State) : (answer c st p s).pgn = s.pgn := rfl
@[simp] theorem answer_plp (c : Byte) (st : Status) (p : List Byte) (s : State) : (answer c st p s).plp = s.plp := rfl
@[simp] theorem answer_lsc (c : Byte) (st : Status) (p : List Byte) (s : State) : (answer c st p s).lsc = s.lsc := rfl
@[simp] theorem answer_wgd (c : Byte) (st : Status) (p : List Byte) (s : State) : (answer c st p s).wgd = s.wgd := rfl
@[simp] theorem answer_act (c : Byte) (st : Status) (p : List Byte) (s : State) : (answer c st p s).act = s.act := rfl
@[simp] theorem answer_lines (c : Byte) (st : Status) (p : List Byte) (s : State) : (answer c st p s).lines = s.lines := rfl
@[simp] theorem answer_pending (c : Byte) (st : Status) (p : List Byte) (s : State) : (answer c st p s).pending = s.pending := rfl
@[simp] theorem answer_busyReply (c : Byte) (st : Status) (p : List Byte) (s : State) : (answer c st p s).cpt.busyReply = s.cpt.busyReply := rfl
@[simp] theorem answer_reading (c : Byte) (st : Status) (p : List Byte) (s : State) : (answer c st p s).cpt.reading = s.cpt.reading := rfl
@[simp] theorem answer_writing (c : Byte) (st : Status) (p : List Byte) (s : State) : (answer c st p s).cpt.writing = s.cpt.writing := rfl
@[simp] theorem answer_spiOut (c : Byte) (st : Status) (p : List Byte) (s : State) : (answer c st p s).cpt.spiOut = s.cpt.spiOut := rfl
@[simp] theorem answer_notices (c : Byte) (st : Status) (p : List Byte) (s : State) : (answer c st p s).cpt.notices = s.cpt.notices := rfl
@[simp] theorem answer_settings (c : Byte) (st : Status) (p : List Byte) (s : State) : (answer c st p s).cpt.settings = s.cpt.settings := rfl
@[simp] theorem answer_lastReset (c : Byte) (st : Status) (p : List Byte) (s : State) : (answer c st p s).cpt.lastReset = s.cpt.lastReset := rfl

@[simp] theorem endWrite_stb (x : Byte) (b : List Byte) (s : State) : (endWrite x b s).stb = s.stb := rfl
@[simp] theorem endWrite_mst (x : Byte) (b : List Byte) (s : State) : (endWrite x b s).mst = s.mst := rfl
@[simp] theorem endWrite_rse (x : Byte) (b : List Byte) (s : State) : (endWrite x b s).rse = s.rse := rfl
@[simp] theorem endWrite_sgq (x : Byte) (b : List Byte) (s : State) : (endWrite x b s).sgq = s.sgq := rfl
@[simp] theorem endWrite_flk (x : Byte) (b : List Byte) (s : State) : (endWrite x b s).flk = s.flk := rfl
@[simp] theorem endWrite_pkp (x : Byte) (b : List Byte) (s : State) : (endWrite x b s).pkp = s.pkp := rfl
@[simp] theorem endWrite_pgn (x : Byte) (b : List Byte) (s : State) : (endWrite x b s).pgn = s.pgn := rfl
@[simp] theorem endWrite_plp (x : Byte) (b : List Byte) (s : State) : (endWrite x b s).plp = s.plp := rfl
@[simp] theorem endWrite_lsc (x : Byte) (b : List Byte) (s : State) : (endWrite x b s).lsc = s.lsc := rfl
@[simp] theorem endWrite_wgd (x : Byte) (b : List Byte) (s : State) : (endWrite x b s).wgd = s.wgd := rfl
@[simp] theorem endWrite_act (x : Byte) (b : List Byte) (s : State) : (endWrite x b s).act = s.act := rfl
@[simp] theorem endWrite_lines (x : Byte) (b : List Byte) (s : State) : (endWrite x b s).lines = s.lines := rfl
@[simp] theorem endWrite_pending (x : Byte) (b : List Byte) (s : State) : (endWrite x b s).pending = s.pending := rfl
@[simp] theorem endWrite_port (x : Byte) (b : List Byte) (s : State) : (endWrite x b s).cpt.port = s.cpt.port := rfl
@[simp] theorem endWrite_busyReply (x : Byte) (b : List Byte) (s : State) : (endWrite x b s).cpt.busyReply = s.cpt.busyReply := rfl
@[simp] theorem endWrite_notices (x : Byte) (b : List Byte) (s : State) : (endWrite x b s).cpt.notices = s.cpt.notices := rfl
@[simp] theorem endWrite_settings (x : Byte) (b : List Byte) (s : State) : (endWrite x b s).cpt.settings = s.cpt.settings := rfl
@[simp] theorem endWrite_lastReset (x : Byte) (b : List Byte) (s : State) : (endWrite x b s).cpt.lastReset = s.cpt.lastReset := rfl

@[simp] theorem lookupDone_stb (s : State) : (lookupDone s).stb = s.stb := rfl
@[simp] theorem lookupDone_mst (s : State) : (lookupDone s).mst = s.mst := rfl
@[simp] theorem lookupDone_sgq (s : State) : (lookupDone s).sgq = s.sgq := rfl
@[simp] theorem lookupDone_flk (s : State) : (lookupDone s).flk = s.flk := rfl
@[simp] theorem lookupDone_pkp (s : State) : (lookupDone s).pkp = s.pkp := rfl
@[simp] theorem lookupDone_pgn (s : State) : (lookupDone s).pgn = s.pgn := rfl
@[simp] theorem lookupDone_plp (s : State) : (lookupDone s).plp = s.plp := rfl
@[simp] theorem lookupDone_lsc (s : State) : (lookupDone s).lsc = s.lsc := rfl
@[simp] theorem lookupDone_wgd (s : State) : (lookupDone s).wgd = s.wgd := rfl
@[simp] theorem lookupDone_cpt (s : State) : (lookupDone s).cpt = s.cpt := rfl
@[simp] theorem lookupDone_act (s : State) : (lookupDone s).act = s.act := rfl
@[simp] theorem lookupDone_lines (s : State) : (lookupDone s).lines = s.lines := rfl
@[simp] theorem lookupDone_pending (s : State) : (lookupDone s).pending = s.pending := rfl

@[simp] theorem transmitByte_stb (s : State) : (transmitByte s).stb = s.stb := rfl
@[simp] theorem transmitByte_mst (s : State) : (transmitByte s).mst = s.mst := rfl
@[simp] theorem transmitByte_rse (s : State) : (transmitByte s).rse = s.rse := rfl
@[simp] theorem transmitByte_sgq (s : State) : (transmitByte s).sgq = s.sgq := rfl
@[simp] theorem transmitByte_pkp (s : State) : (transmitByte s).pkp = s.pkp := rfl
@[simp] theorem transmitByte_pgn (s : State) : (transmitByte s).pgn = s.pgn := rfl
@[simp] theorem transmitByte_plp (s : State) : (transmitByte s).plp = s.plp := rfl
@[simp] theorem transmitByte_lsc (s : State) : (transmitByte s).lsc = s.lsc := rfl
@[simp] theorem transmitByte_wgd (s : State) : (transmitByte s).wgd = s.wgd := rfl
@[simp] theorem transmitByte_cpt (s : State) : (transmitByte s).cpt = s.cpt := rfl
@[simp] theorem transmitByte_act (s : State) : (transmitByte s).act = s.act := rfl
@[simp] theorem transmitByte_lines (s : State) : (transmitByte s).lines = s.lines := rfl
@[simp] theorem transmitByte_pending (s : State) : (transmitByte s).pending = s.pending := rfl

@[simp] theorem tickTimers_stb (s : State) : (tickTimers s).stb = s.stb := rfl
@[simp] theorem tickTimers_mst (s : State) : (tickTimers s).mst = s.mst := rfl
@[simp] theorem tickTimers_rse (s : State) : (tickTimers s).rse = s.rse := rfl
@[simp] theorem tickTimers_sgq (s : State) : (tickTimers s).sgq = s.sgq := rfl
@[simp] theorem tickTimers_flk (s : State) : (tickTimers s).flk = s.flk := rfl
@[simp] theorem tickTimers_pgn (s : State) : (tickTimers s).pgn = s.pgn := rfl
@[simp] theorem tickTimers_cpt (s : State) : (tickTimers s).cpt = s.cpt := rfl
@[simp] theorem tickTimers_act (s : State) : (tickTimers s).act = s.act := rfl
@[simp] theorem tickTimers_lines (s : State) : (tickTimers s).lines = s.lines := rfl
@[simp] theorem tickTimers_pending (s : State) : (tickTimers s).pending = s.pending := rfl

@[simp] theorem warnShape_stb (s : State) : (warnShape s).stb = s.stb := rfl
@[simp] theorem warnShape_mst (s : State) : (warnShape s).mst = s.mst := rfl
@[simp] theorem warnShape_rse (s : State) : (warnShape s).rse = s.rse := rfl
@[simp] theorem warnShape_flk (s : State) : (warnShape s).flk = s.flk := rfl
@[simp] theorem warnShape_pkp (s : State) : (warnShape s).pkp = s.pkp := rfl
@[simp] theorem warnShape_pgn (s : State) : (warnShape s).pgn = s.pgn := rfl
@[simp] theorem warnShape_plp (s : State) : (warnShape s).plp = s.plp := rfl
@[simp] theorem warnShape_lsc (s : State) : (warnShape s).lsc = s.lsc := rfl
@[simp] theorem warnShape_wgd (s : State) : (warnShape s).wgd = s.wgd := rfl
@[simp] theorem warnShape_cpt (s : State) : (warnShape s).cpt = s.cpt := rfl
@[simp] theorem warnShape_act (s : State) : (warnShape s).act = s.act := rfl
@[simp] theorem warnShape_lines (s : State) : (warnShape s).lines = s.lines := rfl
@[simp] theorem warnShape_pending (s : State) : (warnShape s).pending = s.pending := rfl

@[simp] theorem startSettling_stb (s : State) : (startSettling s).stb = s.stb := rfl
@[simp] theorem startSettling_mst (s : State) : (startSettling s).mst = s.mst := rfl
@[simp] theorem startSettling_rse (s : State) : (startSettling s).rse = s.rse := rfl
@[simp] theorem startSettling_sgq (s : State) : (startSettling s).sgq = s.sgq := rfl
@[simp] theorem startSettling_flk (s : State) : (startSettling s).flk = s.flk := rfl
@[simp] theorem startSettling_pkp (s : State) : (startSettling s).pkp = s.pkp := rfl
@[simp] theorem startSettling_pgn (s : State) : (startSettling s).pgn = s.pgn := rfl
@[simp] theorem startSettling_plp (s : State) : (startSettling s).plp = s.plp := rfl
@[simp] theorem startSettling_wgd (s : State) : (startSettling s).wgd = s.wgd := rfl
@[simp] theorem startSettling_cpt (s : State) : (startSettling s).cpt = s.cpt := rfl
@[simp] theorem startSettling_act (s : State) : (startSettling s).act = s.act := rfl
@[simp] theorem startSettling_lines (s : State) : (startSettling s).lines = s.lines := rfl
@[simp] theorem startSettling_pending (s : State) : (startSettling s).pending = s.pending := rfl

@[simp] theorem laserToOff_stb (s : State) : (laserToOff s).stb = s.stb := rfl
@[simp] theorem laserToOff_mst (s : State) : (laserToOff s).mst = s.mst := rfl
@[simp] theorem laserToOff_rse (s : State) : (laserToOff s).rse = s.rse := rfl
@[simp] theorem laserToOff_sgq (s : State) : (laserToOff s).sgq = s.sgq := rfl
@[simp] theorem laserToOff_flk (s : State) : (laserToOff s).flk = s.flk := rfl
@[simp] theorem laserToOff_pkp (s : State) : (laserToOff s).pkp = s.pkp := rfl
@[simp] theorem laserToOff_pgn (s : State) : (laserToOff s).pgn = s.pgn := rfl
@[simp] theorem laserToOff_plp (s : State) : (laserToOff s).plp = s.plp := rfl
@[simp] theorem laserToOff_wgd (s : State) : (laserToOff s).wgd = s.wgd := rfl
@[simp] theorem laserToOff_cpt (s : State) : (laserToOff s).cpt = s.cpt := rfl
@[simp] theorem laserToOff_act (s : State) : (laserToOff s).act = s.act := rfl
@[simp] theorem laserToOff_lines (s : State) : (laserToOff s).lines = s.lines := rfl
@[simp] theorem laserToOff_pending (s : State) : (laserToOff s).pending = s.pending := rfl

@[simp] theorem placeRecord_rse (i : Nat) (r : Record) (s : State) : (placeRecord i r s).rse = s.rse := rfl
@[simp] theorem placeRecord_sgq (i : Nat) (r : Record) (s : State) : (placeRecord i r s).sgq = s.sgq := rfl
@[simp] theorem placeRecord_flk (i : Nat) (r : Record) (s : State) : (placeRecord i r s).flk = s.flk := rfl
@[simp] theorem placeRecord_pkp (i : Nat) (r : Record) (s : State) : (placeRecord i r s).pkp = s.pkp := rfl
@[simp] theorem placeRecord_pgn (i : Nat) (r : Record) (s : State) : (placeRecord i r s).pgn = s.pgn := rfl
@[simp] theorem placeRecord_plp (i : Nat) (r : Record) (s : State) : (placeRecord i r s).plp = s.plp := rfl
@[simp] theorem placeRecord_lsc (i : Nat) (r : Record) (s : State) : (placeRecord i r s).lsc = s.lsc := rfl
@[simp] theorem placeRecord_wgd (i : Nat) (r : Record) (s : State) : (placeRecord i r s).wgd = s.wgd := rfl
@[simp] theorem placeRecord_cpt (i : Nat) (r : Record) (s : State) : (placeRecord i r s).cpt = s.cpt := rfl
@[simp] theorem placeRecord_act (i : Nat) (r : Record) (s : State) : (placeRecord i r s).act = s.act := rfl
@[simp] theorem placeRecord_lines (i : Nat) (r : Record) (s : State) : (placeRecord i r s).lines = s.lines := rfl
@[simp] theorem placeRecord_pending (i : Nat) (r : Record) (s : State) : (placeRecord i r s).pending = s.pending := rfl

@[simp] theorem withNotices_notices (s : State) (f : Notices → Notices) : (s.withNotices f).cpt.notices = f s.cpt.notices := rfl
@[simp] theorem withPlace_stb (s : State) (i : Nat) (f : Place → Place) : (s.withPlace i f).stb = s.stb.modify i f := rfl
@[simp] theorem withSlot_mst (s : State) (i : Nat) (f : Slot → Slot) : (s.withSlot i f).mst = s.mst.modify i f := rfl
@[simp] theorem withEntry_queue (s : State) (p : Nat) (f : Entry → Entry) :
    (s.withEntry p f).sgq.queue = s.sgq.queue.map fun e => if e.pos = p then f e else e := rfl
@[simp] theorem withEntry_requester (s : State) (p : Nat) (f : Entry → Entry) :
    (s.withEntry p f).sgq.requester = s.sgq.requester := rfl
@[simp] theorem withHead_requester (s : State) (f : Entry → Entry) : (s.withHead f).sgq.requester = s.sgq.requester := rfl
@[simp] theorem withRx_rx (s : State) (rx : List Byte) : (s.withRx rx).flk.rx = rx := rfl
@[simp] theorem withSled_sled (s : State) (n : Nat) : (s.withSled n).pkp.sled = n := rfl
@[simp] theorem observeGate_wgate (s : State) (b : Bool) : (s.observeGate b).lines.wgate = b := rfl
@[simp] theorem linkFault_raised (s : State) : (linkFault s).cpt.notices.linkFault = true := rfl
@[simp] theorem countEvent_act (ev : CounterEvent) (k : Option Key) (n : Nat) (s : State) :
    (countEvent ev k n s).act = s.act.map (Counter.add ev k n) := rfl
@[simp] theorem countEvent_notices (ev : CounterEvent) (k : Option Key) (n : Nat) (s : State) :
    (countEvent ev k n s).cpt.notices = s.cpt.notices.wrap (wrapSet ev k n 0 s.act) := rfl
@[simp] theorem dropEntry_queue (e : Entry) (s : State) : (dropEntry e s).sgq.queue = s.sgq.queue.filter (·.pos ≠ e.pos) := rfl
@[simp] theorem leaveWrite_laser (l : LaserState) (s : State) : (leaveWrite l s).lsc.laser = l := rfl
@[simp] theorem leaveWrite_keepalive (l : LaserState) (s : State) : (leaveWrite l s).wgd.keepalive = none := rfl
@[simp] theorem startSettling_offered (s : State) : (startSettling s).lsc.offered = none := rfl
@[simp] theorem laserToOff_offered (s : State) : (laserToOff s).lsc.offered = none := rfl
@[simp] theorem laserToOff_causes (s : State) : (laserToOff s).lsc.causes = s.lsc.causes := rfl
@[simp] theorem closed_early (g : Pgn) : g.closed.early = none := rfl
@[simp] theorem closed_held (g : Pgn) : g.closed.held = none := rfl
@[simp] theorem closeWritePeriod_level (s : State) : (closeWritePeriod s).pgn.level = .read := rfl
@[simp] theorem requestJump_focus (e : Entry) (s : State) :
    (requestJump e s).pkp.focus = .jumping e.layer s.cpt.settings.jumpRetries := rfl
@[simp] theorem requestJump_requester (e : Entry) (s : State) : (requestJump e s).sgq.requester = some e.tag := rfl
@[simp] theorem requestJump_queue (e : Entry) (s : State) : (requestJump e s).sgq.queue = s.sgq.queue := rfl
@[simp] theorem endJump_focus (f : FocusState) (s : State) : (endJump f s).pkp.focus = f := rfl
@[simp] theorem endJump_queue (f : FocusState) (s : State) : (endJump f s).sgq.queue = s.sgq.queue := rfl
@[simp] theorem answer_port (c : Byte) (st : Status) (p : List Byte) (s : State) :
    (answer c st p s).cpt.port = .responseReady { status := st, code := c, payload := p } := rfl
@[simp] theorem endWrite_reading (x : Byte) (b : List Byte) (s : State) : (endWrite x b s).cpt.reading = none := rfl
@[simp] theorem endWrite_writing (x : Byte) (b : List Byte) (s : State) : (endWrite x b s).cpt.writing = none := rfl
@[simp] theorem endWrite_spiOut (x : Byte) (b : List Byte) (s : State) :
    (endWrite x b s).cpt.spiOut = x :: List.replicate b.length 0 := rfl
@[simp] theorem closed_reset : Pgn.reset.closed = Pgn.reset := rfl
@[simp] theorem closed_closed (g : Pgn) : g.closed.closed = g.closed := rfl
@[simp] theorem closed_presented (g : Pgn) : g.closed.presented = CodeSet.zero := rfl
@[simp] theorem closed_next (g : Pgn) : g.closed.next = [] := rfl
@[simp] theorem closeTrain_run (c : Int) (g : Pgn) : (g.closeTrain c).run = g.run := rfl
@[simp] theorem closeTrain_peaks (c : Int) (g : Pgn) : (g.closeTrain c).peaks = g.peaks := rfl
@[simp] theorem expectPeak_edges (st : Strategy) (a b : Int) (g : Pgn) : (g.expectPeak st a b).edges = g.edges := rfl
@[simp] theorem expectReturn_edges (a : Int) (n : Nat) (g : Pgn) : (g.expectReturn a n).edges = g.edges := rfl
@[simp] theorem latch_measurement (k : Pkp) : k.latch.measurement = some k.wobCount := rfl
@[simp] theorem latch_focus (k : Pkp) : k.latch.focus = k.focus := rfl
@[simp] theorem tick_supplyWarn (w : Wgd) : w.tick.supplyWarn = w.supplyWarn := rfl
@[simp] theorem tick_tickTaken (w : Wgd) : w.tick.tickTaken = false := rfl
@[simp] theorem lookupDone_inFlight (s : State) : (lookupDone s).rse.inFlight = .idle := rfl

end Sys2Proof.Machine
end

