-- ==== Sys2Proof/Laws/Frames.lean ====
section
/-! SUPPORT. What each shared operation leaves as it was, one lemma for each field, so that no proof unfolds an operation for a field it
does not touch. -/

namespace Sys2Proof.Machine

/-- A fold of steps that each keep a reading of the state keeps it. -/
theorem foldl_keeps {α β : Type} (f : State → β) (g : State → α → State) (h : ∀ s a, f (g s a) = f s) (l : List α) (s : State) :
    f (l.foldl g s) = f s := by
  induction l generalizing s with
  | nil => rfl
  | cons a l ih => simp only [List.foldl]; rw [ih, h]

@[simp] theorem send_stb (m : List Byte) (s : State) : (send m s).stb = s.stb := by unfold send; split <;> rfl
@[simp] theorem send_mst (m : List Byte) (s : State) : (send m s).mst = s.mst := by unfold send; split <;> rfl
@[simp] theorem send_rse (m : List Byte) (s : State) : (send m s).rse = s.rse := by unfold send; split <;> rfl
@[simp] theorem send_sgq (m : List Byte) (s : State) : (send m s).sgq = s.sgq := by unfold send; split <;> rfl
@[simp] theorem send_pkp (m : List Byte) (s : State) : (send m s).pkp = s.pkp := by unfold send; split <;> rfl
@[simp] theorem send_pgn (m : List Byte) (s : State) : (send m s).pgn = s.pgn := by unfold send; split <;> rfl
@[simp] theorem send_plp (m : List Byte) (s : State) : (send m s).plp = s.plp := by unfold send; split <;> rfl
@[simp] theorem send_lsc (m : List Byte) (s : State) : (send m s).lsc = s.lsc := by unfold send; split <;> rfl
@[simp] theorem send_wgd (m : List Byte) (s : State) : (send m s).wgd = s.wgd := by unfold send; split <;> rfl
@[simp] theorem send_act (m : List Byte) (s : State) : (send m s).act = s.act := by unfold send; split <;> rfl
@[simp] theorem send_lines (m : List Byte) (s : State) : (send m s).lines = s.lines := by unfold send; split <;> rfl
@[simp] theorem send_pending (m : List Byte) (s : State) : (send m s).pending = s.pending := by unfold send; split <;> rfl
@[simp] theorem send_port (m : List Byte) (s : State) : (send m s).cpt.port = s.cpt.port := by unfold send; split <;> rfl
@[simp] theorem send_busyReply (m : List Byte) (s : State) : (send m s).cpt.busyReply = s.cpt.busyReply := by unfold send; split <;> rfl
@[simp] theorem send_reading (m : List Byte) (s : State) : (send m s).cpt.reading = s.cpt.reading := by unfold send; split <;> rfl
@[simp] theorem send_writing (m : List Byte) (s : State) : (send m s).cpt.writing = s.cpt.writing := by unfold send; split <;> rfl
@[simp] theorem send_spiOut (m : List Byte) (s : State) : (send m s).cpt.spiOut = s.cpt.spiOut := by unfold send; split <;> rfl
@[simp] theorem send_settings (m : List Byte) (s : State) : (send m s).cpt.settings = s.cpt.settings := by unfold send; split <;> rfl
@[simp] theorem send_lastReset (m : List Byte) (s : State) : (send m s).cpt.lastReset = s.cpt.lastReset := by unfold send; split <;> rfl

@[simp] theorem freePlace_rse (i : Nat) (s : State) : (freePlace i s).rse = s.rse := by unfold freePlace; split <;> rfl
@[simp] theorem freePlace_sgq (i : Nat) (s : State) : (freePlace i s).sgq = s.sgq := by unfold freePlace; split <;> rfl
@[simp] theorem freePlace_flk (i : Nat) (s : State) : (freePlace i s).flk = s.flk := by unfold freePlace; split <;> rfl
@[simp] theorem freePlace_pkp (i : Nat) (s : State) : (freePlace i s).pkp = s.pkp := by unfold freePlace; split <;> rfl
@[simp] theorem freePlace_pgn (i : Nat) (s : State) : (freePlace i s).pgn = s.pgn := by unfold freePlace; split <;> rfl
@[simp] theorem freePlace_plp (i : Nat) (s : State) : (freePlace i s).plp = s.plp := by unfold freePlace; split <;> rfl
@[simp] theorem freePlace_lsc (i : Nat) (s : State) : (freePlace i s).lsc = s.lsc := by unfold freePlace; split <;> rfl
@[simp] theorem freePlace_wgd (i : Nat) (s : State) : (freePlace i s).wgd = s.wgd := by unfold freePlace; split <;> rfl
@[simp] theorem freePlace_cpt (i : Nat) (s : State) : (freePlace i s).cpt = s.cpt := by unfold freePlace; split <;> rfl
@[simp] theorem freePlace_act (i : Nat) (s : State) : (freePlace i s).act = s.act := by unfold freePlace; split <;> rfl
@[simp] theorem freePlace_lines (i : Nat) (s : State) : (freePlace i s).lines = s.lines := by unfold freePlace; split <;> rfl
@[simp] theorem freePlace_pending (i : Nat) (s : State) : (freePlace i s).pending = s.pending := by unfold freePlace; split <;> rfl

@[simp] theorem unpin_rse (i : Nat) (s : State) : (unpin i s).rse = s.rse := by simp only [unpin]; (repeat' split) <;> simp
@[simp] theorem unpin_sgq (i : Nat) (s : State) : (unpin i s).sgq = s.sgq := by simp only [unpin]; (repeat' split) <;> simp
@[simp] theorem unpin_flk (i : Nat) (s : State) : (unpin i s).flk = s.flk := by simp only [unpin]; (repeat' split) <;> simp
@[simp] theorem unpin_pkp (i : Nat) (s : State) : (unpin i s).pkp = s.pkp := by simp only [unpin]; (repeat' split) <;> simp
@[simp] theorem unpin_pgn (i : Nat) (s : State) : (unpin i s).pgn = s.pgn := by simp only [unpin]; (repeat' split) <;> simp
@[simp] theorem unpin_plp (i : Nat) (s : State) : (unpin i s).plp = s.plp := by simp only [unpin]; (repeat' split) <;> simp
@[simp] theorem unpin_lsc (i : Nat) (s : State) : (unpin i s).lsc = s.lsc := by simp only [unpin]; (repeat' split) <;> simp
@[simp] theorem unpin_wgd (i : Nat) (s : State) : (unpin i s).wgd = s.wgd := by simp only [unpin]; (repeat' split) <;> simp
@[simp] theorem unpin_cpt (i : Nat) (s : State) : (unpin i s).cpt = s.cpt := by simp only [unpin]; (repeat' split) <;> simp
@[simp] theorem unpin_act (i : Nat) (s : State) : (unpin i s).act = s.act := by simp only [unpin]; (repeat' split) <;> simp
@[simp] theorem unpin_lines (i : Nat) (s : State) : (unpin i s).lines = s.lines := by simp only [unpin]; (repeat' split) <;> simp
@[simp] theorem unpin_pending (i : Nat) (s : State) : (unpin i s).pending = s.pending := by simp only [unpin]; (repeat' split) <;> simp

@[simp] theorem release_rse (e : Entry) (s : State) : (release e s).rse = s.rse := by
  unfold release; exact foldl_keeps (fun t => t.rse) _ (by intros; simp) _ _
@[simp] theorem release_sgq (e : Entry) (s : State) : (release e s).sgq = s.sgq := by
  unfold release; exact foldl_keeps (fun t => t.sgq) _ (by intros; simp) _ _
@[simp] theorem release_flk (e : Entry) (s : State) : (release e s).flk = s.flk := by
  unfold release; exact foldl_keeps (fun t => t.flk) _ (by intros; simp) _ _
@[simp] theorem release_pkp (e : Entry) (s : State) : (release e s).pkp = s.pkp := by
  unfold release; exact foldl_keeps (fun t => t.pkp) _ (by intros; simp) _ _
@[simp] theorem release_pgn (e : Entry) (s : State) : (release e s).pgn = s.pgn := by
  unfold release; exact foldl_keeps (fun t => t.pgn) _ (by intros; simp) _ _
@[simp] theorem release_plp (e : Entry) (s : State) : (release e s).plp = s.plp := by
  unfold release; exact foldl_keeps (fun t => t.plp) _ (by intros; simp) _ _
@[simp] theorem release_lsc (e : Entry) (s : State) : (release e s).lsc = s.lsc := by
  unfold release; exact foldl_keeps (fun t => t.lsc) _ (by intros; simp) _ _
@[simp] theorem release_wgd (e : Entry) (s : State) : (release e s).wgd = s.wgd := by
  unfold release; exact foldl_keeps (fun t => t.wgd) _ (by intros; simp) _ _
@[simp] theorem release_cpt (e : Entry) (s : State) : (release e s).cpt = s.cpt := by
  unfold release; exact foldl_keeps (fun t => t.cpt) _ (by intros; simp) _ _
@[simp] theorem release_act (e : Entry) (s : State) : (release e s).act = s.act := by
  unfold release; exact foldl_keeps (fun t => t.act) _ (by intros; simp) _ _
@[simp] theorem release_lines (e : Entry) (s : State) : (release e s).lines = s.lines := by
  unfold release; exact foldl_keeps (fun t => t.lines) _ (by intros; simp) _ _
@[simp] theorem release_pending (e : Entry) (s : State) : (release e s).pending = s.pending := by
  unfold release; exact foldl_keeps (fun t => t.pending) _ (by intros; simp) _ _

@[simp] theorem finishEntry_stb (o : DoneOutcome) (e : Entry) (s : State) : (finishEntry o e s).stb = s.stb := by unfold finishEntry; split <;> simp
@[simp] theorem finishEntry_mst (o : DoneOutcome) (e : Entry) (s : State) : (finishEntry o e s).mst = s.mst := by unfold finishEntry; split <;> simp
@[simp] theorem finishEntry_pkp (o : DoneOutcome) (e : Entry) (s : State) : (finishEntry o e s).pkp = s.pkp := by unfold finishEntry; split <;> simp
@[simp] theorem finishEntry_pgn (o : DoneOutcome) (e : Entry) (s : State) : (finishEntry o e s).pgn = s.pgn := by unfold finishEntry; split <;> simp
@[simp] theorem finishEntry_plp (o : DoneOutcome) (e : Entry) (s : State) : (finishEntry o e s).plp = s.plp := by unfold finishEntry; split <;> simp
@[simp] theorem finishEntry_lsc (o : DoneOutcome) (e : Entry) (s : State) : (finishEntry o e s).lsc = s.lsc := by unfold finishEntry; split <;> simp
@[simp] theorem finishEntry_wgd (o : DoneOutcome) (e : Entry) (s : State) : (finishEntry o e s).wgd = s.wgd := by unfold finishEntry; split <;> simp
@[simp] theorem finishEntry_lines (o : DoneOutcome) (e : Entry) (s : State) : (finishEntry o e s).lines = s.lines := by unfold finishEntry; split <;> simp
@[simp] theorem finishEntry_pending (o : DoneOutcome) (e : Entry) (s : State) : (finishEntry o e s).pending = s.pending := by unfold finishEntry; split <;> simp
@[simp] theorem finishEntry_port (o : DoneOutcome) (e : Entry) (s : State) : (finishEntry o e s).cpt.port = s.cpt.port := by unfold finishEntry; split <;> simp
@[simp] theorem finishEntry_busyReply (o : DoneOutcome) (e : Entry) (s : State) : (finishEntry o e s).cpt.busyReply = s.cpt.busyReply := by unfold finishEntry; split <;> simp
@[simp] theorem finishEntry_reading (o : DoneOutcome) (e : Entry) (s : State) : (finishEntry o e s).cpt.reading = s.cpt.reading := by unfold finishEntry; split <;> simp
@[simp] theorem finishEntry_writing (o : DoneOutcome) (e : Entry) (s : State) : (finishEntry o e s).cpt.writing = s.cpt.writing := by unfold finishEntry; split <;> simp
@[simp] theorem finishEntry_spiOut (o : DoneOutcome) (e : Entry) (s : State) : (finishEntry o e s).cpt.spiOut = s.cpt.spiOut := by unfold finishEntry; split <;> simp
@[simp] theorem finishEntry_settings (o : DoneOutcome) (e : Entry) (s : State) : (finishEntry o e s).cpt.settings = s.cpt.settings := by unfold finishEntry; split <;> simp
@[simp] theorem finishEntry_lastReset (o : DoneOutcome) (e : Entry) (s : State) : (finishEntry o e s).cpt.lastReset = s.cpt.lastReset := by unfold finishEntry; split <;> simp

@[simp] theorem endEntry_pkp (o : DoneOutcome) (e : Entry) (s : State) : (endEntry o e s).pkp = s.pkp := by simp [endEntry]
@[simp] theorem endEntry_pgn (o : DoneOutcome) (e : Entry) (s : State) : (endEntry o e s).pgn = s.pgn := by simp [endEntry]
@[simp] theorem endEntry_plp (o : DoneOutcome) (e : Entry) (s : State) : (endEntry o e s).plp = s.plp := by simp [endEntry]
@[simp] theorem endEntry_lsc (o : DoneOutcome) (e : Entry) (s : State) : (endEntry o e s).lsc = s.lsc := by simp [endEntry]
@[simp] theorem endEntry_wgd (o : DoneOutcome) (e : Entry) (s : State) : (endEntry o e s).wgd = s.wgd := by simp [endEntry]
@[simp] theorem endEntry_lines (o : DoneOutcome) (e : Entry) (s : State) : (endEntry o e s).lines = s.lines := by simp [endEntry]
@[simp] theorem endEntry_pending (o : DoneOutcome) (e : Entry) (s : State) : (endEntry o e s).pending = s.pending := by simp [endEntry]
@[simp] theorem endEntry_port (o : DoneOutcome) (e : Entry) (s : State) : (endEntry o e s).cpt.port = s.cpt.port := by simp [endEntry]
@[simp] theorem endEntry_busyReply (o : DoneOutcome) (e : Entry) (s : State) : (endEntry o e s).cpt.busyReply = s.cpt.busyReply := by simp [endEntry]
@[simp] theorem endEntry_reading (o : DoneOutcome) (e : Entry) (s : State) : (endEntry o e s).cpt.reading = s.cpt.reading := by simp [endEntry]
@[simp] theorem endEntry_writing (o : DoneOutcome) (e : Entry) (s : State) : (endEntry o e s).cpt.writing = s.cpt.writing := by simp [endEntry]
@[simp] theorem endEntry_spiOut (o : DoneOutcome) (e : Entry) (s : State) : (endEntry o e s).cpt.spiOut = s.cpt.spiOut := by simp [endEntry]
@[simp] theorem endEntry_settings (o : DoneOutcome) (e : Entry) (s : State) : (endEntry o e s).cpt.settings = s.cpt.settings := by simp [endEntry]
@[simp] theorem endEntry_lastReset (o : DoneOutcome) (e : Entry) (s : State) : (endEntry o e s).cpt.lastReset = s.cpt.lastReset := by simp [endEntry]

@[simp] theorem addTally_mst (i n : Nat) (s : State) : (addTally i n s).mst = s.mst := by unfold addTally; dsimp only; (repeat' split) <;> simp
@[simp] theorem addTally_rse (i n : Nat) (s : State) : (addTally i n s).rse = s.rse := by unfold addTally; dsimp only; (repeat' split) <;> simp
@[simp] theorem addTally_sgq (i n : Nat) (s : State) : (addTally i n s).sgq = s.sgq := by unfold addTally; dsimp only; (repeat' split) <;> simp
@[simp] theorem addTally_flk (i n : Nat) (s : State) : (addTally i n s).flk = s.flk := by unfold addTally; dsimp only; (repeat' split) <;> simp
@[simp] theorem addTally_pkp (i n : Nat) (s : State) : (addTally i n s).pkp = s.pkp := by unfold addTally; dsimp only; (repeat' split) <;> simp
@[simp] theorem addTally_pgn (i n : Nat) (s : State) : (addTally i n s).pgn = s.pgn := by unfold addTally; dsimp only; (repeat' split) <;> simp
@[simp] theorem addTally_plp (i n : Nat) (s : State) : (addTally i n s).plp = s.plp := by unfold addTally; dsimp only; (repeat' split) <;> simp
@[simp] theorem addTally_lsc (i n : Nat) (s : State) : (addTally i n s).lsc = s.lsc := by unfold addTally; dsimp only; (repeat' split) <;> simp
@[simp] theorem addTally_wgd (i n : Nat) (s : State) : (addTally i n s).wgd = s.wgd := by unfold addTally; dsimp only; (repeat' split) <;> simp
@[simp] theorem addTally_act (i n : Nat) (s : State) : (addTally i n s).act = s.act := by unfold addTally; dsimp only; (repeat' split) <;> simp
@[simp] theorem addTally_lines (i n : Nat) (s : State) : (addTally i n s).lines = s.lines := by unfold addTally; dsimp only; (repeat' split) <;> simp
@[simp] theorem addTally_pending (i n : Nat) (s : State) : (addTally i n s).pending = s.pending := by unfold addTally; dsimp only; (repeat' split) <;> simp
@[simp] theorem addTally_port (i n : Nat) (s : State) : (addTally i n s).cpt.port = s.cpt.port := by unfold addTally; dsimp only; (repeat' split) <;> simp
@[simp] theorem addTally_busyReply (i n : Nat) (s : State) : (addTally i n s).cpt.busyReply = s.cpt.busyReply := by unfold addTally; dsimp only; (repeat' split) <;> simp
@[simp] theorem addTally_reading (i n : Nat) (s : State) : (addTally i n s).cpt.reading = s.cpt.reading := by unfold addTally; dsimp only; (repeat' split) <;> simp
@[simp] theorem addTally_writing (i n : Nat) (s : State) : (addTally i n s).cpt.writing = s.cpt.writing := by unfold addTally; dsimp only; (repeat' split) <;> simp
@[simp] theorem addTally_spiOut (i n : Nat) (s : State) : (addTally i n s).cpt.spiOut = s.cpt.spiOut := by unfold addTally; dsimp only; (repeat' split) <;> simp
@[simp] theorem addTally_settings (i n : Nat) (s : State) : (addTally i n s).cpt.settings = s.cpt.settings := by unfold addTally; dsimp only; (repeat' split) <;> simp
@[simp] theorem addTally_lastReset (i n : Nat) (s : State) : (addTally i n s).cpt.lastReset = s.cpt.lastReset := by unfold addTally; dsimp only; (repeat' split) <;> simp

@[simp] theorem storeCorrection_mst (h : Handle) (c : Int) (l : Bool) (s : State) : (storeCorrection h c l s).mst = s.mst := by unfold storeCorrection; dsimp only; (repeat' split) <;> simp
@[simp] theorem storeCorrection_rse (h : Handle) (c : Int) (l : Bool) (s : State) : (storeCorrection h c l s).rse = s.rse := by unfold storeCorrection; dsimp only; (repeat' split) <;> simp
@[simp] theorem storeCorrection_sgq (h : Handle) (c : Int) (l : Bool) (s : State) : (storeCorrection h c l s).sgq = s.sgq := by unfold storeCorrection; dsimp only; (repeat' split) <;> simp
@[simp] theorem storeCorrection_flk (h : Handle) (c : Int) (l : Bool) (s : State) : (storeCorrection h c l s).flk = s.flk := by unfold storeCorrection; dsimp only; (repeat' split) <;> simp
@[simp] theorem storeCorrection_pkp (h : Handle) (c : Int) (l : Bool) (s : State) : (storeCorrection h c l s).pkp = s.pkp := by unfold storeCorrection; dsimp only; (repeat' split) <;> simp
@[simp] theorem storeCorrection_pgn (h : Handle) (c : Int) (l : Bool) (s : State) : (storeCorrection h c l s).pgn = s.pgn := by unfold storeCorrection; dsimp only; (repeat' split) <;> simp
@[simp] theorem storeCorrection_plp (h : Handle) (c : Int) (l : Bool) (s : State) : (storeCorrection h c l s).plp = s.plp := by unfold storeCorrection; dsimp only; (repeat' split) <;> simp
@[simp] theorem storeCorrection_lsc (h : Handle) (c : Int) (l : Bool) (s : State) : (storeCorrection h c l s).lsc = s.lsc := by unfold storeCorrection; dsimp only; (repeat' split) <;> simp
@[simp] theorem storeCorrection_wgd (h : Handle) (c : Int) (l : Bool) (s : State) : (storeCorrection h c l s).wgd = s.wgd := by unfold storeCorrection; dsimp only; (repeat' split) <;> simp
@[simp] theorem storeCorrection_act (h : Handle) (c : Int) (l : Bool) (s : State) : (storeCorrection h c l s).act = s.act := by unfold storeCorrection; dsimp only; (repeat' split) <;> simp
@[simp] theorem storeCorrection_lines (h : Handle) (c : Int) (l : Bool) (s : State) : (storeCorrection h c l s).lines = s.lines := by unfold storeCorrection; dsimp only; (repeat' split) <;> simp
@[simp] theorem storeCorrection_pending (h : Handle) (c : Int) (l : Bool) (s : State) : (storeCorrection h c l s).pending = s.pending := by unfold storeCorrection; dsimp only; (repeat' split) <;> simp
@[simp] theorem storeCorrection_port (h : Handle) (c : Int) (l : Bool) (s : State) : (storeCorrection h c l s).cpt.port = s.cpt.port := by unfold storeCorrection; dsimp only; (repeat' split) <;> simp
@[simp] theorem storeCorrection_busyReply (h : Handle) (c : Int) (l : Bool) (s : State) : (storeCorrection h c l s).cpt.busyReply = s.cpt.busyReply := by unfold storeCorrection; dsimp only; (repeat' split) <;> simp
@[simp] theorem storeCorrection_reading (h : Handle) (c : Int) (l : Bool) (s : State) : (storeCorrection h c l s).cpt.reading = s.cpt.reading := by unfold storeCorrection; dsimp only; (repeat' split) <;> simp
@[simp] theorem storeCorrection_writing (h : Handle) (c : Int) (l : Bool) (s : State) : (storeCorrection h c l s).cpt.writing = s.cpt.writing := by unfold storeCorrection; dsimp only; (repeat' split) <;> simp
@[simp] theorem storeCorrection_spiOut (h : Handle) (c : Int) (l : Bool) (s : State) : (storeCorrection h c l s).cpt.spiOut = s.cpt.spiOut := by unfold storeCorrection; dsimp only; (repeat' split) <;> simp
@[simp] theorem storeCorrection_settings (h : Handle) (c : Int) (l : Bool) (s : State) : (storeCorrection h c l s).cpt.settings = s.cpt.settings := by unfold storeCorrection; dsimp only; (repeat' split) <;> simp
@[simp] theorem storeCorrection_lastReset (h : Handle) (c : Int) (l : Bool) (s : State) : (storeCorrection h c l s).cpt.lastReset = s.cpt.lastReset := by unfold storeCorrection; dsimp only; (repeat' split) <;> simp

@[simp] theorem partialWriteBack_rse (wc : WorkingCopy) (s : State) : (partialWriteBack wc s).rse = s.rse := by
  unfold partialWriteBack; exact foldl_keeps (fun t => t.rse) _ (by intros; simp) _ _
@[simp] theorem partialWriteBack_sgq (wc : WorkingCopy) (s : State) : (partialWriteBack wc s).sgq = s.sgq := by
  unfold partialWriteBack; exact foldl_keeps (fun t => t.sgq) _ (by intros; simp) _ _
@[simp] theorem partialWriteBack_flk (wc : WorkingCopy) (s : State) : (partialWriteBack wc s).flk = s.flk := by
  unfold partialWriteBack; exact foldl_keeps (fun t => t.flk) _ (by intros; simp) _ _
@[simp] theorem partialWriteBack_pkp (wc : WorkingCopy) (s : State) : (partialWriteBack wc s).pkp = s.pkp := by
  unfold partialWriteBack; exact foldl_keeps (fun t => t.pkp) _ (by intros; simp) _ _
@[simp] theorem partialWriteBack_pgn (wc : WorkingCopy) (s : State) : (partialWriteBack wc s).pgn = s.pgn := by
  unfold partialWriteBack; exact foldl_keeps (fun t => t.pgn) _ (by intros; simp) _ _
@[simp] theorem partialWriteBack_plp (wc : WorkingCopy) (s : State) : (partialWriteBack wc s).plp = s.plp := by
  unfold partialWriteBack; exact foldl_keeps (fun t => t.plp) _ (by intros; simp) _ _
@[simp] theorem partialWriteBack_lsc (wc : WorkingCopy) (s : State) : (partialWriteBack wc s).lsc = s.lsc := by
  unfold partialWriteBack; exact foldl_keeps (fun t => t.lsc) _ (by intros; simp) _ _
@[simp] theorem partialWriteBack_wgd (wc : WorkingCopy) (s : State) : (partialWriteBack wc s).wgd = s.wgd := by
  unfold partialWriteBack; exact foldl_keeps (fun t => t.wgd) _ (by intros; simp) _ _
@[simp] theorem partialWriteBack_act (wc : WorkingCopy) (s : State) : (partialWriteBack wc s).act = s.act := by
  unfold partialWriteBack; exact foldl_keeps (fun t => t.act) _ (by intros; simp) _ _
@[simp] theorem partialWriteBack_lines (wc : WorkingCopy) (s : State) : (partialWriteBack wc s).lines = s.lines := by
  unfold partialWriteBack; exact foldl_keeps (fun t => t.lines) _ (by intros; simp) _ _
@[simp] theorem partialWriteBack_pending (wc : WorkingCopy) (s : State) : (partialWriteBack wc s).pending = s.pending := by
  unfold partialWriteBack; exact foldl_keeps (fun t => t.pending) _ (by intros; simp) _ _
@[simp] theorem partialWriteBack_port (wc : WorkingCopy) (s : State) : (partialWriteBack wc s).cpt.port = s.cpt.port := by
  unfold partialWriteBack; exact foldl_keeps (fun t => t.cpt.port) _ (by intros; simp) _ _
@[simp] theorem partialWriteBack_busyReply (wc : WorkingCopy) (s : State) : (partialWriteBack wc s).cpt.busyReply = s.cpt.busyReply := by
  unfold partialWriteBack; exact foldl_keeps (fun t => t.cpt.busyReply) _ (by intros; simp) _ _
@[simp] theorem partialWriteBack_reading (wc : WorkingCopy) (s : State) : (partialWriteBack wc s).cpt.reading = s.cpt.reading := by
  unfold partialWriteBack; exact foldl_keeps (fun t => t.cpt.reading) _ (by intros; simp) _ _
@[simp] theorem partialWriteBack_writing (wc : WorkingCopy) (s : State) : (partialWriteBack wc s).cpt.writing = s.cpt.writing := by
  unfold partialWriteBack; exact foldl_keeps (fun t => t.cpt.writing) _ (by intros; simp) _ _
@[simp] theorem partialWriteBack_spiOut (wc : WorkingCopy) (s : State) : (partialWriteBack wc s).cpt.spiOut = s.cpt.spiOut := by
  unfold partialWriteBack; exact foldl_keeps (fun t => t.cpt.spiOut) _ (by intros; simp) _ _
@[simp] theorem partialWriteBack_settings (wc : WorkingCopy) (s : State) : (partialWriteBack wc s).cpt.settings = s.cpt.settings := by
  unfold partialWriteBack; exact foldl_keeps (fun t => t.cpt.settings) _ (by intros; simp) _ _
@[simp] theorem partialWriteBack_lastReset (wc : WorkingCopy) (s : State) : (partialWriteBack wc s).cpt.lastReset = s.cpt.lastReset := by
  unfold partialWriteBack; exact foldl_keeps (fun t => t.cpt.lastReset) _ (by intros; simp) _ _

@[simp] theorem fullWriteBack_rse (wc : WorkingCopy) (l : Bool) (s : State) : (fullWriteBack wc l s).rse = s.rse := by
  unfold fullWriteBack; exact foldl_keeps (fun t => t.rse) _ (by intros; dsimp only; split <;> simp) _ _
@[simp] theorem fullWriteBack_sgq (wc : WorkingCopy) (l : Bool) (s : State) : (fullWriteBack wc l s).sgq = s.sgq := by
  unfold fullWriteBack; exact foldl_keeps (fun t => t.sgq) _ (by intros; dsimp only; split <;> simp) _ _
@[simp] theorem fullWriteBack_flk (wc : WorkingCopy) (l : Bool) (s : State) : (fullWriteBack wc l s).flk = s.flk := by
  unfold fullWriteBack; exact foldl_keeps (fun t => t.flk) _ (by intros; dsimp only; split <;> simp) _ _
@[simp] theorem fullWriteBack_pkp (wc : WorkingCopy) (l : Bool) (s : State) : (fullWriteBack wc l s).pkp = s.pkp := by
  unfold fullWriteBack; exact foldl_keeps (fun t => t.pkp) _ (by intros; dsimp only; split <;> simp) _ _
@[simp] theorem fullWriteBack_pgn (wc : WorkingCopy) (l : Bool) (s : State) : (fullWriteBack wc l s).pgn = s.pgn := by
  unfold fullWriteBack; exact foldl_keeps (fun t => t.pgn) _ (by intros; dsimp only; split <;> simp) _ _
@[simp] theorem fullWriteBack_plp (wc : WorkingCopy) (l : Bool) (s : State) : (fullWriteBack wc l s).plp = s.plp := by
  unfold fullWriteBack; exact foldl_keeps (fun t => t.plp) _ (by intros; dsimp only; split <;> simp) _ _
@[simp] theorem fullWriteBack_lsc (wc : WorkingCopy) (l : Bool) (s : State) : (fullWriteBack wc l s).lsc = s.lsc := by
  unfold fullWriteBack; exact foldl_keeps (fun t => t.lsc) _ (by intros; dsimp only; split <;> simp) _ _
@[simp] theorem fullWriteBack_wgd (wc : WorkingCopy) (l : Bool) (s : State) : (fullWriteBack wc l s).wgd = s.wgd := by
  unfold fullWriteBack; exact foldl_keeps (fun t => t.wgd) _ (by intros; dsimp only; split <;> simp) _ _
@[simp] theorem fullWriteBack_act (wc : WorkingCopy) (l : Bool) (s : State) : (fullWriteBack wc l s).act = s.act := by
  unfold fullWriteBack; exact foldl_keeps (fun t => t.act) _ (by intros; dsimp only; split <;> simp) _ _
@[simp] theorem fullWriteBack_lines (wc : WorkingCopy) (l : Bool) (s : State) : (fullWriteBack wc l s).lines = s.lines := by
  unfold fullWriteBack; exact foldl_keeps (fun t => t.lines) _ (by intros; dsimp only; split <;> simp) _ _
@[simp] theorem fullWriteBack_pending (wc : WorkingCopy) (l : Bool) (s : State) : (fullWriteBack wc l s).pending = s.pending := by
  unfold fullWriteBack; exact foldl_keeps (fun t => t.pending) _ (by intros; dsimp only; split <;> simp) _ _
@[simp] theorem fullWriteBack_port (wc : WorkingCopy) (l : Bool) (s : State) : (fullWriteBack wc l s).cpt.port = s.cpt.port := by
  unfold fullWriteBack; exact foldl_keeps (fun t => t.cpt.port) _ (by intros; dsimp only; split <;> simp) _ _
@[simp] theorem fullWriteBack_busyReply (wc : WorkingCopy) (l : Bool) (s : State) : (fullWriteBack wc l s).cpt.busyReply = s.cpt.busyReply := by
  unfold fullWriteBack; exact foldl_keeps (fun t => t.cpt.busyReply) _ (by intros; dsimp only; split <;> simp) _ _
@[simp] theorem fullWriteBack_reading (wc : WorkingCopy) (l : Bool) (s : State) : (fullWriteBack wc l s).cpt.reading = s.cpt.reading := by
  unfold fullWriteBack; exact foldl_keeps (fun t => t.cpt.reading) _ (by intros; dsimp only; split <;> simp) _ _
@[simp] theorem fullWriteBack_writing (wc : WorkingCopy) (l : Bool) (s : State) : (fullWriteBack wc l s).cpt.writing = s.cpt.writing := by
  unfold fullWriteBack; exact foldl_keeps (fun t => t.cpt.writing) _ (by intros; dsimp only; split <;> simp) _ _
@[simp] theorem fullWriteBack_spiOut (wc : WorkingCopy) (l : Bool) (s : State) : (fullWriteBack wc l s).cpt.spiOut = s.cpt.spiOut := by
  unfold fullWriteBack; exact foldl_keeps (fun t => t.cpt.spiOut) _ (by intros; dsimp only; split <;> simp) _ _
@[simp] theorem fullWriteBack_settings (wc : WorkingCopy) (l : Bool) (s : State) : (fullWriteBack wc l s).cpt.settings = s.cpt.settings := by
  unfold fullWriteBack; exact foldl_keeps (fun t => t.cpt.settings) _ (by intros; dsimp only; split <;> simp) _ _
@[simp] theorem fullWriteBack_lastReset (wc : WorkingCopy) (l : Bool) (s : State) : (fullWriteBack wc l s).cpt.lastReset = s.cpt.lastReset := by
  unfold fullWriteBack; exact foldl_keeps (fun t => t.cpt.lastReset) _ (by intros; dsimp only; split <;> simp) _ _

@[simp] theorem endActiveWrite_pkp (o : DoneOutcome) (wc : WorkingCopy) (e : Entry) (s : State) : (endActiveWrite o wc e s).pkp = s.pkp := by simp [endActiveWrite]
@[simp] theorem endActiveWrite_pgn (o : DoneOutcome) (wc : WorkingCopy) (e : Entry) (s : State) : (endActiveWrite o wc e s).pgn = s.pgn := by simp [endActiveWrite]
@[simp] theorem endActiveWrite_plp (o : DoneOutcome) (wc : WorkingCopy) (e : Entry) (s : State) : (endActiveWrite o wc e s).plp = s.plp := by simp [endActiveWrite]
@[simp] theorem endActiveWrite_lsc (o : DoneOutcome) (wc : WorkingCopy) (e : Entry) (s : State) : (endActiveWrite o wc e s).lsc = s.lsc := by simp [endActiveWrite]
@[simp] theorem endActiveWrite_wgd (o : DoneOutcome) (wc : WorkingCopy) (e : Entry) (s : State) : (endActiveWrite o wc e s).wgd = s.wgd := by simp [endActiveWrite]
@[simp] theorem endActiveWrite_lines (o : DoneOutcome) (wc : WorkingCopy) (e : Entry) (s : State) : (endActiveWrite o wc e s).lines = s.lines := by simp [endActiveWrite]
@[simp] theorem endActiveWrite_pending (o : DoneOutcome) (wc : WorkingCopy) (e : Entry) (s : State) : (endActiveWrite o wc e s).pending = s.pending := by simp [endActiveWrite]
@[simp] theorem endActiveWrite_port (o : DoneOutcome) (wc : WorkingCopy) (e : Entry) (s : State) : (endActiveWrite o wc e s).cpt.port = s.cpt.port := by simp [endActiveWrite]
@[simp] theorem endActiveWrite_busyReply (o : DoneOutcome) (wc : WorkingCopy) (e : Entry) (s : State) : (endActiveWrite o wc e s).cpt.busyReply = s.cpt.busyReply := by simp [endActiveWrite]
@[simp] theorem endActiveWrite_reading (o : DoneOutcome) (wc : WorkingCopy) (e : Entry) (s : State) : (endActiveWrite o wc e s).cpt.reading = s.cpt.reading := by simp [endActiveWrite]
@[simp] theorem endActiveWrite_writing (o : DoneOutcome) (wc : WorkingCopy) (e : Entry) (s : State) : (endActiveWrite o wc e s).cpt.writing = s.cpt.writing := by simp [endActiveWrite]
@[simp] theorem endActiveWrite_spiOut (o : DoneOutcome) (wc : WorkingCopy) (e : Entry) (s : State) : (endActiveWrite o wc e s).cpt.spiOut = s.cpt.spiOut := by simp [endActiveWrite]
@[simp] theorem endActiveWrite_settings (o : DoneOutcome) (wc : WorkingCopy) (e : Entry) (s : State) : (endActiveWrite o wc e s).cpt.settings = s.cpt.settings := by simp [endActiveWrite]
@[simp] theorem endActiveWrite_lastReset (o : DoneOutcome) (wc : WorkingCopy) (e : Entry) (s : State) : (endActiveWrite o wc e s).cpt.lastReset = s.cpt.lastReset := by simp [endActiveWrite]

@[simp] theorem flushEntry_pkp (o : DoneOutcome) (s : State) (e : Entry) : (flushEntry o s e).pkp = s.pkp := by unfold flushEntry; (repeat' split) <;> simp
@[simp] theorem flushEntry_pgn (o : DoneOutcome) (s : State) (e : Entry) : (flushEntry o s e).pgn = s.pgn := by unfold flushEntry; (repeat' split) <;> simp
@[simp] theorem flushEntry_plp (o : DoneOutcome) (s : State) (e : Entry) : (flushEntry o s e).plp = s.plp := by unfold flushEntry; (repeat' split) <;> simp
@[simp] theorem flushEntry_lsc (o : DoneOutcome) (s : State) (e : Entry) : (flushEntry o s e).lsc = s.lsc := by unfold flushEntry; (repeat' split) <;> simp
@[simp] theorem flushEntry_wgd (o : DoneOutcome) (s : State) (e : Entry) : (flushEntry o s e).wgd = s.wgd := by unfold flushEntry; (repeat' split) <;> simp
@[simp] theorem flushEntry_lines (o : DoneOutcome) (s : State) (e : Entry) : (flushEntry o s e).lines = s.lines := by unfold flushEntry; (repeat' split) <;> simp
@[simp] theorem flushEntry_pending (o : DoneOutcome) (s : State) (e : Entry) : (flushEntry o s e).pending = s.pending := by unfold flushEntry; (repeat' split) <;> simp
@[simp] theorem flushEntry_port (o : DoneOutcome) (s : State) (e : Entry) : (flushEntry o s e).cpt.port = s.cpt.port := by unfold flushEntry; (repeat' split) <;> simp
@[simp] theorem flushEntry_busyReply (o : DoneOutcome) (s : State) (e : Entry) : (flushEntry o s e).cpt.busyReply = s.cpt.busyReply := by unfold flushEntry; (repeat' split) <;> simp
@[simp] theorem flushEntry_reading (o : DoneOutcome) (s : State) (e : Entry) : (flushEntry o s e).cpt.reading = s.cpt.reading := by unfold flushEntry; (repeat' split) <;> simp
@[simp] theorem flushEntry_writing (o : DoneOutcome) (s : State) (e : Entry) : (flushEntry o s e).cpt.writing = s.cpt.writing := by unfold flushEntry; (repeat' split) <;> simp
@[simp] theorem flushEntry_spiOut (o : DoneOutcome) (s : State) (e : Entry) : (flushEntry o s e).cpt.spiOut = s.cpt.spiOut := by unfold flushEntry; (repeat' split) <;> simp
@[simp] theorem flushEntry_settings (o : DoneOutcome) (s : State) (e : Entry) : (flushEntry o s e).cpt.settings = s.cpt.settings := by unfold flushEntry; (repeat' split) <;> simp
@[simp] theorem flushEntry_lastReset (o : DoneOutcome) (s : State) (e : Entry) : (flushEntry o s e).cpt.lastReset = s.cpt.lastReset := by unfold flushEntry; (repeat' split) <;> simp

@[simp] theorem flush_pkp (o : DoneOutcome) (s : State) : (flush o s).pkp = s.pkp := by
  unfold flush; exact foldl_keeps (fun t => t.pkp) _ (by intros; simp) _ _
@[simp] theorem flush_pgn (o : DoneOutcome) (s : State) : (flush o s).pgn = s.pgn := by
  unfold flush; exact foldl_keeps (fun t => t.pgn) _ (by intros; simp) _ _
@[simp] theorem flush_plp (o : DoneOutcome) (s : State) : (flush o s).plp = s.plp := by
  unfold flush; exact foldl_keeps (fun t => t.plp) _ (by intros; simp) _ _
@[simp] theorem flush_lsc (o : DoneOutcome) (s : State) : (flush o s).lsc = s.lsc := by
  unfold flush; exact foldl_keeps (fun t => t.lsc) _ (by intros; simp) _ _
@[simp] theorem flush_wgd (o : DoneOutcome) (s : State) : (flush o s).wgd = s.wgd := by
  unfold flush; exact foldl_keeps (fun t => t.wgd) _ (by intros; simp) _ _
@[simp] theorem flush_lines (o : DoneOutcome) (s : State) : (flush o s).lines = s.lines := by
  unfold flush; exact foldl_keeps (fun t => t.lines) _ (by intros; simp) _ _
@[simp] theorem flush_pending (o : DoneOutcome) (s : State) : (flush o s).pending = s.pending := by
  unfold flush; exact foldl_keeps (fun t => t.pending) _ (by intros; simp) _ _
@[simp] theorem flush_port (o : DoneOutcome) (s : State) : (flush o s).cpt.port = s.cpt.port := by
  unfold flush; exact foldl_keeps (fun t => t.cpt.port) _ (by intros; simp) _ _
@[simp] theorem flush_busyReply (o : DoneOutcome) (s : State) : (flush o s).cpt.busyReply = s.cpt.busyReply := by
  unfold flush; exact foldl_keeps (fun t => t.cpt.busyReply) _ (by intros; simp) _ _
@[simp] theorem flush_reading (o : DoneOutcome) (s : State) : (flush o s).cpt.reading = s.cpt.reading := by
  unfold flush; exact foldl_keeps (fun t => t.cpt.reading) _ (by intros; simp) _ _
@[simp] theorem flush_writing (o : DoneOutcome) (s : State) : (flush o s).cpt.writing = s.cpt.writing := by
  unfold flush; exact foldl_keeps (fun t => t.cpt.writing) _ (by intros; simp) _ _
@[simp] theorem flush_spiOut (o : DoneOutcome) (s : State) : (flush o s).cpt.spiOut = s.cpt.spiOut := by
  unfold flush; exact foldl_keeps (fun t => t.cpt.spiOut) _ (by intros; simp) _ _
@[simp] theorem flush_settings (o : DoneOutcome) (s : State) : (flush o s).cpt.settings = s.cpt.settings := by
  unfold flush; exact foldl_keeps (fun t => t.cpt.settings) _ (by intros; simp) _ _
@[simp] theorem flush_lastReset (o : DoneOutcome) (s : State) : (flush o s).cpt.lastReset = s.cpt.lastReset := by
  unfold flush; exact foldl_keeps (fun t => t.cpt.lastReset) _ (by intros; simp) _ _

@[simp] theorem armHead_stb (e : Entry) (s : State) : (armHead e s).stb = s.stb := by simp [armHead]
@[simp] theorem armHead_mst (e : Entry) (s : State) : (armHead e s).mst = s.mst := by simp [armHead]
@[simp] theorem armHead_rse (e : Entry) (s : State) : (armHead e s).rse = s.rse := by simp [armHead]
@[simp] theorem armHead_pkp (e : Entry) (s : State) : (armHead e s).pkp = s.pkp := by simp [armHead]
@[simp] theorem armHead_pgn (e : Entry) (s : State) : (armHead e s).pgn = s.pgn := by simp [armHead]
@[simp] theorem armHead_plp (e : Entry) (s : State) : (armHead e s).plp = s.plp := by simp [armHead]
@[simp] theorem armHead_lsc (e : Entry) (s : State) : (armHead e s).lsc = s.lsc := by simp [armHead]
@[simp] theorem armHead_wgd (e : Entry) (s : State) : (armHead e s).wgd = s.wgd := by simp [armHead]
@[simp] theorem armHead_act (e : Entry) (s : State) : (armHead e s).act = s.act := by simp [armHead]
@[simp] theorem armHead_lines (e : Entry) (s : State) : (armHead e s).lines = s.lines := by simp [armHead]
@[simp] theorem armHead_pending (e : Entry) (s : State) : (armHead e s).pending = s.pending := by simp [armHead]
@[simp] theorem armHead_port (e : Entry) (s : State) : (armHead e s).cpt.port = s.cpt.port := by simp [armHead]
@[simp] theorem armHead_busyReply (e : Entry) (s : State) : (armHead e s).cpt.busyReply = s.cpt.busyReply := by simp [armHead]
@[simp] theorem armHead_reading (e : Entry) (s : State) : (armHead e s).cpt.reading = s.cpt.reading := by simp [armHead]
@[simp] theorem armHead_writing (e : Entry) (s : State) : (armHead e s).cpt.writing = s.cpt.writing := by simp [armHead]
@[simp] theorem armHead_spiOut (e : Entry) (s : State) : (armHead e s).cpt.spiOut = s.cpt.spiOut := by simp [armHead]
@[simp] theorem armHead_settings (e : Entry) (s : State) : (armHead e s).cpt.settings = s.cpt.settings := by simp [armHead]
@[simp] theorem armHead_lastReset (e : Entry) (s : State) : (armHead e s).cpt.lastReset = s.cpt.lastReset := by simp [armHead]

@[simp] theorem advance_pgn (n : Nat) (s : State) : (advance n s).pgn = s.pgn := by
  induction n generalizing s with
  | zero => rfl
  | succ n ih =>
    unfold advance judgeHead; (repeat' split) <;> simp [ih]
@[simp] theorem advance_plp (n : Nat) (s : State) : (advance n s).plp = s.plp := by
  induction n generalizing s with
  | zero => rfl
  | succ n ih =>
    unfold advance judgeHead; (repeat' split) <;> simp [ih]
@[simp] theorem advance_lsc (n : Nat) (s : State) : (advance n s).lsc = s.lsc := by
  induction n generalizing s with
  | zero => rfl
  | succ n ih =>
    unfold advance judgeHead; (repeat' split) <;> simp [ih]
@[simp] theorem advance_wgd (n : Nat) (s : State) : (advance n s).wgd = s.wgd := by
  induction n generalizing s with
  | zero => rfl
  | succ n ih =>
    unfold advance judgeHead; (repeat' split) <;> simp [ih]
@[simp] theorem advance_lines (n : Nat) (s : State) : (advance n s).lines = s.lines := by
  induction n generalizing s with
  | zero => rfl
  | succ n ih =>
    unfold advance judgeHead; (repeat' split) <;> simp [ih]
@[simp] theorem advance_pending (n : Nat) (s : State) : (advance n s).pending = s.pending := by
  induction n generalizing s with
  | zero => rfl
  | succ n ih =>
    unfold advance judgeHead; (repeat' split) <;> simp [ih]
@[simp] theorem advance_port (n : Nat) (s : State) : (advance n s).cpt.port = s.cpt.port := by
  induction n generalizing s with
  | zero => rfl
  | succ n ih =>
    unfold advance judgeHead; (repeat' split) <;> simp [ih]
@[simp] theorem advance_busyReply (n : Nat) (s : State) : (advance n s).cpt.busyReply = s.cpt.busyReply := by
  induction n generalizing s with
  | zero => rfl
  | succ n ih =>
    unfold advance judgeHead; (repeat' split) <;> simp [ih]
@[simp] theorem advance_reading (n : Nat) (s : State) : (advance n s).cpt.reading = s.cpt.reading := by
  induction n generalizing s with
  | zero => rfl
  | succ n ih =>
    unfold advance judgeHead; (repeat' split) <;> simp [ih]
@[simp] theorem advance_writing (n : Nat) (s : State) : (advance n s).cpt.writing = s.cpt.writing := by
  induction n generalizing s with
  | zero => rfl
  | succ n ih =>
    unfold advance judgeHead; (repeat' split) <;> simp [ih]
@[simp] theorem advance_spiOut (n : Nat) (s : State) : (advance n s).cpt.spiOut = s.cpt.spiOut := by
  induction n generalizing s with
  | zero => rfl
  | succ n ih =>
    unfold advance judgeHead; (repeat' split) <;> simp [ih]
@[simp] theorem advance_settings (n : Nat) (s : State) : (advance n s).cpt.settings = s.cpt.settings := by
  induction n generalizing s with
  | zero => rfl
  | succ n ih =>
    unfold advance judgeHead; (repeat' split) <;> simp [ih]
@[simp] theorem advance_lastReset (n : Nat) (s : State) : (advance n s).cpt.lastReset = s.cpt.lastReset := by
  induction n generalizing s with
  | zero => rfl
  | succ n ih =>
    unfold advance judgeHead; (repeat' split) <;> simp [ih]

@[simp] theorem goOn_pgn (s : State) : (goOn s).pgn = s.pgn := by simp [goOn]
@[simp] theorem goOn_plp (s : State) : (goOn s).plp = s.plp := by simp [goOn]
@[simp] theorem goOn_lsc (s : State) : (goOn s).lsc = s.lsc := by simp [goOn]
@[simp] theorem goOn_wgd (s : State) : (goOn s).wgd = s.wgd := by simp [goOn]
@[simp] theorem goOn_lines (s : State) : (goOn s).lines = s.lines := by simp [goOn]
@[simp] theorem goOn_pending (s : State) : (goOn s).pending = s.pending := by simp [goOn]
@[simp] theorem goOn_port (s : State) : (goOn s).cpt.port = s.cpt.port := by simp [goOn]
@[simp] theorem goOn_busyReply (s : State) : (goOn s).cpt.busyReply = s.cpt.busyReply := by simp [goOn]
@[simp] theorem goOn_reading (s : State) : (goOn s).cpt.reading = s.cpt.reading := by simp [goOn]
@[simp] theorem goOn_writing (s : State) : (goOn s).cpt.writing = s.cpt.writing := by simp [goOn]
@[simp] theorem goOn_spiOut (s : State) : (goOn s).cpt.spiOut = s.cpt.spiOut := by simp [goOn]
@[simp] theorem goOn_settings (s : State) : (goOn s).cpt.settings = s.cpt.settings := by simp [goOn]
@[simp] theorem goOn_lastReset (s : State) : (goOn s).cpt.lastReset = s.cpt.lastReset := by simp [goOn]

@[simp] theorem judgeAgain_pgn (s : State) : (judgeAgain s).pgn = s.pgn := by unfold judgeAgain judgeHead; (repeat' split) <;> simp
@[simp] theorem judgeAgain_plp (s : State) : (judgeAgain s).plp = s.plp := by unfold judgeAgain judgeHead; (repeat' split) <;> simp
@[simp] theorem judgeAgain_lsc (s : State) : (judgeAgain s).lsc = s.lsc := by unfold judgeAgain judgeHead; (repeat' split) <;> simp
@[simp] theorem judgeAgain_wgd (s : State) : (judgeAgain s).wgd = s.wgd := by unfold judgeAgain judgeHead; (repeat' split) <;> simp
@[simp] theorem judgeAgain_lines (s : State) : (judgeAgain s).lines = s.lines := by unfold judgeAgain judgeHead; (repeat' split) <;> simp
@[simp] theorem judgeAgain_pending (s : State) : (judgeAgain s).pending = s.pending := by unfold judgeAgain judgeHead; (repeat' split) <;> simp
@[simp] theorem judgeAgain_port (s : State) : (judgeAgain s).cpt.port = s.cpt.port := by unfold judgeAgain judgeHead; (repeat' split) <;> simp
@[simp] theorem judgeAgain_busyReply (s : State) : (judgeAgain s).cpt.busyReply = s.cpt.busyReply := by unfold judgeAgain judgeHead; (repeat' split) <;> simp
@[simp] theorem judgeAgain_reading (s : State) : (judgeAgain s).cpt.reading = s.cpt.reading := by unfold judgeAgain judgeHead; (repeat' split) <;> simp
@[simp] theorem judgeAgain_writing (s : State) : (judgeAgain s).cpt.writing = s.cpt.writing := by unfold judgeAgain judgeHead; (repeat' split) <;> simp
@[simp] theorem judgeAgain_spiOut (s : State) : (judgeAgain s).cpt.spiOut = s.cpt.spiOut := by unfold judgeAgain judgeHead; (repeat' split) <;> simp
@[simp] theorem judgeAgain_settings (s : State) : (judgeAgain s).cpt.settings = s.cpt.settings := by unfold judgeAgain judgeHead; (repeat' split) <;> simp
@[simp] theorem judgeAgain_lastReset (s : State) : (judgeAgain s).cpt.lastReset = s.cpt.lastReset := by unfold judgeAgain judgeHead; (repeat' split) <;> simp

@[simp] theorem arbiter_stb (s : State) : (arbiter s).stb = s.stb := by unfold arbiter; (repeat' split) <;> simp
@[simp] theorem arbiter_mst (s : State) : (arbiter s).mst = s.mst := by unfold arbiter; (repeat' split) <;> simp
@[simp] theorem arbiter_flk (s : State) : (arbiter s).flk = s.flk := by unfold arbiter; (repeat' split) <;> simp
@[simp] theorem arbiter_pkp (s : State) : (arbiter s).pkp = s.pkp := by unfold arbiter; (repeat' split) <;> simp
@[simp] theorem arbiter_pgn (s : State) : (arbiter s).pgn = s.pgn := by unfold arbiter; (repeat' split) <;> simp
@[simp] theorem arbiter_plp (s : State) : (arbiter s).plp = s.plp := by unfold arbiter; (repeat' split) <;> simp
@[simp] theorem arbiter_lsc (s : State) : (arbiter s).lsc = s.lsc := by unfold arbiter; (repeat' split) <;> simp
@[simp] theorem arbiter_wgd (s : State) : (arbiter s).wgd = s.wgd := by unfold arbiter; (repeat' split) <;> simp
@[simp] theorem arbiter_cpt (s : State) : (arbiter s).cpt = s.cpt := by unfold arbiter; (repeat' split) <;> simp
@[simp] theorem arbiter_act (s : State) : (arbiter s).act = s.act := by unfold arbiter; (repeat' split) <;> simp
@[simp] theorem arbiter_lines (s : State) : (arbiter s).lines = s.lines := by unfold arbiter; (repeat' split) <;> simp
@[simp] theorem arbiter_pending (s : State) : (arbiter s).pending = s.pending := by unfold arbiter; (repeat' split) <;> simp

@[simp] theorem sendBack_rse (s : State) (e : Entry) : (sendBack s e).rse = s.rse := by simp [sendBack]
@[simp] theorem sendBack_flk (s : State) (e : Entry) : (sendBack s e).flk = s.flk := by simp [sendBack]
@[simp] theorem sendBack_pkp (s : State) (e : Entry) : (sendBack s e).pkp = s.pkp := by simp [sendBack]
@[simp] theorem sendBack_pgn (s : State) (e : Entry) : (sendBack s e).pgn = s.pgn := by simp [sendBack]
@[simp] theorem sendBack_plp (s : State) (e : Entry) : (sendBack s e).plp = s.plp := by simp [sendBack]
@[simp] theorem sendBack_lsc (s : State) (e : Entry) : (sendBack s e).lsc = s.lsc := by simp [sendBack]
@[simp] theorem sendBack_wgd (s : State) (e : Entry) : (sendBack s e).wgd = s.wgd := by simp [sendBack]
@[simp] theorem sendBack_cpt (s : State) (e : Entry) : (sendBack s e).cpt = s.cpt := by simp [sendBack]
@[simp] theorem sendBack_act (s : State) (e : Entry) : (sendBack s e).act = s.act := by simp [sendBack]
@[simp] theorem sendBack_lines (s : State) (e : Entry) : (sendBack s e).lines = s.lines := by simp [sendBack]
@[simp] theorem sendBack_pending (s : State) (e : Entry) : (sendBack s e).pending = s.pending := by simp [sendBack]

@[simp] theorem reResolve_rse (p : Entry → Bool) (s : State) : (reResolve p s).rse = s.rse := by
  unfold reResolve; exact foldl_keeps (fun t => t.rse) _ (by intros; simp) _ _
@[simp] theorem reResolve_flk (p : Entry → Bool) (s : State) : (reResolve p s).flk = s.flk := by
  unfold reResolve; exact foldl_keeps (fun t => t.flk) _ (by intros; simp) _ _
@[simp] theorem reResolve_pkp (p : Entry → Bool) (s : State) : (reResolve p s).pkp = s.pkp := by
  unfold reResolve; exact foldl_keeps (fun t => t.pkp) _ (by intros; simp) _ _
@[simp] theorem reResolve_pgn (p : Entry → Bool) (s : State) : (reResolve p s).pgn = s.pgn := by
  unfold reResolve; exact foldl_keeps (fun t => t.pgn) _ (by intros; simp) _ _
@[simp] theorem reResolve_plp (p : Entry → Bool) (s : State) : (reResolve p s).plp = s.plp := by
  unfold reResolve; exact foldl_keeps (fun t => t.plp) _ (by intros; simp) _ _
@[simp] theorem reResolve_lsc (p : Entry → Bool) (s : State) : (reResolve p s).lsc = s.lsc := by
  unfold reResolve; exact foldl_keeps (fun t => t.lsc) _ (by intros; simp) _ _
@[simp] theorem reResolve_wgd (p : Entry → Bool) (s : State) : (reResolve p s).wgd = s.wgd := by
  unfold reResolve; exact foldl_keeps (fun t => t.wgd) _ (by intros; simp) _ _
@[simp] theorem reResolve_cpt (p : Entry → Bool) (s : State) : (reResolve p s).cpt = s.cpt := by
  unfold reResolve; exact foldl_keeps (fun t => t.cpt) _ (by intros; simp) _ _
@[simp] theorem reResolve_act (p : Entry → Bool) (s : State) : (reResolve p s).act = s.act := by
  unfold reResolve; exact foldl_keeps (fun t => t.act) _ (by intros; simp) _ _
@[simp] theorem reResolve_lines (p : Entry → Bool) (s : State) : (reResolve p s).lines = s.lines := by
  unfold reResolve; exact foldl_keeps (fun t => t.lines) _ (by intros; simp) _ _
@[simp] theorem reResolve_pending (p : Entry → Bool) (s : State) : (reResolve p s).pending = s.pending := by
  unfold reResolve; exact foldl_keeps (fun t => t.pending) _ (by intros; simp) _ _

@[simp] theorem keepSample_stb (o : Option OfferedSample) (s : State) : (keepSample o s).stb = s.stb := by unfold keepSample; split <;> rfl
@[simp] theorem keepSample_mst (o : Option OfferedSample) (s : State) : (keepSample o s).mst = s.mst := by unfold keepSample; split <;> rfl
@[simp] theorem keepSample_rse (o : Option OfferedSample) (s : State) : (keepSample o s).rse = s.rse := by unfold keepSample; split <;> rfl
@[simp] theorem keepSample_sgq (o : Option OfferedSample) (s : State) : (keepSample o s).sgq = s.sgq := by unfold keepSample; split <;> rfl
@[simp] theorem keepSample_flk (o : Option OfferedSample) (s : State) : (keepSample o s).flk = s.flk := by unfold keepSample; split <;> rfl
@[simp] theorem keepSample_pkp (o : Option OfferedSample) (s : State) : (keepSample o s).pkp = s.pkp := by unfold keepSample; split <;> rfl
@[simp] theorem keepSample_pgn (o : Option OfferedSample) (s : State) : (keepSample o s).pgn = s.pgn := by unfold keepSample; split <;> rfl
@[simp] theorem keepSample_plp (o : Option OfferedSample) (s : State) : (keepSample o s).plp = s.plp := by unfold keepSample; split <;> rfl
@[simp] theorem keepSample_wgd (o : Option OfferedSample) (s : State) : (keepSample o s).wgd = s.wgd := by unfold keepSample; split <;> rfl
@[simp] theorem keepSample_cpt (o : Option OfferedSample) (s : State) : (keepSample o s).cpt = s.cpt := by unfold keepSample; split <;> rfl
@[simp] theorem keepSample_act (o : Option OfferedSample) (s : State) : (keepSample o s).act = s.act := by unfold keepSample; split <;> rfl
@[simp] theorem keepSample_lines (o : Option OfferedSample) (s : State) : (keepSample o s).lines = s.lines := by unfold keepSample; split <;> rfl
@[simp] theorem keepSample_pending (o : Option OfferedSample) (s : State) : (keepSample o s).pending = s.pending := by unfold keepSample; split <;> rfl

@[simp] theorem warnGoverning_stb (c : Computed) (s : State) : (warnGoverning c s).stb = s.stb := by unfold warnGoverning; split <;> simp
@[simp] theorem warnGoverning_mst (c : Computed) (s : State) : (warnGoverning c s).mst = s.mst := by unfold warnGoverning; split <;> simp
@[simp] theorem warnGoverning_rse (c : Computed) (s : State) : (warnGoverning c s).rse = s.rse := by unfold warnGoverning; split <;> simp
@[simp] theorem warnGoverning_flk (c : Computed) (s : State) : (warnGoverning c s).flk = s.flk := by unfold warnGoverning; split <;> simp
@[simp] theorem warnGoverning_pkp (c : Computed) (s : State) : (warnGoverning c s).pkp = s.pkp := by unfold warnGoverning; split <;> simp
@[simp] theorem warnGoverning_pgn (c : Computed) (s : State) : (warnGoverning c s).pgn = s.pgn := by unfold warnGoverning; split <;> simp
@[simp] theorem warnGoverning_plp (c : Computed) (s : State) : (warnGoverning c s).plp = s.plp := by unfold warnGoverning; split <;> simp
@[simp] theorem warnGoverning_lsc (c : Computed) (s : State) : (warnGoverning c s).lsc = s.lsc := by unfold warnGoverning; split <;> simp
@[simp] theorem warnGoverning_wgd (c : Computed) (s : State) : (warnGoverning c s).wgd = s.wgd := by unfold warnGoverning; split <;> simp
@[simp] theorem warnGoverning_cpt (c : Computed) (s : State) : (warnGoverning c s).cpt = s.cpt := by unfold warnGoverning; split <;> simp
@[simp] theorem warnGoverning_act (c : Computed) (s : State) : (warnGoverning c s).act = s.act := by unfold warnGoverning; split <;> simp
@[simp] theorem warnGoverning_lines (c : Computed) (s : State) : (warnGoverning c s).lines = s.lines := by unfold warnGoverning; split <;> simp
@[simp] theorem warnGoverning_pending (c : Computed) (s : State) : (warnGoverning c s).pending = s.pending := by unfold warnGoverning; split <;> simp

@[simp] theorem reportLevel_stb (k : Option Key) (s : State) (l : LevelCode) : (reportLevel k s l).stb = s.stb := by unfold reportLevel; (repeat' split) <;> simp
@[simp] theorem reportLevel_mst (k : Option Key) (s : State) (l : LevelCode) : (reportLevel k s l).mst = s.mst := by unfold reportLevel; (repeat' split) <;> simp
@[simp] theorem reportLevel_rse (k : Option Key) (s : State) (l : LevelCode) : (reportLevel k s l).rse = s.rse := by unfold reportLevel; (repeat' split) <;> simp
@[simp] theorem reportLevel_sgq (k : Option Key) (s : State) (l : LevelCode) : (reportLevel k s l).sgq = s.sgq := by unfold reportLevel; (repeat' split) <;> simp
@[simp] theorem reportLevel_flk (k : Option Key) (s : State) (l : LevelCode) : (reportLevel k s l).flk = s.flk := by unfold reportLevel; (repeat' split) <;> simp
@[simp] theorem reportLevel_pkp (k : Option Key) (s : State) (l : LevelCode) : (reportLevel k s l).pkp = s.pkp := by unfold reportLevel; (repeat' split) <;> simp
@[simp] theorem reportLevel_pgn (k : Option Key) (s : State) (l : LevelCode) : (reportLevel k s l).pgn = s.pgn := by unfold reportLevel; (repeat' split) <;> simp
@[simp] theorem reportLevel_plp (k : Option Key) (s : State) (l : LevelCode) : (reportLevel k s l).plp = s.plp := by unfold reportLevel; (repeat' split) <;> simp
@[simp] theorem reportLevel_lsc (k : Option Key) (s : State) (l : LevelCode) : (reportLevel k s l).lsc = s.lsc := by unfold reportLevel; (repeat' split) <;> simp
@[simp] theorem reportLevel_wgd (k : Option Key) (s : State) (l : LevelCode) : (reportLevel k s l).wgd = s.wgd := by unfold reportLevel; (repeat' split) <;> simp
@[simp] theorem reportLevel_lines (k : Option Key) (s : State) (l : LevelCode) : (reportLevel k s l).lines = s.lines := by unfold reportLevel; (repeat' split) <;> simp
@[simp] theorem reportLevel_pending (k : Option Key) (s : State) (l : LevelCode) : (reportLevel k s l).pending = s.pending := by unfold reportLevel; (repeat' split) <;> simp
@[simp] theorem reportLevel_port (k : Option Key) (s : State) (l : LevelCode) : (reportLevel k s l).cpt.port = s.cpt.port := by unfold reportLevel; (repeat' split) <;> simp
@[simp] theorem reportLevel_busyReply (k : Option Key) (s : State) (l : LevelCode) : (reportLevel k s l).cpt.busyReply = s.cpt.busyReply := by unfold reportLevel; (repeat' split) <;> simp
@[simp] theorem reportLevel_reading (k : Option Key) (s : State) (l : LevelCode) : (reportLevel k s l).cpt.reading = s.cpt.reading := by unfold reportLevel; (repeat' split) <;> simp
@[simp] theorem reportLevel_writing (k : Option Key) (s : State) (l : LevelCode) : (reportLevel k s l).cpt.writing = s.cpt.writing := by unfold reportLevel; (repeat' split) <;> simp
@[simp] theorem reportLevel_spiOut (k : Option Key) (s : State) (l : LevelCode) : (reportLevel k s l).cpt.spiOut = s.cpt.spiOut := by unfold reportLevel; (repeat' split) <;> simp
@[simp] theorem reportLevel_settings (k : Option Key) (s : State) (l : LevelCode) : (reportLevel k s l).cpt.settings = s.cpt.settings := by unfold reportLevel; (repeat' split) <;> simp
@[simp] theorem reportLevel_lastReset (k : Option Key) (s : State) (l : LevelCode) : (reportLevel k s l).cpt.lastReset = s.cpt.lastReset := by unfold reportLevel; (repeat' split) <;> simp

@[simp] theorem handOver_stb (b : Bool) (c : CodeSet) (s : State) : (handOver b c s).stb = s.stb := by unfold handOver; split <;> rfl
@[simp] theorem handOver_mst (b : Bool) (c : CodeSet) (s : State) : (handOver b c s).mst = s.mst := by unfold handOver; split <;> rfl
@[simp] theorem handOver_rse (b : Bool) (c : CodeSet) (s : State) : (handOver b c s).rse = s.rse := by unfold handOver; split <;> rfl
@[simp] theorem handOver_sgq (b : Bool) (c : CodeSet) (s : State) : (handOver b c s).sgq = s.sgq := by unfold handOver; split <;> rfl
@[simp] theorem handOver_flk (b : Bool) (c : CodeSet) (s : State) : (handOver b c s).flk = s.flk := by unfold handOver; split <;> rfl
@[simp] theorem handOver_pkp (b : Bool) (c : CodeSet) (s : State) : (handOver b c s).pkp = s.pkp := by unfold handOver; split <;> rfl
@[simp] theorem handOver_plp (b : Bool) (c : CodeSet) (s : State) : (handOver b c s).plp = s.plp := by unfold handOver; split <;> rfl
@[simp] theorem handOver_lsc (b : Bool) (c : CodeSet) (s : State) : (handOver b c s).lsc = s.lsc := by unfold handOver; split <;> rfl
@[simp] theorem handOver_wgd (b : Bool) (c : CodeSet) (s : State) : (handOver b c s).wgd = s.wgd := by unfold handOver; split <;> rfl
@[simp] theorem handOver_cpt (b : Bool) (c : CodeSet) (s : State) : (handOver b c s).cpt = s.cpt := by unfold handOver; split <;> rfl
@[simp] theorem handOver_act (b : Bool) (c : CodeSet) (s : State) : (handOver b c s).act = s.act := by unfold handOver; split <;> rfl
@[simp] theorem handOver_lines (b : Bool) (c : CodeSet) (s : State) : (handOver b c s).lines = s.lines := by unfold handOver; split <;> rfl
@[simp] theorem handOver_pending (b : Bool) (c : CodeSet) (s : State) : (handOver b c s).pending = s.pending := by unfold handOver; split <;> rfl

@[simp] theorem countTimes_stb (ev : CounterEvent) (k : Option Key) (n : Nat) (s : State) : (countTimes ev k n s).stb = s.stb := by
  induction n generalizing s with
  | zero => rfl
  | succ n ih => simp [countTimes, ih]
@[simp] theorem countTimes_mst (ev : CounterEvent) (k : Option Key) (n : Nat) (s : State) : (countTimes ev k n s).mst = s.mst := by
  induction n generalizing s with
  | zero => rfl
  | succ n ih => simp [countTimes, ih]
@[simp] theorem countTimes_rse (ev : CounterEvent) (k : Option Key) (n : Nat) (s : State) : (countTimes ev k n s).rse = s.rse := by
  induction n generalizing s with
  | zero => rfl
  | succ n ih => simp [countTimes, ih]
@[simp] theorem countTimes_sgq (ev : CounterEvent) (k : Option Key) (n : Nat) (s : State) : (countTimes ev k n s).sgq = s.sgq := by
  induction n generalizing s with
  | zero => rfl
  | succ n ih => simp [countTimes, ih]
@[simp] theorem countTimes_flk (ev : CounterEvent) (k : Option Key) (n : Nat) (s : State) : (countTimes ev k n s).flk = s.flk := by
  induction n generalizing s with
  | zero => rfl
  | succ n ih => simp [countTimes, ih]
@[simp] theorem countTimes_pkp (ev : CounterEvent) (k : Option Key) (n : Nat) (s : State) : (countTimes ev k n s).pkp = s.pkp := by
  induction n generalizing s with
  | zero => rfl
  | succ n ih => simp [countTimes, ih]
@[simp] theorem countTimes_pgn (ev : CounterEvent) (k : Option Key) (n : Nat) (s : State) : (countTimes ev k n s).pgn = s.pgn := by
  induction n generalizing s with
  | zero => rfl
  | succ n ih => simp [countTimes, ih]
@[simp] theorem countTimes_plp (ev : CounterEvent) (k : Option Key) (n : Nat) (s : State) : (countTimes ev k n s).plp = s.plp := by
  induction n generalizing s with
  | zero => rfl
  | succ n ih => simp [countTimes, ih]
@[simp] theorem countTimes_lsc (ev : CounterEvent) (k : Option Key) (n : Nat) (s : State) : (countTimes ev k n s).lsc = s.lsc := by
  induction n generalizing s with
  | zero => rfl
  | succ n ih => simp [countTimes, ih]
@[simp] theorem countTimes_wgd (ev : CounterEvent) (k : Option Key) (n : Nat) (s : State) : (countTimes ev k n s).wgd = s.wgd := by
  induction n generalizing s with
  | zero => rfl
  | succ n ih => simp [countTimes, ih]
@[simp] theorem countTimes_lines (ev : CounterEvent) (k : Option Key) (n : Nat) (s : State) : (countTimes ev k n s).lines = s.lines := by
  induction n generalizing s with
  | zero => rfl
  | succ n ih => simp [countTimes, ih]
@[simp] theorem countTimes_pending (ev : CounterEvent) (k : Option Key) (n : Nat) (s : State) : (countTimes ev k n s).pending = s.pending := by
  induction n generalizing s with
  | zero => rfl
  | succ n ih => simp [countTimes, ih]
@[simp] theorem countTimes_port (ev : CounterEvent) (k : Option Key) (n : Nat) (s : State) : (countTimes ev k n s).cpt.port = s.cpt.port := by
  induction n generalizing s with
  | zero => rfl
  | succ n ih => simp [countTimes, ih]
@[simp] theorem countTimes_busyReply (ev : CounterEvent) (k : Option Key) (n : Nat) (s : State) : (countTimes ev k n s).cpt.busyReply = s.cpt.busyReply := by
  induction n generalizing s with
  | zero => rfl
  | succ n ih => simp [countTimes, ih]
@[simp] theorem countTimes_reading (ev : CounterEvent) (k : Option Key) (n : Nat) (s : State) : (countTimes ev k n s).cpt.reading = s.cpt.reading := by
  induction n generalizing s with
  | zero => rfl
  | succ n ih => simp [countTimes, ih]
@[simp] theorem countTimes_writing (ev : CounterEvent) (k : Option Key) (n : Nat) (s : State) : (countTimes ev k n s).cpt.writing = s.cpt.writing := by
  induction n generalizing s with
  | zero => rfl
  | succ n ih => simp [countTimes, ih]
@[simp] theorem countTimes_spiOut (ev : CounterEvent) (k : Option Key) (n : Nat) (s : State) : (countTimes ev k n s).cpt.spiOut = s.cpt.spiOut := by
  induction n generalizing s with
  | zero => rfl
  | succ n ih => simp [countTimes, ih]
@[simp] theorem countTimes_settings (ev : CounterEvent) (k : Option Key) (n : Nat) (s : State) : (countTimes ev k n s).cpt.settings = s.cpt.settings := by
  induction n generalizing s with
  | zero => rfl
  | succ n ih => simp [countTimes, ih]
@[simp] theorem countTimes_lastReset (ev : CounterEvent) (k : Option Key) (n : Nat) (s : State) : (countTimes ev k n s).cpt.lastReset = s.cpt.lastReset := by
  induction n generalizing s with
  | zero => rfl
  | succ n ih => simp [countTimes, ih]

@[simp] theorem reportCollisions_stb (wc : WorkingCopy) (b : Bool) (n : Nat) (s : State) : (reportCollisions wc b n s).stb = s.stb := by unfold reportCollisions; split <;> simp
@[simp] theorem reportCollisions_mst (wc : WorkingCopy) (b : Bool) (n : Nat) (s : State) : (reportCollisions wc b n s).mst = s.mst := by unfold reportCollisions; split <;> simp
@[simp] theorem reportCollisions_rse (wc : WorkingCopy) (b : Bool) (n : Nat) (s : State) : (reportCollisions wc b n s).rse = s.rse := by unfold reportCollisions; split <;> simp
@[simp] theorem reportCollisions_flk (wc : WorkingCopy) (b : Bool) (n : Nat) (s : State) : (reportCollisions wc b n s).flk = s.flk := by unfold reportCollisions; split <;> simp
@[simp] theorem reportCollisions_pkp (wc : WorkingCopy) (b : Bool) (n : Nat) (s : State) : (reportCollisions wc b n s).pkp = s.pkp := by unfold reportCollisions; split <;> simp
@[simp] theorem reportCollisions_pgn (wc : WorkingCopy) (b : Bool) (n : Nat) (s : State) : (reportCollisions wc b n s).pgn = s.pgn := by unfold reportCollisions; split <;> simp
@[simp] theorem reportCollisions_plp (wc : WorkingCopy) (b : Bool) (n : Nat) (s : State) : (reportCollisions wc b n s).plp = s.plp := by unfold reportCollisions; split <;> simp
@[simp] theorem reportCollisions_lsc (wc : WorkingCopy) (b : Bool) (n : Nat) (s : State) : (reportCollisions wc b n s).lsc = s.lsc := by unfold reportCollisions; split <;> simp
@[simp] theorem reportCollisions_wgd (wc : WorkingCopy) (b : Bool) (n : Nat) (s : State) : (reportCollisions wc b n s).wgd = s.wgd := by unfold reportCollisions; split <;> simp
@[simp] theorem reportCollisions_lines (wc : WorkingCopy) (b : Bool) (n : Nat) (s : State) : (reportCollisions wc b n s).lines = s.lines := by unfold reportCollisions; split <;> simp
@[simp] theorem reportCollisions_pending (wc : WorkingCopy) (b : Bool) (n : Nat) (s : State) : (reportCollisions wc b n s).pending = s.pending := by unfold reportCollisions; split <;> simp
@[simp] theorem reportCollisions_port (wc : WorkingCopy) (b : Bool) (n : Nat) (s : State) : (reportCollisions wc b n s).cpt.port = s.cpt.port := by unfold reportCollisions; split <;> simp
@[simp] theorem reportCollisions_busyReply (wc : WorkingCopy) (b : Bool) (n : Nat) (s : State) : (reportCollisions wc b n s).cpt.busyReply = s.cpt.busyReply := by unfold reportCollisions; split <;> simp
@[simp] theorem reportCollisions_reading (wc : WorkingCopy) (b : Bool) (n : Nat) (s : State) : (reportCollisions wc b n s).cpt.reading = s.cpt.reading := by unfold reportCollisions; split <;> simp
@[simp] theorem reportCollisions_writing (wc : WorkingCopy) (b : Bool) (n : Nat) (s : State) : (reportCollisions wc b n s).cpt.writing = s.cpt.writing := by unfold reportCollisions; split <;> simp
@[simp] theorem reportCollisions_spiOut (wc : WorkingCopy) (b : Bool) (n : Nat) (s : State) : (reportCollisions wc b n s).cpt.spiOut = s.cpt.spiOut := by unfold reportCollisions; split <;> simp
@[simp] theorem reportCollisions_settings (wc : WorkingCopy) (b : Bool) (n : Nat) (s : State) : (reportCollisions wc b n s).cpt.settings = s.cpt.settings := by unfold reportCollisions; split <;> simp
@[simp] theorem reportCollisions_lastReset (wc : WorkingCopy) (b : Bool) (n : Nat) (s : State) : (reportCollisions wc b n s).cpt.lastReset = s.cpt.lastReset := by unfold reportCollisions; split <;> simp

@[simp] theorem skipMark_stb (wc : WorkingCopy) (s : State) : (skipMark wc s).stb = s.stb := by simp [skipMark]
@[simp] theorem skipMark_mst (wc : WorkingCopy) (s : State) : (skipMark wc s).mst = s.mst := by simp [skipMark]
@[simp] theorem skipMark_rse (wc : WorkingCopy) (s : State) : (skipMark wc s).rse = s.rse := by simp [skipMark]
@[simp] theorem skipMark_flk (wc : WorkingCopy) (s : State) : (skipMark wc s).flk = s.flk := by simp [skipMark]
@[simp] theorem skipMark_pkp (wc : WorkingCopy) (s : State) : (skipMark wc s).pkp = s.pkp := by simp [skipMark]
@[simp] theorem skipMark_pgn (wc : WorkingCopy) (s : State) : (skipMark wc s).pgn = s.pgn := by simp [skipMark]
@[simp] theorem skipMark_plp (wc : WorkingCopy) (s : State) : (skipMark wc s).plp = s.plp := by simp [skipMark]
@[simp] theorem skipMark_lsc (wc : WorkingCopy) (s : State) : (skipMark wc s).lsc = s.lsc := by simp [skipMark]
@[simp] theorem skipMark_wgd (wc : WorkingCopy) (s : State) : (skipMark wc s).wgd = s.wgd := by simp [skipMark]
@[simp] theorem skipMark_lines (wc : WorkingCopy) (s : State) : (skipMark wc s).lines = s.lines := by simp [skipMark]
@[simp] theorem skipMark_pending (wc : WorkingCopy) (s : State) : (skipMark wc s).pending = s.pending := by simp [skipMark]
@[simp] theorem skipMark_port (wc : WorkingCopy) (s : State) : (skipMark wc s).cpt.port = s.cpt.port := by simp [skipMark]
@[simp] theorem skipMark_busyReply (wc : WorkingCopy) (s : State) : (skipMark wc s).cpt.busyReply = s.cpt.busyReply := by simp [skipMark]
@[simp] theorem skipMark_reading (wc : WorkingCopy) (s : State) : (skipMark wc s).cpt.reading = s.cpt.reading := by simp [skipMark]
@[simp] theorem skipMark_writing (wc : WorkingCopy) (s : State) : (skipMark wc s).cpt.writing = s.cpt.writing := by simp [skipMark]
@[simp] theorem skipMark_spiOut (wc : WorkingCopy) (s : State) : (skipMark wc s).cpt.spiOut = s.cpt.spiOut := by simp [skipMark]
@[simp] theorem skipMark_settings (wc : WorkingCopy) (s : State) : (skipMark wc s).cpt.settings = s.cpt.settings := by simp [skipMark]
@[simp] theorem skipMark_lastReset (wc : WorkingCopy) (s : State) : (skipMark wc s).cpt.lastReset = s.cpt.lastReset := by simp [skipMark]

@[simp] theorem buildTrain_stb (wc : WorkingCopy) (p : Int) (n : Nat) (s : State) : (buildTrain wc p n s).stb = s.stb := by simp [buildTrain]
@[simp] theorem buildTrain_mst (wc : WorkingCopy) (p : Int) (n : Nat) (s : State) : (buildTrain wc p n s).mst = s.mst := by simp [buildTrain]
@[simp] theorem buildTrain_rse (wc : WorkingCopy) (p : Int) (n : Nat) (s : State) : (buildTrain wc p n s).rse = s.rse := by simp [buildTrain]
@[simp] theorem buildTrain_flk (wc : WorkingCopy) (p : Int) (n : Nat) (s : State) : (buildTrain wc p n s).flk = s.flk := by simp [buildTrain]
@[simp] theorem buildTrain_pkp (wc : WorkingCopy) (p : Int) (n : Nat) (s : State) : (buildTrain wc p n s).pkp = s.pkp := by simp [buildTrain]
@[simp] theorem buildTrain_plp (wc : WorkingCopy) (p : Int) (n : Nat) (s : State) : (buildTrain wc p n s).plp = s.plp := by simp [buildTrain]
@[simp] theorem buildTrain_lsc (wc : WorkingCopy) (p : Int) (n : Nat) (s : State) : (buildTrain wc p n s).lsc = s.lsc := by simp [buildTrain]
@[simp] theorem buildTrain_wgd (wc : WorkingCopy) (p : Int) (n : Nat) (s : State) : (buildTrain wc p n s).wgd = s.wgd := by simp [buildTrain]
@[simp] theorem buildTrain_lines (wc : WorkingCopy) (p : Int) (n : Nat) (s : State) : (buildTrain wc p n s).lines = s.lines := by simp [buildTrain]
@[simp] theorem buildTrain_pending (wc : WorkingCopy) (p : Int) (n : Nat) (s : State) : (buildTrain wc p n s).pending = s.pending := by simp [buildTrain]
@[simp] theorem buildTrain_port (wc : WorkingCopy) (p : Int) (n : Nat) (s : State) : (buildTrain wc p n s).cpt.port = s.cpt.port := by simp [buildTrain]
@[simp] theorem buildTrain_busyReply (wc : WorkingCopy) (p : Int) (n : Nat) (s : State) : (buildTrain wc p n s).cpt.busyReply = s.cpt.busyReply := by simp [buildTrain]
@[simp] theorem buildTrain_reading (wc : WorkingCopy) (p : Int) (n : Nat) (s : State) : (buildTrain wc p n s).cpt.reading = s.cpt.reading := by simp [buildTrain]
@[simp] theorem buildTrain_writing (wc : WorkingCopy) (p : Int) (n : Nat) (s : State) : (buildTrain wc p n s).cpt.writing = s.cpt.writing := by simp [buildTrain]
@[simp] theorem buildTrain_spiOut (wc : WorkingCopy) (p : Int) (n : Nat) (s : State) : (buildTrain wc p n s).cpt.spiOut = s.cpt.spiOut := by simp [buildTrain]
@[simp] theorem buildTrain_settings (wc : WorkingCopy) (p : Int) (n : Nat) (s : State) : (buildTrain wc p n s).cpt.settings = s.cpt.settings := by simp [buildTrain]
@[simp] theorem buildTrain_lastReset (wc : WorkingCopy) (p : Int) (n : Nat) (s : State) : (buildTrain wc p n s).cpt.lastReset = s.cpt.lastReset := by simp [buildTrain]

@[simp] theorem openLong_stb (wc : WorkingCopy) (p : Int) (s : State) : (openLong wc p s).stb = s.stb := by simp [openLong]
@[simp] theorem openLong_mst (wc : WorkingCopy) (p : Int) (s : State) : (openLong wc p s).mst = s.mst := by simp [openLong]
@[simp] theorem openLong_rse (wc : WorkingCopy) (p : Int) (s : State) : (openLong wc p s).rse = s.rse := by simp [openLong]
@[simp] theorem openLong_flk (wc : WorkingCopy) (p : Int) (s : State) : (openLong wc p s).flk = s.flk := by simp [openLong]
@[simp] theorem openLong_pkp (wc : WorkingCopy) (p : Int) (s : State) : (openLong wc p s).pkp = s.pkp := by simp [openLong]
@[simp] theorem openLong_plp (wc : WorkingCopy) (p : Int) (s : State) : (openLong wc p s).plp = s.plp := by simp [openLong]
@[simp] theorem openLong_lsc (wc : WorkingCopy) (p : Int) (s : State) : (openLong wc p s).lsc = s.lsc := by simp [openLong]
@[simp] theorem openLong_wgd (wc : WorkingCopy) (p : Int) (s : State) : (openLong wc p s).wgd = s.wgd := by simp [openLong]
@[simp] theorem openLong_lines (wc : WorkingCopy) (p : Int) (s : State) : (openLong wc p s).lines = s.lines := by simp [openLong]
@[simp] theorem openLong_pending (wc : WorkingCopy) (p : Int) (s : State) : (openLong wc p s).pending = s.pending := by simp [openLong]
@[simp] theorem openLong_port (wc : WorkingCopy) (p : Int) (s : State) : (openLong wc p s).cpt.port = s.cpt.port := by simp [openLong]
@[simp] theorem openLong_busyReply (wc : WorkingCopy) (p : Int) (s : State) : (openLong wc p s).cpt.busyReply = s.cpt.busyReply := by simp [openLong]
@[simp] theorem openLong_reading (wc : WorkingCopy) (p : Int) (s : State) : (openLong wc p s).cpt.reading = s.cpt.reading := by simp [openLong]
@[simp] theorem openLong_writing (wc : WorkingCopy) (p : Int) (s : State) : (openLong wc p s).cpt.writing = s.cpt.writing := by simp [openLong]
@[simp] theorem openLong_spiOut (wc : WorkingCopy) (p : Int) (s : State) : (openLong wc p s).cpt.spiOut = s.cpt.spiOut := by simp [openLong]
@[simp] theorem openLong_settings (wc : WorkingCopy) (p : Int) (s : State) : (openLong wc p s).cpt.settings = s.cpt.settings := by simp [openLong]
@[simp] theorem openLong_lastReset (wc : WorkingCopy) (p : Int) (s : State) : (openLong wc p s).cpt.lastReset = s.cpt.lastReset := by simp [openLong]

@[simp] theorem addPulse_stb (wc : WorkingCopy) (p : Int) (n : Nat) (s : State) : (addPulse wc p n s).stb = s.stb := by simp [addPulse]
@[simp] theorem addPulse_mst (wc : WorkingCopy) (p : Int) (n : Nat) (s : State) : (addPulse wc p n s).mst = s.mst := by simp [addPulse]
@[simp] theorem addPulse_rse (wc : WorkingCopy) (p : Int) (n : Nat) (s : State) : (addPulse wc p n s).rse = s.rse := by simp [addPulse]
@[simp] theorem addPulse_flk (wc : WorkingCopy) (p : Int) (n : Nat) (s : State) : (addPulse wc p n s).flk = s.flk := by simp [addPulse]
@[simp] theorem addPulse_pkp (wc : WorkingCopy) (p : Int) (n : Nat) (s : State) : (addPulse wc p n s).pkp = s.pkp := by simp [addPulse]
@[simp] theorem addPulse_plp (wc : WorkingCopy) (p : Int) (n : Nat) (s : State) : (addPulse wc p n s).plp = s.plp := by simp [addPulse]
@[simp] theorem addPulse_lsc (wc : WorkingCopy) (p : Int) (n : Nat) (s : State) : (addPulse wc p n s).lsc = s.lsc := by simp [addPulse]
@[simp] theorem addPulse_wgd (wc : WorkingCopy) (p : Int) (n : Nat) (s : State) : (addPulse wc p n s).wgd = s.wgd := by simp [addPulse]
@[simp] theorem addPulse_lines (wc : WorkingCopy) (p : Int) (n : Nat) (s : State) : (addPulse wc p n s).lines = s.lines := by simp [addPulse]
@[simp] theorem addPulse_pending (wc : WorkingCopy) (p : Int) (n : Nat) (s : State) : (addPulse wc p n s).pending = s.pending := by simp [addPulse]
@[simp] theorem addPulse_port (wc : WorkingCopy) (p : Int) (n : Nat) (s : State) : (addPulse wc p n s).cpt.port = s.cpt.port := by simp [addPulse]
@[simp] theorem addPulse_busyReply (wc : WorkingCopy) (p : Int) (n : Nat) (s : State) : (addPulse wc p n s).cpt.busyReply = s.cpt.busyReply := by simp [addPulse]
@[simp] theorem addPulse_reading (wc : WorkingCopy) (p : Int) (n : Nat) (s : State) : (addPulse wc p n s).cpt.reading = s.cpt.reading := by simp [addPulse]
@[simp] theorem addPulse_writing (wc : WorkingCopy) (p : Int) (n : Nat) (s : State) : (addPulse wc p n s).cpt.writing = s.cpt.writing := by simp [addPulse]
@[simp] theorem addPulse_spiOut (wc : WorkingCopy) (p : Int) (n : Nat) (s : State) : (addPulse wc p n s).cpt.spiOut = s.cpt.spiOut := by simp [addPulse]
@[simp] theorem addPulse_settings (wc : WorkingCopy) (p : Int) (n : Nat) (s : State) : (addPulse wc p n s).cpt.settings = s.cpt.settings := by simp [addPulse]
@[simp] theorem addPulse_lastReset (wc : WorkingCopy) (p : Int) (n : Nat) (s : State) : (addPulse wc p n s).cpt.lastReset = s.cpt.lastReset := by simp [addPulse]

@[simp] theorem closeLong_stb (wc : WorkingCopy) (p : Int) (n : Nat) (s : State) : (closeLong wc p n s).stb = s.stb := by simp [closeLong]
@[simp] theorem closeLong_mst (wc : WorkingCopy) (p : Int) (n : Nat) (s : State) : (closeLong wc p n s).mst = s.mst := by simp [closeLong]
@[simp] theorem closeLong_rse (wc : WorkingCopy) (p : Int) (n : Nat) (s : State) : (closeLong wc p n s).rse = s.rse := by simp [closeLong]
@[simp] theorem closeLong_flk (wc : WorkingCopy) (p : Int) (n : Nat) (s : State) : (closeLong wc p n s).flk = s.flk := by simp [closeLong]
@[simp] theorem closeLong_pkp (wc : WorkingCopy) (p : Int) (n : Nat) (s : State) : (closeLong wc p n s).pkp = s.pkp := by simp [closeLong]
@[simp] theorem closeLong_plp (wc : WorkingCopy) (p : Int) (n : Nat) (s : State) : (closeLong wc p n s).plp = s.plp := by simp [closeLong]
@[simp] theorem closeLong_lsc (wc : WorkingCopy) (p : Int) (n : Nat) (s : State) : (closeLong wc p n s).lsc = s.lsc := by simp [closeLong]
@[simp] theorem closeLong_wgd (wc : WorkingCopy) (p : Int) (n : Nat) (s : State) : (closeLong wc p n s).wgd = s.wgd := by simp [closeLong]
@[simp] theorem closeLong_lines (wc : WorkingCopy) (p : Int) (n : Nat) (s : State) : (closeLong wc p n s).lines = s.lines := by simp [closeLong]
@[simp] theorem closeLong_pending (wc : WorkingCopy) (p : Int) (n : Nat) (s : State) : (closeLong wc p n s).pending = s.pending := by simp [closeLong]
@[simp] theorem closeLong_port (wc : WorkingCopy) (p : Int) (n : Nat) (s : State) : (closeLong wc p n s).cpt.port = s.cpt.port := by simp [closeLong]
@[simp] theorem closeLong_busyReply (wc : WorkingCopy) (p : Int) (n : Nat) (s : State) : (closeLong wc p n s).cpt.busyReply = s.cpt.busyReply := by simp [closeLong]
@[simp] theorem closeLong_reading (wc : WorkingCopy) (p : Int) (n : Nat) (s : State) : (closeLong wc p n s).cpt.reading = s.cpt.reading := by simp [closeLong]
@[simp] theorem closeLong_writing (wc : WorkingCopy) (p : Int) (n : Nat) (s : State) : (closeLong wc p n s).cpt.writing = s.cpt.writing := by simp [closeLong]
@[simp] theorem closeLong_spiOut (wc : WorkingCopy) (p : Int) (n : Nat) (s : State) : (closeLong wc p n s).cpt.spiOut = s.cpt.spiOut := by simp [closeLong]
@[simp] theorem closeLong_settings (wc : WorkingCopy) (p : Int) (n : Nat) (s : State) : (closeLong wc p n s).cpt.settings = s.cpt.settings := by simp [closeLong]
@[simp] theorem closeLong_lastReset (wc : WorkingCopy) (p : Int) (n : Nat) (s : State) : (closeLong wc p n s).cpt.lastReset = s.cpt.lastReset := by simp [closeLong]

@[simp] theorem growMark_stb (wc : WorkingCopy) (i m : Nat) (s : State) : (growMark wc i m s).stb = s.stb := by unfold growMark; dsimp only; (repeat' split) <;> simp
@[simp] theorem growMark_mst (wc : WorkingCopy) (i m : Nat) (s : State) : (growMark wc i m s).mst = s.mst := by unfold growMark; dsimp only; (repeat' split) <;> simp
@[simp] theorem growMark_rse (wc : WorkingCopy) (i m : Nat) (s : State) : (growMark wc i m s).rse = s.rse := by unfold growMark; dsimp only; (repeat' split) <;> simp
@[simp] theorem growMark_flk (wc : WorkingCopy) (i m : Nat) (s : State) : (growMark wc i m s).flk = s.flk := by unfold growMark; dsimp only; (repeat' split) <;> simp
@[simp] theorem growMark_pkp (wc : WorkingCopy) (i m : Nat) (s : State) : (growMark wc i m s).pkp = s.pkp := by unfold growMark; dsimp only; (repeat' split) <;> simp
@[simp] theorem growMark_plp (wc : WorkingCopy) (i m : Nat) (s : State) : (growMark wc i m s).plp = s.plp := by unfold growMark; dsimp only; (repeat' split) <;> simp
@[simp] theorem growMark_lsc (wc : WorkingCopy) (i m : Nat) (s : State) : (growMark wc i m s).lsc = s.lsc := by unfold growMark; dsimp only; (repeat' split) <;> simp
@[simp] theorem growMark_wgd (wc : WorkingCopy) (i m : Nat) (s : State) : (growMark wc i m s).wgd = s.wgd := by unfold growMark; dsimp only; (repeat' split) <;> simp
@[simp] theorem growMark_lines (wc : WorkingCopy) (i m : Nat) (s : State) : (growMark wc i m s).lines = s.lines := by unfold growMark; dsimp only; (repeat' split) <;> simp
@[simp] theorem growMark_pending (wc : WorkingCopy) (i m : Nat) (s : State) : (growMark wc i m s).pending = s.pending := by unfold growMark; dsimp only; (repeat' split) <;> simp
@[simp] theorem growMark_port (wc : WorkingCopy) (i m : Nat) (s : State) : (growMark wc i m s).cpt.port = s.cpt.port := by unfold growMark; dsimp only; (repeat' split) <;> simp
@[simp] theorem growMark_busyReply (wc : WorkingCopy) (i m : Nat) (s : State) : (growMark wc i m s).cpt.busyReply = s.cpt.busyReply := by unfold growMark; dsimp only; (repeat' split) <;> simp
@[simp] theorem growMark_reading (wc : WorkingCopy) (i m : Nat) (s : State) : (growMark wc i m s).cpt.reading = s.cpt.reading := by unfold growMark; dsimp only; (repeat' split) <;> simp
@[simp] theorem growMark_writing (wc : WorkingCopy) (i m : Nat) (s : State) : (growMark wc i m s).cpt.writing = s.cpt.writing := by unfold growMark; dsimp only; (repeat' split) <;> simp
@[simp] theorem growMark_spiOut (wc : WorkingCopy) (i m : Nat) (s : State) : (growMark wc i m s).cpt.spiOut = s.cpt.spiOut := by unfold growMark; dsimp only; (repeat' split) <;> simp
@[simp] theorem growMark_settings (wc : WorkingCopy) (i m : Nat) (s : State) : (growMark wc i m s).cpt.settings = s.cpt.settings := by unfold growMark; dsimp only; (repeat' split) <;> simp
@[simp] theorem growMark_lastReset (wc : WorkingCopy) (i m : Nat) (s : State) : (growMark wc i m s).cpt.lastReset = s.cpt.lastReset := by unfold growMark; dsimp only; (repeat' split) <;> simp

@[simp] theorem endMark_stb (wc : WorkingCopy) (i n : Nat) (s : State) : (endMark wc i n s).stb = s.stb := by unfold endMark; dsimp only; (repeat' split) <;> simp
@[simp] theorem endMark_mst (wc : WorkingCopy) (i n : Nat) (s : State) : (endMark wc i n s).mst = s.mst := by unfold endMark; dsimp only; (repeat' split) <;> simp
@[simp] theorem endMark_rse (wc : WorkingCopy) (i n : Nat) (s : State) : (endMark wc i n s).rse = s.rse := by unfold endMark; dsimp only; (repeat' split) <;> simp
@[simp] theorem endMark_flk (wc : WorkingCopy) (i n : Nat) (s : State) : (endMark wc i n s).flk = s.flk := by unfold endMark; dsimp only; (repeat' split) <;> simp
@[simp] theorem endMark_pkp (wc : WorkingCopy) (i n : Nat) (s : State) : (endMark wc i n s).pkp = s.pkp := by unfold endMark; dsimp only; (repeat' split) <;> simp
@[simp] theorem endMark_plp (wc : WorkingCopy) (i n : Nat) (s : State) : (endMark wc i n s).plp = s.plp := by unfold endMark; dsimp only; (repeat' split) <;> simp
@[simp] theorem endMark_lsc (wc : WorkingCopy) (i n : Nat) (s : State) : (endMark wc i n s).lsc = s.lsc := by unfold endMark; dsimp only; (repeat' split) <;> simp
@[simp] theorem endMark_wgd (wc : WorkingCopy) (i n : Nat) (s : State) : (endMark wc i n s).wgd = s.wgd := by unfold endMark; dsimp only; (repeat' split) <;> simp
@[simp] theorem endMark_lines (wc : WorkingCopy) (i n : Nat) (s : State) : (endMark wc i n s).lines = s.lines := by unfold endMark; dsimp only; (repeat' split) <;> simp
@[simp] theorem endMark_pending (wc : WorkingCopy) (i n : Nat) (s : State) : (endMark wc i n s).pending = s.pending := by unfold endMark; dsimp only; (repeat' split) <;> simp
@[simp] theorem endMark_port (wc : WorkingCopy) (i n : Nat) (s : State) : (endMark wc i n s).cpt.port = s.cpt.port := by unfold endMark; dsimp only; (repeat' split) <;> simp
@[simp] theorem endMark_busyReply (wc : WorkingCopy) (i n : Nat) (s : State) : (endMark wc i n s).cpt.busyReply = s.cpt.busyReply := by unfold endMark; dsimp only; (repeat' split) <;> simp
@[simp] theorem endMark_reading (wc : WorkingCopy) (i n : Nat) (s : State) : (endMark wc i n s).cpt.reading = s.cpt.reading := by unfold endMark; dsimp only; (repeat' split) <;> simp
@[simp] theorem endMark_writing (wc : WorkingCopy) (i n : Nat) (s : State) : (endMark wc i n s).cpt.writing = s.cpt.writing := by unfold endMark; dsimp only; (repeat' split) <;> simp
@[simp] theorem endMark_spiOut (wc : WorkingCopy) (i n : Nat) (s : State) : (endMark wc i n s).cpt.spiOut = s.cpt.spiOut := by unfold endMark; dsimp only; (repeat' split) <;> simp
@[simp] theorem endMark_settings (wc : WorkingCopy) (i n : Nat) (s : State) : (endMark wc i n s).cpt.settings = s.cpt.settings := by unfold endMark; dsimp only; (repeat' split) <;> simp
@[simp] theorem endMark_lastReset (wc : WorkingCopy) (i n : Nat) (s : State) : (endMark wc i n s).cpt.lastReset = s.cpt.lastReset := by unfold endMark; dsimp only; (repeat' split) <;> simp

@[simp] theorem readT_stb (wc : WorkingCopy) (b : Bool) (s : State) : (readT wc b s).stb = s.stb := by unfold readT; dsimp only; (repeat' split) <;> simp
@[simp] theorem readT_mst (wc : WorkingCopy) (b : Bool) (s : State) : (readT wc b s).mst = s.mst := by unfold readT; dsimp only; (repeat' split) <;> simp
@[simp] theorem readT_rse (wc : WorkingCopy) (b : Bool) (s : State) : (readT wc b s).rse = s.rse := by unfold readT; dsimp only; (repeat' split) <;> simp
@[simp] theorem readT_flk (wc : WorkingCopy) (b : Bool) (s : State) : (readT wc b s).flk = s.flk := by unfold readT; dsimp only; (repeat' split) <;> simp
@[simp] theorem readT_pkp (wc : WorkingCopy) (b : Bool) (s : State) : (readT wc b s).pkp = s.pkp := by unfold readT; dsimp only; (repeat' split) <;> simp
@[simp] theorem readT_plp (wc : WorkingCopy) (b : Bool) (s : State) : (readT wc b s).plp = s.plp := by unfold readT; dsimp only; (repeat' split) <;> simp
@[simp] theorem readT_lsc (wc : WorkingCopy) (b : Bool) (s : State) : (readT wc b s).lsc = s.lsc := by unfold readT; dsimp only; (repeat' split) <;> simp
@[simp] theorem readT_wgd (wc : WorkingCopy) (b : Bool) (s : State) : (readT wc b s).wgd = s.wgd := by unfold readT; dsimp only; (repeat' split) <;> simp
@[simp] theorem readT_lines (wc : WorkingCopy) (b : Bool) (s : State) : (readT wc b s).lines = s.lines := by unfold readT; dsimp only; (repeat' split) <;> simp
@[simp] theorem readT_pending (wc : WorkingCopy) (b : Bool) (s : State) : (readT wc b s).pending = s.pending := by unfold readT; dsimp only; (repeat' split) <;> simp
@[simp] theorem readT_port (wc : WorkingCopy) (b : Bool) (s : State) : (readT wc b s).cpt.port = s.cpt.port := by unfold readT; dsimp only; (repeat' split) <;> simp
@[simp] theorem readT_busyReply (wc : WorkingCopy) (b : Bool) (s : State) : (readT wc b s).cpt.busyReply = s.cpt.busyReply := by unfold readT; dsimp only; (repeat' split) <;> simp
@[simp] theorem readT_reading (wc : WorkingCopy) (b : Bool) (s : State) : (readT wc b s).cpt.reading = s.cpt.reading := by unfold readT; dsimp only; (repeat' split) <;> simp
@[simp] theorem readT_writing (wc : WorkingCopy) (b : Bool) (s : State) : (readT wc b s).cpt.writing = s.cpt.writing := by unfold readT; dsimp only; (repeat' split) <;> simp
@[simp] theorem readT_spiOut (wc : WorkingCopy) (b : Bool) (s : State) : (readT wc b s).cpt.spiOut = s.cpt.spiOut := by unfold readT; dsimp only; (repeat' split) <;> simp
@[simp] theorem readT_settings (wc : WorkingCopy) (b : Bool) (s : State) : (readT wc b s).cpt.settings = s.cpt.settings := by unfold readT; dsimp only; (repeat' split) <;> simp
@[simp] theorem readT_lastReset (wc : WorkingCopy) (b : Bool) (s : State) : (readT wc b s).cpt.lastReset = s.cpt.lastReset := by unfold readT; dsimp only; (repeat' split) <;> simp

@[simp] theorem boundary_stb (b : Bool) (s : State) : (boundary b s).stb = s.stb := by unfold boundary; (repeat' split) <;> simp
@[simp] theorem boundary_mst (b : Bool) (s : State) : (boundary b s).mst = s.mst := by unfold boundary; (repeat' split) <;> simp
@[simp] theorem boundary_rse (b : Bool) (s : State) : (boundary b s).rse = s.rse := by unfold boundary; (repeat' split) <;> simp
@[simp] theorem boundary_flk (b : Bool) (s : State) : (boundary b s).flk = s.flk := by unfold boundary; (repeat' split) <;> simp
@[simp] theorem boundary_pkp (b : Bool) (s : State) : (boundary b s).pkp = s.pkp := by unfold boundary; (repeat' split) <;> simp
@[simp] theorem boundary_plp (b : Bool) (s : State) : (boundary b s).plp = s.plp := by unfold boundary; (repeat' split) <;> simp
@[simp] theorem boundary_lsc (b : Bool) (s : State) : (boundary b s).lsc = s.lsc := by unfold boundary; (repeat' split) <;> simp
@[simp] theorem boundary_wgd (b : Bool) (s : State) : (boundary b s).wgd = s.wgd := by unfold boundary; (repeat' split) <;> simp
@[simp] theorem boundary_lines (b : Bool) (s : State) : (boundary b s).lines = s.lines := by unfold boundary; (repeat' split) <;> simp
@[simp] theorem boundary_pending (b : Bool) (s : State) : (boundary b s).pending = s.pending := by unfold boundary; (repeat' split) <;> simp
@[simp] theorem boundary_port (b : Bool) (s : State) : (boundary b s).cpt.port = s.cpt.port := by unfold boundary; (repeat' split) <;> simp
@[simp] theorem boundary_busyReply (b : Bool) (s : State) : (boundary b s).cpt.busyReply = s.cpt.busyReply := by unfold boundary; (repeat' split) <;> simp
@[simp] theorem boundary_reading (b : Bool) (s : State) : (boundary b s).cpt.reading = s.cpt.reading := by unfold boundary; (repeat' split) <;> simp
@[simp] theorem boundary_writing (b : Bool) (s : State) : (boundary b s).cpt.writing = s.cpt.writing := by unfold boundary; (repeat' split) <;> simp
@[simp] theorem boundary_spiOut (b : Bool) (s : State) : (boundary b s).cpt.spiOut = s.cpt.spiOut := by unfold boundary; (repeat' split) <;> simp
@[simp] theorem boundary_settings (b : Bool) (s : State) : (boundary b s).cpt.settings = s.cpt.settings := by unfold boundary; (repeat' split) <;> simp
@[simp] theorem boundary_lastReset (b : Bool) (s : State) : (boundary b s).cpt.lastReset = s.cpt.lastReset := by unfold boundary; (repeat' split) <;> simp

@[simp] theorem boundaries_stb (b : Bool) (n : Nat) (s : State) : (boundaries b n s).stb = s.stb := by
  induction n generalizing s with
  | zero => rfl
  | succ n ih => simp [boundaries, ih]
@[simp] theorem boundaries_mst (b : Bool) (n : Nat) (s : State) : (boundaries b n s).mst = s.mst := by
  induction n generalizing s with
  | zero => rfl
  | succ n ih => simp [boundaries, ih]
@[simp] theorem boundaries_rse (b : Bool) (n : Nat) (s : State) : (boundaries b n s).rse = s.rse := by
  induction n generalizing s with
  | zero => rfl
  | succ n ih => simp [boundaries, ih]
@[simp] theorem boundaries_flk (b : Bool) (n : Nat) (s : State) : (boundaries b n s).flk = s.flk := by
  induction n generalizing s with
  | zero => rfl
  | succ n ih => simp [boundaries, ih]
@[simp] theorem boundaries_pkp (b : Bool) (n : Nat) (s : State) : (boundaries b n s).pkp = s.pkp := by
  induction n generalizing s with
  | zero => rfl
  | succ n ih => simp [boundaries, ih]
@[simp] theorem boundaries_plp (b : Bool) (n : Nat) (s : State) : (boundaries b n s).plp = s.plp := by
  induction n generalizing s with
  | zero => rfl
  | succ n ih => simp [boundaries, ih]
@[simp] theorem boundaries_lsc (b : Bool) (n : Nat) (s : State) : (boundaries b n s).lsc = s.lsc := by
  induction n generalizing s with
  | zero => rfl
  | succ n ih => simp [boundaries, ih]
@[simp] theorem boundaries_wgd (b : Bool) (n : Nat) (s : State) : (boundaries b n s).wgd = s.wgd := by
  induction n generalizing s with
  | zero => rfl
  | succ n ih => simp [boundaries, ih]
@[simp] theorem boundaries_lines (b : Bool) (n : Nat) (s : State) : (boundaries b n s).lines = s.lines := by
  induction n generalizing s with
  | zero => rfl
  | succ n ih => simp [boundaries, ih]
@[simp] theorem boundaries_pending (b : Bool) (n : Nat) (s : State) : (boundaries b n s).pending = s.pending := by
  induction n generalizing s with
  | zero => rfl
  | succ n ih => simp [boundaries, ih]
@[simp] theorem boundaries_port (b : Bool) (n : Nat) (s : State) : (boundaries b n s).cpt.port = s.cpt.port := by
  induction n generalizing s with
  | zero => rfl
  | succ n ih => simp [boundaries, ih]
@[simp] theorem boundaries_busyReply (b : Bool) (n : Nat) (s : State) : (boundaries b n s).cpt.busyReply = s.cpt.busyReply := by
  induction n generalizing s with
  | zero => rfl
  | succ n ih => simp [boundaries, ih]
@[simp] theorem boundaries_reading (b : Bool) (n : Nat) (s : State) : (boundaries b n s).cpt.reading = s.cpt.reading := by
  induction n generalizing s with
  | zero => rfl
  | succ n ih => simp [boundaries, ih]
@[simp] theorem boundaries_writing (b : Bool) (n : Nat) (s : State) : (boundaries b n s).cpt.writing = s.cpt.writing := by
  induction n generalizing s with
  | zero => rfl
  | succ n ih => simp [boundaries, ih]
@[simp] theorem boundaries_spiOut (b : Bool) (n : Nat) (s : State) : (boundaries b n s).cpt.spiOut = s.cpt.spiOut := by
  induction n generalizing s with
  | zero => rfl
  | succ n ih => simp [boundaries, ih]
@[simp] theorem boundaries_settings (b : Bool) (n : Nat) (s : State) : (boundaries b n s).cpt.settings = s.cpt.settings := by
  induction n generalizing s with
  | zero => rfl
  | succ n ih => simp [boundaries, ih]
@[simp] theorem boundaries_lastReset (b : Bool) (n : Nat) (s : State) : (boundaries b n s).cpt.lastReset = s.cpt.lastReset := by
  induction n generalizing s with
  | zero => rfl
  | succ n ih => simp [boundaries, ih]

@[simp] theorem recompute_stb (b : Bool) (s : State) : (recompute b s).stb = s.stb := by
  simp only [recompute, Computed.levels, List.foldl]; split <;> simp
@[simp] theorem recompute_mst (b : Bool) (s : State) : (recompute b s).mst = s.mst := by
  simp only [recompute, Computed.levels, List.foldl]; split <;> simp
@[simp] theorem recompute_rse (b : Bool) (s : State) : (recompute b s).rse = s.rse := by
  simp only [recompute, Computed.levels, List.foldl]; split <;> simp
@[simp] theorem recompute_flk (b : Bool) (s : State) : (recompute b s).flk = s.flk := by
  simp only [recompute, Computed.levels, List.foldl]; split <;> simp
@[simp] theorem recompute_pkp (b : Bool) (s : State) : (recompute b s).pkp = s.pkp := by
  simp only [recompute, Computed.levels, List.foldl]; split <;> simp
@[simp] theorem recompute_plp (b : Bool) (s : State) : (recompute b s).plp = s.plp := by
  simp only [recompute, Computed.levels, List.foldl]; split <;> simp
@[simp] theorem recompute_lsc (b : Bool) (s : State) : (recompute b s).lsc = s.lsc := by
  simp only [recompute, Computed.levels, List.foldl]; split <;> simp
@[simp] theorem recompute_wgd (b : Bool) (s : State) : (recompute b s).wgd = s.wgd := by
  simp only [recompute, Computed.levels, List.foldl]; split <;> simp
@[simp] theorem recompute_lines (b : Bool) (s : State) : (recompute b s).lines = s.lines := by
  simp only [recompute, Computed.levels, List.foldl]; split <;> simp
@[simp] theorem recompute_pending (b : Bool) (s : State) : (recompute b s).pending = s.pending := by
  simp only [recompute, Computed.levels, List.foldl]; split <;> simp
@[simp] theorem recompute_port (b : Bool) (s : State) : (recompute b s).cpt.port = s.cpt.port := by
  simp only [recompute, Computed.levels, List.foldl]; split <;> simp
@[simp] theorem recompute_busyReply (b : Bool) (s : State) : (recompute b s).cpt.busyReply = s.cpt.busyReply := by
  simp only [recompute, Computed.levels, List.foldl]; split <;> simp
@[simp] theorem recompute_reading (b : Bool) (s : State) : (recompute b s).cpt.reading = s.cpt.reading := by
  simp only [recompute, Computed.levels, List.foldl]; split <;> simp
@[simp] theorem recompute_writing (b : Bool) (s : State) : (recompute b s).cpt.writing = s.cpt.writing := by
  simp only [recompute, Computed.levels, List.foldl]; split <;> simp
@[simp] theorem recompute_spiOut (b : Bool) (s : State) : (recompute b s).cpt.spiOut = s.cpt.spiOut := by
  simp only [recompute, Computed.levels, List.foldl]; split <;> simp
@[simp] theorem recompute_settings (b : Bool) (s : State) : (recompute b s).cpt.settings = s.cpt.settings := by
  simp only [recompute, Computed.levels, List.foldl]; split <;> simp
@[simp] theorem recompute_lastReset (b : Bool) (s : State) : (recompute b s).cpt.lastReset = s.cpt.lastReset := by
  simp only [recompute, Computed.levels, List.foldl]; split <;> simp

end Sys2Proof.Machine
end

