-- ==== Sys2Proof/Laws/Ops.lean ====
section
/-! SUPPORT. What each shared operation does, said once: what a place holds after a pin is released or a tally added, what becomes of the
queue when an entry ends, and the cases of the operations that choose.  A proof cites these and does not unfold the operation. -/

namespace Sys2Proof.Machine

/-! ### The command port -/

/-- A frame written by the rules of R207 fits its length. -/
theorem lengthFits_put (p : List Byte) (n : Nat) (h : p.length = n) (hn : n < 65536) : lengthFits (putU16 p.length ++ p) n = true := by
  have e : u16 (putU16 p.length ++ p) 0 = p.length := by
    simp only [putU16, putU8, u16, u8]; simp; omega
  unfold lengthFits
  rw [e]
  simp [putU16, putU8, h]

theorem drop_put (p : List Byte) : (putU16 p.length ++ p).drop 2 = p := by simp [putU16, putU8]

/-- A request received with the port not IDLE goes into the busy reply (R190). -/
theorem takeRequest_busy (code : Byte) (len : Nat) (serve : List Byte → State → State) (body : List Byte) (s : State)
    (h : s.cpt.port ≠ .idle) : takeRequest code len serve body s = { s with cpt := { s.cpt with busyReply := some code } } := by
  simp [takeRequest, h]

/-- A frame that does not fit is answered BAD_LENGTH (R189). -/
theorem takeRequest_badLength (code : Byte) (len : Nat) (serve : List Byte → State → State) (body : List Byte) (s : State)
    (h : s.cpt.port = .idle) (hl : lengthFits body len = false) :
    takeRequest code len serve body s = answerStatus code .badLength s := by simp [takeRequest, h, hl]

/-- A frame that fits is served. -/
theorem takeRequest_served (code : Byte) (len : Nat) (serve : List Byte → State → State) (body : List Byte) (s : State)
    (h : s.cpt.port = .idle) (hl : lengthFits body len = true) : takeRequest code len serve body s = serve (body.drop 2) s := by
  simp [takeRequest, h, hl]

/-- What a request write does: it fixes the port status byte at its first byte; it is taken at its release, with the byte fixed or the one
the port has; or it is no transaction (R188). -/
theorem transaction_cases (code : Byte) (w : HostWrite) (take : List Byte → State → State) (s : State) :
    (w = .firstByte ∧ transaction code w take s
        = { s with cpt := { s.cpt with reading := none, writing := some { code, statusByte := s.cpt.statusByte } } })
      ∨ (∃ body b, (w = .whole body ∧ b = s.cpt.statusByte ∨ w = .release body ∧ s.cpt.writing = some { code, statusByte := b })
        ∧ transaction code w take s = endWrite b body (take body s))
      ∨ transaction code w take s = s := by
  unfold transaction
  cases w with
  | firstByte => exact .inl ⟨rfl, rfl⟩
  | whole body => exact .inr (.inl ⟨body, _, .inl ⟨rfl, rfl⟩, rfl⟩)
  | release body =>
    cases hw : s.cpt.writing with
    | none => exact .inr (.inr rfl)
    | some f =>
      by_cases hc : f.code = code
      · subst hc; exact .inr (.inl ⟨body, f.statusByte, .inr ⟨rfl, rfl⟩, by simp⟩)
      · exact .inr (.inr (by simp [hc]))

/-! ### The outgoing queue -/

theorem send_room (m : List Byte) (s : State) (h : s.flk.out.length < 32) :
    send m s = { s with flk := { s.flk with out := s.flk.out ++ [m] } } := by simp [send, h]

theorem send_full (m : List Byte) (s : State) (h : 32 ≤ s.flk.out.length) : send m s = linkFault s := by
  simp [send, Nat.not_lt.mpr h]

/-! ### Record places -/

/-- The generations of the places. -/
def State.gens (s : State) : List Nat := s.stb.map (·.gen)

theorem record_withRecord (s : State) (i j : Nat) (f : Record → Record) :
    (s.withRecord i f).record j = if i = j then (s.record j).map f else s.record j := by
  simp only [State.record, State.withRecord, State.withPlace, List.getElem?_modify]
  cases s.stb[j]? with
  | none => simp
  | some p => by_cases h : i = j <;> simp [h]

@[simp] theorem gens_withRecord (s : State) (i : Nat) (f : Record → Record) : (s.withRecord i f).gens = s.gens := by
  simp only [State.gens, State.withRecord, State.withPlace]
  apply List.ext_getElem?
  intro j
  simp only [List.getElem?_map, List.getElem?_modify]
  cases s.stb[j]? with
  | none => rfl
  | some p => by_cases h : i = j <;> simp [h]

/-- A freed place holds no record; the others keep theirs (R10, R33). -/
theorem record_freePlace (i j : Nat) (s : State) : (freePlace i s).record j = if i = j then none else s.record j := by
  unfold freePlace
  cases h : s.record i with
  | none => by_cases e : i = j <;> simp [e]; rw [← e]; exact h
  | some r =>
    simp only [State.record, State.withPlace, State.withSlot, List.getElem?_modify]
    cases s.stb[j]? with
    | none => simp
    | some p => by_cases e : i = j <;> simp [e]

@[simp] theorem gens_freePlace (i : Nat) (s : State) : (freePlace i s).gens = s.gens := by
  unfold freePlace
  cases s.record i with
  | none => rfl
  | some r =>
    simp only [State.gens, State.withPlace, State.withSlot]
    apply List.ext_getElem?
    intro j
    simp only [List.getElem?_map, List.getElem?_modify]
    cases s.stb[j]? with
    | none => rfl
    | some p => by_cases h : i = j <;> simp [h]

/-- A record after one of its pins is released: gone when it was RETIRING with no other pin (R11, R74). -/
def Record.unpinned (r : Record) : Option Record :=
  if r.state = .retiring ∧ r.pins - 1 = 0 then none else some { r with pins := r.pins - 1 }

theorem record_unpin (i j : Nat) (s : State) :
    (unpin i s).record j = if i = j then (s.record j).bind Record.unpinned else s.record j := by
  simp only [unpin]
  cases h : (s.withRecord i fun r => { r with pins := r.pins - 1 }).record i with
  | none =>
    simp only [record_withRecord, if_true] at h ⊢
    by_cases e : i = j
    · subst e; simp at h; simp [h]
    · simp [e]
  | some q =>
    simp only [record_withRecord, if_true] at h
    obtain ⟨r, hr, rfl⟩ := Option.map_eq_some_iff.mp h
    by_cases c : r.state = .retiring ∧ r.pins - 1 = 0
    · simp only [c, and_self, if_true, record_freePlace, record_withRecord]
      by_cases e : i = j
      · subst e; simp [hr, Record.unpinned, c]
      · simp [e]
    · simp only [c, if_false, record_withRecord]
      by_cases e : i = j
      · subst e; simp [hr, Record.unpinned, c]
      · simp [e]

@[simp] theorem gens_unpin (i : Nat) (s : State) : (unpin i s).gens = s.gens := by
  simp only [unpin]; (repeat' split) <;> simp

@[simp] theorem gens_release (e : Entry) (s : State) : (release e s).gens = s.gens :=
  foldl_keeps State.gens (fun s (h : Handle) => unpin h.index s) (fun s h => gens_unpin h.index s) _ s

/-- A record after a tally is added to it (R70). -/
def Record.tallied (tally : Nat) (r : Record) : Record :=
  { r with
    onTime := addOnTime r.onTime tally
    state := if crosses r.ageThreshold r.onTime (addOnTime r.onTime tally) = true ∧ r.state = .active then .suspect else r.state }

theorem record_addTally (i j tally : Nat) (s : State) :
    (addTally i tally s).record j = if i = j then (s.record j).map (Record.tallied tally) else s.record j := by
  simp only [addTally]
  cases h : s.record i with
  | none => by_cases e : i = j <;> simp [e]; rw [← e, h]; rfl
  | some r =>
    have k : ∀ (f : Record → Record) (g : Notices → Notices), ((s.withRecord i f).withNotices g).record j = (s.withRecord i f).record j :=
      fun _ _ => rfl
    have out : ∀ (b : Bool) (g : Notices → Notices) (u : State),
        (if b = true then u.withNotices g else u).record j = u.record j := by intro b g u; cases b <;> rfl
    rw [out, record_withRecord]
    by_cases e : i = j
    · subst e
      simp only [if_true, h, Option.map_some, Record.tallied]
      cases r.state <;> simp
    · simp [e]

@[simp] theorem gens_addTally (i tally : Nat) (s : State) : (addTally i tally s).gens = s.gens := by
  simp only [addTally]
  split
  · rfl
  · split
    · show (State.withRecord _ _ _).gens = _; simp
    · simp

@[simp] theorem gens_storeCorrection (h : Handle) (corr : Int) (limit : Bool) (s : State) :
    (storeCorrection h corr limit s).gens = s.gens := by
  simp only [storeCorrection]
  split
  · split
    · split
      · show (State.withRecord _ _ _).gens = _; simp
      · simp
    · rfl
  · rfl

@[simp] theorem gens_partialWriteBack (wc : WorkingCopy) (s : State) : (partialWriteBack wc s).gens = s.gens :=
  foldl_keeps State.gens _ (fun s h => by simp) _ s

@[simp] theorem gens_fullWriteBack (wc : WorkingCopy) (limit : Bool) (s : State) : (fullWriteBack wc limit s).gens = s.gens :=
  foldl_keeps State.gens _ (fun s h => by simp only [gens_unpin]; split <;> simp) _ s

/-! ### Entries that end -/

/-- An entry that ends leaves the queue; the others keep their order (R101). -/
theorem finishEntry_queue (o : DoneOutcome) (e : Entry) (s : State) :
    (finishEntry o e s).sgq.queue = s.sgq.queue.filter (·.pos ≠ e.pos) := by
  simp only [finishEntry]; split
  · rw [send_sgq]; rfl
  · simp only [countEvent]; rw [send_sgq]; rfl

/-- A jump that the entry requested is charged to no entry from then on (R88). -/
theorem finishEntry_requester (o : DoneOutcome) (e : Entry) (s : State) :
    (finishEntry o e s).sgq.requester = if s.sgq.requester = some e.tag then none else s.sgq.requester := by
  simp only [finishEntry]; split
  · rw [send_sgq]; rfl
  · simp only [countEvent]; rw [send_sgq]; rfl

/-- A lookup in flight for the entry goes on without it (R50); nothing else of the engine moves. -/
theorem finishEntry_engine (o : DoneOutcome) (e : Entry) (s : State) :
    (finishEntry o e s).rse =
      { s.rse with inFlight := if s.rse.inFlight = .segment e.pos e.tag then .gone e.pos e.tag else s.rse.inFlight } := by
  simp only [finishEntry]; split
  · rw [send_rse]; rfl
  · simp only [countEvent]; rw [send_rse]; rfl

/-- What one entry of a flush meets: left alone, a partial write-back, the end of a read, or a release (R99, R100). -/
theorem flushEntry_cases (o : DoneOutcome) (s : State) (e : Entry) :
    (e.state = .closing ∧ flushEntry o s e = s)
      ∨ (∃ wc, e.state = .active ∧ e.copy = .strategy wc ∧ flushEntry o s e = endActiveWrite o wc e s)
      ∨ (e.state = .active ∧ (∀ wc, e.copy ≠ .strategy wc) ∧ flushEntry o s e = finishEntry .aborted e s)
      ∨ (e.state ≠ .closing ∧ e.state ≠ .active ∧ flushEntry o s e = endEntry .aborted e s) := by
  unfold flushEntry
  by_cases hc : e.state = .closing
  · exact .inl ⟨hc, by simp [hc]⟩
  by_cases ha : e.state = .active
  · cases h : e.copy with
    | strategy wc => exact .inr (.inl ⟨wc, ha, rfl, by simp [ha]⟩)
    | none => exact .inr (.inr (.inl ⟨ha, nofun, by simp [ha]⟩))
    | read p => exact .inr (.inr (.inl ⟨ha, nofun, by simp [ha]⟩))
  · exact .inr (.inr (.inr ⟨hc, ha, by simp [hc, ha]⟩))

/-! ### Operations that choose -/

/-- The four outcomes of judging an ARMING head (R87 to R90). -/
theorem judgeHead_cases (next : State → State) (e : Entry) (s : State) :
    judgeHead next e s = s ∨ judgeHead next e s = requestJump e s ∨ judgeHead next e s = armHead e s
      ∨ ∃ o, judgeHead next e s = next (endEntry o e s) := by
  unfold judgeHead
  cases judge s e with
  | wait => exact .inl rfl
  | jump => exact .inr (.inl rfl)
  | pass => exact .inr (.inr (.inl rfl))
  | fail o => exact .inr (.inr (.inr ⟨o, rfl⟩))

/-- With no READY head the queue does not go on. -/
theorem goOn_idle (s : State) (h : s.sgq.queue.head?.all (fun e => decide (e.state ≠ .ready)) = true) : goOn s = s := by
  unfold goOn
  cases hq : s.sgq.queue with
  | nil => rfl
  | cons e q =>
    simp only [hq, List.head?_cons, Option.all_some, decide_eq_true_eq] at h
    simp [advance, hq, h]

/-- What the arbiter does: nothing, the host's lookup, or a PENDING write's (R39). -/
theorem arbiter_cases (s : State) :
    arbiter s = s
      ∨ (∃ r, s.rse.waiting = some r ∧ arbiter s = { s with rse := { inFlight := .host r, waiting := none, waitCount := 0 } })
      ∨ ∃ e, s.sgq.oldestPending = some e
        ∧ arbiter s = { s.withEntry e.pos ({ · with state := .resolving }) with
                        rse := { s.rse with inFlight := .segment e.pos e.tag } } := by
  unfold arbiter
  split
  · exact .inl rfl
  · split
    · exact .inr (.inl ⟨_, ‹_›, rfl⟩)
    · split
      · exact .inr (.inl ⟨_, ‹_›, rfl⟩)
      · exact .inr (.inr ⟨_, ‹_›, rfl⟩)
    · exact .inr (.inr ⟨_, ‹_›, rfl⟩)
    · exact .inl rfl

/-- The end of an event leaves the codes as they are or computes them once (R155). -/
theorem settleCodes_cases (before after : State) :
    settleCodes before after = after
      ∨ settleCodes before after = recompute (decide (before.lsc.laser ≠ after.lsc.laser)) after := by
  unfold settleCodes
  split
  · exact .inr rfl
  · exact .inl rfl

/-- Without a change of laser state, governing entry or causes the codes stand (R155). -/
theorem settleCodes_same (before after : State) (hl : before.lsc = after.lsc)
    (hg : before.sgq.governing.map (·.pos) = after.sgq.governing.map (·.pos)) : settleCodes before after = after := by
  simp [settleCodes, recomputeDue, hl, hg]

/-- A hand-over presents the set or leaves it waiting (R140). -/
theorem handOver_cases (b : Bool) (c : CodeSet) (s : State) :
    handOver b c s = { s with pgn := { s.pgn with presented := c, waiting := none } }
      ∨ (b = false ∧ s.lsc.laser = .write ∧ handOver b c s = { s with pgn := { s.pgn with waiting := some c } }) := by
  unfold handOver
  split
  · exact .inl rfl
  · rename_i h
    push Not at h
    exact .inr ⟨by simpa using h.1, h.2, rfl⟩

/-- A cause that the set holds already changes nothing in HOLD (R174). -/
theorem raiseCause_again (c : HoldCause) (s : State) (h : s.lsc.laser = .hold) (hc : s.lsc.causes.has c = true) : raiseCause c s = s := by
  simp [raiseCause, h, hc]

/-- A further cause in HOLD joins the set (R174). -/
theorem raiseCause_joins (c : HoldCause) (s : State) (h : s.lsc.laser = .hold) (hc : s.lsc.causes.has c = false) :
    raiseCause c s
      = { s with lsc := { s.lsc with causes := s.lsc.causes.join c } }.withNotices ({ · with holdEntered := true }) := by
  simp [raiseCause, h, hc]

/-- A cause in another laser state enters HOLD (R174). -/
theorem raiseCause_enters (c : HoldCause) (s : State) (h : s.lsc.laser ≠ .hold) : raiseCause c s = enterHold c s := by
  simp [raiseCause, h]

/-! ### Reading WDATA -/

/-- A sample is due only in a write whose output has come to it (R173). -/
theorem sampleDue_write (s : State) (o : OfferedSample) (h : s.sampleDue = some o) : s.lsc.laser = .write := by
  unfold State.sampleDue at h
  split at h
  · assumption
  · cases h

/-- A sample that is due at a trip is left to be taken or not, as the free value has it; nothing else changes (R163, R173). -/
theorem keepSample_cases (sample : Option OfferedSample) (s : State) :
    (sample = none ∧ keepSample sample s = s)
      ∨ ∃ o, sample = some o ∧ keepSample sample s
          = { s with lsc := { s.lsc with offered := if Config.sampleSurvivesTrip then some o else none } } := by
  cases sample with
  | none => exact .inl ⟨rfl, rfl⟩
  | some o => exact .inr ⟨o, rfl, rfl⟩

/-- A sample taken in HOLD joins OVERPOWER to the causes when it lies above its trip level (R173), and is gone afterwards either way. -/
theorem takeOffered_cases (o : OfferedSample) (reading : Nat) (s : State) (h : s.lsc.laser = .hold) :
    let gone : State := { s with lsc := { s.lsc with offered := none } }
    (o.ceiling + s.cpt.settings.tripMargin < reading ∧ s.lsc.causes.has .overpower = false ∧
        takeOffered o reading s = settleCodes s
          ({ gone with lsc := { gone.lsc with causes := s.lsc.causes.join .overpower } }.withNotices ({ · with holdEntered := true })))
      ∨ ((reading ≤ o.ceiling + s.cpt.settings.tripMargin ∨ s.lsc.causes.has .overpower = true) ∧ takeOffered o reading s = gone) := by
  unfold takeOffered
  split
  · rename_i hm
    cases hc : s.lsc.causes.has .overpower
    · exact .inl ⟨hm, rfl, by simp [raiseCause, h, hc]⟩
    · exact .inr ⟨.inr rfl, by simp [raiseCause, h, hc, settleCodes, recomputeDue]⟩
  · exact .inr ⟨.inl (by omega), rfl⟩

/-- The first T of a mark (R126, R136, R140): its start comes up, and a space of 5T or more before it brings up its end, and its midpoint unless
that has been read. -/
theorem beginMark_cases (i : Nat) (g : Pgn) :
    let begun := { g with run := { mark := true, len := 1, own := true }, starts := g.starts ++ [32 * (i : Int)], early := none }
    (∃ e, g.lastEnd = some e ∧ e + 5 ≤ i ∧
        g.beginMark i = { begun with
          spaces := g.spaces ++ [32 * (i : Int)]
          mids := if g.readEarly (32 * (i : Int) - 16 * ((i : Int) - e)) then g.mids
            else g.mids ++ [32 * (i : Int) - 16 * ((i : Int) - e)] })
      ∨ ((∀ e ∈ g.lastEnd, i < e + 5) ∧ g.beginMark i = begun) := by
  unfold Pgn.beginMark
  cases he : g.lastEnd with
  | none => exact .inr ⟨by simp, rfl⟩
  | some e =>
    by_cases h : e + 5 ≤ i
    · exact .inl ⟨e, rfl, h, by simp [h]⟩
    · exact .inr ⟨by simp; omega, by simp [h]⟩

/-- A train meets the tail of the one before it in one of four ways (R133). -/
theorem meetTail_cases (old : List Edge) (tail : Option Tail) (first : Edge) (more : List Edge) :
    (tail = none ∧ meetTail old tail (first :: more) = (old ++ first :: more, 0))
      ∨ ∃ t, tail = some t
        ∧ (first.pos ≤ t.fall ∧ meetTail old tail (first :: more) = (old.filter (·.pos < t.fall) ++ more, 1)
          ∨ t.fall < first.pos ∧ first.pos < t.gapEnd
            ∧ meetTail old tail (first :: more) = (old.filter (·.pos < t.gapEnd) ++ first :: more, 1)
          ∨ t.fall < first.pos ∧ t.gapEnd ≤ first.pos
            ∧ meetTail old tail (first :: more) = (old.filter (·.pos < first.pos) ++ first :: more, 0)) := by
  cases tail with
  | none => exact .inl ⟨rfl, rfl⟩
  | some t =>
    refine .inr ⟨t, rfl, ?_⟩
    by_cases h1 : first.pos ≤ t.fall
    · exact .inl ⟨h1, by simp [meetTail, h1]⟩
    · by_cases h2 : first.pos < t.gapEnd
      · exact .inr (.inl ⟨by omega, h2, by simp [meetTail, h1, h2]⟩)
      · exact .inr (.inr ⟨by omega, by omega, by simp [meetTail, h1, h2]⟩)

/-- A pulse added behind an edge merges with it or stands by itself (R132). -/
theorem retainBehind_pulse (edges : List Edge) (last : Edge) (rise : Int) (width : Nat) (hw : 0 < width)
    (hl : ∀ e ∈ edges.getLast?, e.pos < rise + width) :
    retainBehind (edges ++ [last]) (pulse rise width)
      = if last.pos < rise then (edges ++ last :: pulse rise width, 0)
        else (edges ++ [{ pos := rise + width, level := .cool }], 1) := by
  have hp : rise < rise + width := by omega
  by_cases h : last.pos < rise
  · simp [retainBehind, pulse, retain, h, hp]
  · cases hr : edges.reverse with
    | nil =>
      have : edges = [] := by simpa using hr
      subst this; simp [retainBehind, pulse, retain, h]
    | cons e r =>
      have he : edges = r.reverse ++ [e] := by rw [← List.reverse_reverse edges, hr]; simp
      have : e.pos < rise + width := hl e (by simp [he])
      simp [retainBehind, pulse, retain, h, this, he]

/-! ### Reading WDATA -/

/-- A boundary of CCLK: kept as the level alone outside a write, not yet come while an output stands before it, or the next T read (R126). -/
theorem boundary_cases (w : Bool) (s : State) :
    (boundary w s = { s with pgn := { s.pgn with run := { mark := w, len := 0, own := false } } }
        ∧ (s.lsc.laser ≠ .write ∨ s.sgq.activeWrite = none))
      ∨ (s.lsc.laser = .write ∧ ∃ e wc, s.sgq.activeWrite = some (e, wc)
          ∧ (s.pgn.outputDue = true ∧ boundary w s = s ∨ s.pgn.outputDue = false ∧ boundary w s = readT wc w s)) := by
  unfold boundary
  split
  · next e wc hl ha =>
    cases hd : s.pgn.outputDue
    · exact .inr ⟨hl, e, wc, ha, .inr ⟨rfl, by simp⟩⟩
    · exact .inr ⟨hl, e, wc, ha, .inl ⟨rfl, by simp⟩⟩
  · next h =>
    refine .inl ⟨rfl, ?_⟩
    cases ha : s.sgq.activeWrite with
    | none => exact .inr rfl
    | some p => exact .inl fun hl => h p.1 p.2 hl ha

/-- What every boundary keeps, boundaries in a row keep. -/
theorem boundaries_keep {P : State → Prop} {w : Bool} (h : ∀ s, P s → P (boundary w s)) :
    ∀ (n : Nat) (s : State), P s → P (boundaries w n s)
  | 0, _, hs => hs
  | n + 1, s, hs => boundaries_keep h n (boundary w s) (h s hs)

/-! ### Arriving messages -/

/-- In step and between messages, the six bytes of a good message deliver it (R78). -/
theorem receive_good (c b1 b2 b3 b4 : Byte) (s : State) (hs : s.flk.side = .inStep) (hr : s.flk.rx = [])
    (hc : c = 193 ∨ c = 194 ∨ c = 195) :
    receive (linkMessage c b1 b2 b3 b4) s = deliver { code := c, b1, b2, b3, b4, check := checkByte c b1 b2 b3 b4 } s := by
  have h0 : ¬ c = 0#8 := by rcases hc with rfl | rfl | rfl <;> decide
  have hc' : c = 193#8 ∨ c = 194#8 ∨ c = 195#8 := hc
  have back : ({ s.flk with side := .inStep, rx := [] } : Flk) = s.flk := by rw [← hr, ← hs]
  simp only [receive, linkMessage, List.foldl, receiveByte, hs, hr]
  simp [State.withRx, hs, h0, completeMessage, messageGood, hc']
  rw [back]

end Sys2Proof.Machine
end

