-- ==== Sys2Proof/WellFormed.lean ====
section
/-! DEFINITION. Which terms of `Instr` stand for something that can happen at the part's pins: the ranges of the operands that events
carry.  Any list of bytes is a request body that a host can clock in, so the requests have no check of their own. -/

namespace Sys2Proof

/-- The request codes of R207. -/
def requestCodes : List Nat :=
  [16, 17, 18, 19, 20, 21, 32, 33, 34, 35, 36, 37, 38, 39, 48, 49, 50, 64, 65, 66, 80, 81, 82, 83, 96, 97, 112, 113, 128, 129, 130,
    131, 132]

/-- The levels found at a reset name a layer that FLAY can show. -/
def FoundLines.wellFormed (f : FoundLines) : Bool := decide (f.flay ≤ 3)

/-- Whether a command's operands can occur: an unknown request's code names no request and is not 0 (R188, R189), a discarded message has
a code byte and is not a good message (R78), readings lie within their ranges (R156, R159) and FLAY
shows a layer 0..3. -/
def Instr.wellFormed : Instr → Bool
  | .unknownRequest code _ => decide (code ≠ 0) && !requestCodes.contains code.toNat
  | .linkMessageDiscarded m => decide (m.code ≠ 0) && !Machine.messageGood m
  | .powerOnReset f => f.wellFormed
  | .pinReset f => f.wellFormed
  | .softReset r => r.found.wellFormed
  | .peakSample m => decide (m ≤ 1500)
  | .returnSample m => decide (m ≤ 255)
  | .spaceMidpointReading m => decide (m ≤ 1500)
  | .fokRise l => decide (l ≤ 3)
  | .flayChange l => decide (l ≤ 3)
  | _ => true

end Sys2Proof
end

