-- ==== Sys2Proof/Tests/Slice0.lean ====
section
/-! SUPPORT. The model's own tests: ill-formed commands that `Instr.wellFormed` refuses, worked figures of spec/, and for every
statement with hypotheses a state and operands that meet them, clause by clause, at boundary values where a clause has a range. -/

namespace Sys2Proof.Tests

open Sys2Proof.Machine Sys2Proof.Stated

/-! ### The bench -/

/-- The strategy of the worked case of spec/08, with the shape of the derived copy of spec/03. -/
def strat : Strategy :=
  { pp := 396, ps := 140, pc := 0, dT := 1, tf := 37, tm := 18, tl := 23, tc := 25, overrides := [⟨2, 3, -2⟩], dt := 150 }

def key : Key := ⟨1, 0, 7, 2⟩

def record (st : RecState) (pins : Nat) : Record :=
  { key, strat, corr := 12, onTime := 99, ageThreshold := 100, state := st, pins }

def copy : WorkingCopy := { kind := .exact, key, strat, running := 12, initial := 12, sources := [⟨10, 2⟩], tally := 1 }

def entry (st : EntryState) (c : Copy) : Entry :=
  { pos := 0, tag := 3, kind := .write, cls := .w, layer := 0, zone := 7, speed := 2, state := st, copy := c, captured := none
    warnings := Warnings.empty }

/-- A read entry that holds its read power. -/
def readEntry (st : EntryState) : Entry := { entry st (.read 14) with kind := .read, cls := .r, zone := 0, speed := 0 }

/-- The part of the worked case of spec/08: slot 1 mounted, one record in place 10, the laser in READ, the position valid in zone 7,
a measurement at the lowest count of class 2's window. -/
def base : State :=
  { State.reset with
    stb := freeTable.set 10 { gen := 2, held := some (record .active 0) }
    mst := (List.replicate 8 Slot.empty).set 1 { state := .mounted, identity := 5, layers := [⟨14, 440, 100⟩], records := 1 }
    flk := { Flk.reset with out := [], idleFirst := false }
    pkp := { Pkp.reset with sled := 10775, valid := true, measurement := some 800, focus := .steady 0 }
    plp :=
      { Plp.reset with
        diode := { ithRef := 1200, sRef := 640, tRef := 100, kI := 24, kS := 16, defaultRead := 16 }
        diodeValid := true, limits := some ⟨600, 3200⟩, sample := some 140 }
    lsc := { Lsc.reset with laser := .read }
    wgd := { keepalive := none, tickTaken := false, supplyWarn := false } }

/-- The base with a queue, and the record in place 10 pinned by `n` entries. -/
def holding (n : Nat) (q : List Entry) : State :=
  { base with stb := freeTable.set 10 { gen := 2, held := some (record .active n) }, sgq := { queue := q, requester := none } }

/-- The base with its one record freed. -/
def bare (q : List Entry) : State :=
  { base with
    stb := freeTable
    mst := (List.replicate 8 Slot.empty).set 1 { state := .mounted, identity := 5, layers := [⟨14, 440, 100⟩], records := 0 }
    sgq := { queue := q, requester := none } }

def activeEntry : Entry := { entry .active (.strategy copy) with captured := some ⟨440, 14⟩ }

/-- The write of the worked case, under way. -/
def running : State :=
  { holding 1 [activeEntry] with
    pgn := { Pgn.reset with level := .space, presented := ⟨1251, 1576, 2233, 0⟩ }
    lsc := { Lsc.reset with laser := .write }
    wgd := { keepalive := some { count := 0, k := 4 }, tickTaken := false, supplyWarn := false }
    lines := { Lines.reset with wgate := true } }

def withLaser (l : LaserState) (s : State) : State :=
  { s with lsc :=
      { laser := l, causes := if l = .hold then HoldCauses.empty.join .gateEarly else HoldCauses.empty
        settle := if l = .settling then some 0 else none, ret := if l = .hold then some .lit else none } }

/-- The host waits for a lookup that stands in flight. -/
def searching (r : HostLookup) (code : Byte) : State :=
  { base with rse := { Rse.reset with inFlight := .host r }, cpt := { base.cpt with port := .serving code } }

/-- The state an outcome answers. -/
def after : Host.Outcome State Fault Refusal → Option State
  | .next s => some s
  | _ => none

/-- The invariants that several statements assume together. -/
def sound (s : State) : Bool := decide (Safety.WriteGuarded s) && decide (Safety.PinsAgree s)

theorem sound_iff (s : State) : sound s = true ↔ Safety.WriteGuarded s ∧ Safety.PinsAgree s := by
  simp only [sound, Bool.and_eq_true, decide_eq_true_eq]

/-- The port's status code in the state an outcome answers. -/
def answered (o : Host.Outcome State Fault Refusal) : Option (Nat × List Byte) :=
  (after o).bind fun s => match s.cpt.port with
    | .responseReady f => some (f.status.toNat, f.payload)
    | _ => none

/-! ### WellFormed -/

theorem test_unknown_request_of_a_known_code_is_ill_formed : (Instr.unknownRequest 16 (.whole [])).wellFormed = false := by decide
theorem test_good_message_is_no_discarded_message :
    (Instr.linkMessageDiscarded ⟨194, 0x30, 0, 0, 0, 14⟩).wellFormed = false := by decide
theorem test_reset_that_finds_layer_4_is_ill_formed :
    (Instr.powerOnReset ⟨false, false, false, false, false, false, 4⟩).wellFormed = false
      ∧ (Instr.pinReset ⟨false, false, false, false, false, false, 4⟩).wellFormed = false
      ∧ (Instr.softReset ⟨frame [], ⟨false, false, false, false, false, false, 4⟩⟩).wellFormed = false := by decide
theorem test_readings_out_of_range_are_ill_formed :
    (Instr.peakSample 1501).wellFormed = false ∧ (Instr.spaceMidpointReading 1501).wellFormed = false
      ∧ (Instr.returnSample 256).wellFormed = false := by decide
theorem test_flay_shows_four_layers : (Instr.fokRise 4).wellFormed = false ∧ (Instr.flayChange 4).wellFormed = false := by decide

/-- The table gives no row a bit. -/
theorem test_no_word_spells_a_command : decodeTableWord 0 0 = none := by decide

/-! ### Worked figures of spec/ -/

/-- spec/03, "Deriving zone 7". -/
theorem test_zone_7_is_interpolated :
    [interp 380 412 7 4 8, interp 132 146 7 4 8, interp 0 10 7 4 8, interp (-3) 2 7 4 8, interp 40 36 7 4 8, interp 16 18 7 4 8,
      interp 24 22 7 4 8, interp 20 26 7 4 8, interp 150 142 7 4 8, interp 8 20 7 4 8]
      = [404, 143, 8, 1, 37, 18, 23, 25, 144, 17] := by decide

/-- spec/06, the zone checks of zone 7 with guard band 24 (R113). -/
theorem test_zone_7_admits_its_guard_band :
    [9383, 9384, 10775, 10776].map (zoneCheck Config.defaultZoneMap 7 · 24) = [false, true, true, false] := by decide

/-- spec/08, "Codes at the gate rise". -/
theorem test_worked_codes :
    (after (exec .wgateRise { holding 1 [{ activeEntry with state := .armed }] with
        pgn := Pgn.reset })).map (·.pgn.presented) = some ⟨1251, 1576, 2233, 0⟩ := by decide +kernel

/-- spec/08, "A correction update". -/
theorem test_worked_correction : 12 + correctionStep 2256 150 4 = 14 := by decide

/-- spec/08, "A tracking update". -/
theorem test_worked_tracking :
    trackUpdate base.plp.diode (diodeLine base.plp.diode 140) 139 392 1576 2233 = { ithRef := 1200, sRef := 642, held := false } := by
  decide

/-- spec/07, "Trains for the derived copy of zone 7": the train of the 4T mark and the end of the 7T mark. -/
theorem test_worked_trains :
    (retained (nominalEdges strat 1 4)).1.map (·.pos + 224) = [225, 262, 288, 306, 320, 343]
      ∧ (effective strat 2).lead = 4 ∧ (effective strat 2).cool = 23
      ∧ ((retained (nominalEdges strat 1 7)).1.getLast?).map (·.pos + 608) = some 823 := by decide

/-- spec/07, "A train with collisions": the 6T mark. -/
theorem test_worked_collision :
    (retained (nominalEdges { strat with dT := 4, tf := 64, tm := 30, tl := 40, tc := 40 } 4 6)).1.map (·.pos)
      = [4, 94, 96, 126, 128, 158, 160, 200] := by decide

/-- R204: a counter that wraps keeps what is left over. -/
theorem test_counter_wraps :
    (Counter.add .queueOccupancy none 5 { Counter.cleared with event := some .queueOccupancy, value := 4294967294 }).value = 3 := by
  decide

/-- R207: GRANT's six bytes sum to 0. -/
theorem test_grant_checks : State.reset.flk.out = [[161, 2, 1, 3, 0, 89]] ∧ grantBytes.sum = 0 := by decide

/-- R192, R207: after power-on reset the enabled notices drive ATN and show in the port status byte; a waiting response adds to it. -/
theorem test_attention :
    State.reset.cpt.atn = true ∧ State.reset.cpt.statusByte = 4
      ∧ (after (exec (.ident (frame [])) State.reset)).map (·.cpt.statusByte) = some 6
      ∧ ({ base.cpt with notices := Notices.empty } : Cpt).atn = false := by decide +kernel

/-- R148, R184: a supply trip in WRITE enters HOLD with every code 0. -/
theorem test_supply_trip_darkens :
    (after (exec .ldtripAssert running)).map (fun s => (s.lsc.laser, s.pgn.presented)) = some (.hold, CodeSet.zero) := by
  decide +kernel

/-! ### The hypotheses of the statements can be met -/

theorem test_idle_queue : State.reset.pending = [] := by decide

/-- For the invariants: a write under way meets each of them, and a step is taken from it. -/
theorem test_invariants_met :
    let s := { running with pending := [.msTick] };
    (Safety.MediaTableHolds s ∧ Safety.RecordsInRange s ∧ Safety.CountsAgree s ∧ Safety.KeysLimited s ∧ Safety.PinsAgree s)
      ∧ (Safety.QueueWithinCredits s ∧ Safety.QueueShaped s) ∧ Safety.WriteGuarded s ∧ (Safety.LinkHolds s ∧ Safety.PortHolds s)
      ∧ (Safety.SettingsInRange s ∧ Safety.PickupInRange s ∧ Safety.PowerLoopInRange s)
      ∧ (Safety.CodesBounded s ∧ Safety.LaserSafe s) ∧ (after (step s)).isSome = true := by
  refine ⟨?_, ?_, ?_, ?_, ?_, ?_, ?_⟩ <;> decide +kernel

theorem test_port_idle : base.cpt.port = .idle := by decide

theorem test_requests_pass_the_port_met :
    (37, 2, Instr.recRead) ∈ requests ⟨false, false, false, false, false, false, 0⟩
      ∧ (searching (.scan KeyFilter.any 0) 39).cpt.port ≠ .idle
      ∧ ¬(2 ≤ [(0 : Byte)].length ∧ u16 [0] 0 = [(0 : Byte)].length - 2 ∧ u16 [0] 0 = 2)
      ∧ u16 [0, 1, 9] 0 = 1
      ∧ ({ base.cpt with writing := some { code := 37, statusByte := 4 } } : Cpt).writing = some { code := 37, statusByte := 4 }
      ∧ (∀ b, base.cpt.writing ≠ some { code := 37, statusByte := b }) :=
  ⟨by simp [requests], by decide, by decide, by decide, by decide, fun _ h => by cases h⟩

/-- A status byte fixed before an event of the same transaction goes out at the release (R188). -/
theorem test_status_byte_is_fixed_first :
    (after (exec (.recRead (.release [0, 2, 10, 2])) { base with cpt := { base.cpt with writing := some { code := 37, statusByte := 0 } } })).map
      (·.cpt.spiOut.head?) = some (some 0) ∧ base.cpt.statusByte = 4 := by decide +kernel

theorem test_refused_request_met :
    (80, 0, Instr.laserOn) ∈ requests ⟨false, false, false, false, false, false, 0⟩ ∧ State.reset.cpt.port = .idle
      ∧ answered (exec (.laserOn (frame [])) State.reset) = some (Status.noLimits.toNat, []) :=
  ⟨by simp [requests], by decide, by decide +kernel⟩

def settled : Frame := { status := .ok, code := 81, payload := [] }

/-- A response and a busy reply, each fixed by a first byte and emptied by the release of a complete read. -/
theorem test_response_reads_met :
    (let c : Cpt := { base.cpt with port := .responseReady settled };
      waitingActs c = .response
        ∧ (after (exec (.responseRead (.release 5)) { base with cpt := { c with reading := some ⟨2, settled, .response⟩ } })).map
            (·.cpt.port) = some .idle)
      ∧ (let c : Cpt := { base.cpt with port := .serving 39, busyReply := some 80 };
        waitingActs c = .busyReply
          ∧ (after (exec (.responseRead (.release 5))
              { base with cpt := { c with reading := some ⟨2, ⟨.busy, 80, []⟩, .busyReply⟩ } })).map (·.cpt.busyReply) = some none)
      ∧ base.cpt.reading = none := by
  decide +kernel

theorem test_read_requests_met :
    (∃ m, base.mst[(1 : Byte).toNat]? = some m ∧ m.layers.length ≤ 4)
      ∧ base.stb[(10 : Byte).toNat]? = some { gen := (2 : Byte).toNat, held := some (record .active 0) }
      ∧ (base.mst.length = 8 ∧ 7 < (8 : Byte).toNat) :=
  ⟨⟨_, rfl, by decide⟩, by decide, by decide, by decide⟩

/-- The status of the first failing check of a handle, by what REC_PROMOTE admits (R16). -/
theorem test_handle_checks :
    base.stb.length = 96
      ∧ ([(96, 2), (95, 2), (10, 1), (10, 2)].map fun h : Nat × Nat =>
          firstRefusal (handleChecks base h.1 h.2 fun r => decide (r.state = .provisional)))
        = [some .badField, some .notFound, some .stale, some .state]
      ∧ firstRefusal (handleChecks base 10 2 fun _ => true) = none
      ∧ answered (exec (.recRead (frame [10, 1])) base) = some (8, [])
      ∧ answered (exec (.recPromote (frame [10, 2])) base) = some (12, [])
      ∧ answered (exec (.recRetire (frame [96, 2])) base) = some (4, []) := by decide +kernel

theorem test_images_met :
    Safety.recordInRange (record .active 0) = true ∧ (record .active 6).pins ≤ 6 ∧ 255 ≤ 255
      ∧ (let f : KeyFilter := ⟨some 7, some 3, some (0, 23), some 3⟩;
        f.media.all (· ≤ 7) = true ∧ f.layer.all (· ≤ 3) = true ∧ f.zone.all (fun z => decide (z.1 ≤ z.2 ∧ z.2 ≤ 23)) = true
          ∧ f.speed.all (· ≤ 3) = true) := by decide

/-- SETTINGS with every setting selected, and the last counter with any filter. -/
theorem test_settings_and_counters_met :
    (let p : List Byte := [31, 255] ++ List.replicate 15 0;
      p.length = 17 ∧ u16 p 0 ≤ 8191)
      ∧ (let p : List Byte := [3, 14, 255, 255, 255, 255, 255];
        p.length = 7 ∧ u8 p 0 ≤ 3 ∧ CounterEvent.ofCode? (u8 p 1) = some (some .queueOccupancy) ∧ readFilter p 2 = some KeyFilter.any)
      ∧ (15 : Byte).toNat ≤ 15
      ∧ (let p : List Byte := [32, 0] ++ List.replicate 15 0;
        p.length = 17 ∧ 8191 < u16 p 0)
      ∧ (let p : List Byte := [3, 15, 255, 255, 24, 255, 255];
        p.length = 7 ∧ filterFits p 2 = false ∧ filterFits [0, 0, 7, 3, 0, 23, 255] 2 = true)
      ∧ 15 < (16 : Byte).toNat := by decide

/-- The first notice and the last, the last event code, and a filter of all and of none. -/
theorem test_answers_written_out :
    noticesAnswer { Notices.empty with aged := some key, reset := some .pin } 0x1FFF
        = [16, 1, 1, 0, 7, 2, 0, 0, 0, 0, 0, 0, 0, 0, 0, 1, 31, 255]
      ∧ settingsAnswer Settings.default = [4, 4, 1, 24, 4, 0, 10, 1, 5, 1, 84, 20, 24, 31, 255]
      ∧ counterAnswer { event := some .segmentFailed, filter := ⟨some 7, none, some (0, 23), some 3⟩, value := 4294967295 }
        = [15, 7, 255, 0, 23, 3, 255, 255, 255, 255]
      ∧ counterAnswer Counter.cleared = [0, 255, 255, 255, 255, 255, 0, 0, 0, 0] := by decide

theorem test_counters_met : base.act.length = 4 := by decide

/-! ### Media and records -/

/-- MEDIA_INSTALL of identity `id` with one layer. -/
def mediaFrame (id : Byte) : List Byte := [0, 0, 0, 0, 0, id, 1, 14, 1, 184, 0, 0, 100] ++ List.replicate 18 0

theorem test_media_install_met :
    (mediaFrame 6).length = 31 ∧ 1 ≤ u8 (mediaFrame 6) 6 ∧ u8 (mediaFrame 6) 6 ≤ 4
      ∧ ((List.range (u8 (mediaFrame 6) 6)).all fun k => layerFits (readLayer (mediaFrame 6) 7 k)) = true
      ∧ (∀ n ∈ base.mst, n.state ≠ .free → n.identity ≠ BitVec.ofNat 48 (u48 (mediaFrame 6) 0))
      ∧ base.mst[0]? = some Slot.empty
      ∧ (answered (exec (.mediaInstall (frame (mediaFrame 6))) base) = some (0, [0]))
      ∧ (answered (exec (.mediaInstall (frame (mediaFrame 5))) base) = some (6, [1, 2]))
      ∧ (let p := (mediaFrame 6).set 6 5;
        p.length = 31 ∧ firstRefusal [(decide (1 ≤ u8 p 6 ∧ u8 p 6 ≤ 4), .badField)] = some .badField)
      ∧ (let s := { base with mst := List.replicate 8 { state := .known, identity := 9, layers := [⟨14, 440, 0⟩], records := 0 } };
        (∀ n ∈ s.mst, n.state ≠ .free ∧ n.identity ≠ BitVec.ofNat 48 (u48 (mediaFrame 6) 0))
          ∧ answered (exec (.mediaInstall (frame (mediaFrame 6))) s) = some (9, [])) := by decide +kernel

theorem test_mounting_met :
    (base.mst[(0 : Byte).toNat]?).map (·.state) = some .free ∧ (base.mst[(1 : Byte).toNat]?).map (·.state) = some .mounted
      ∧ (let s := { base with mst := base.mst.set 7 { state := .known, identity := 9, layers := [⟨14, 440, 0⟩], records := 0 } };
        s.cpt.port = .idle ∧ (s.mst[(7 : Byte).toNat]?).map (·.state) = some .known ∧ s.sgq.queue = []
          ∧ answered (exec (.mediaMount (frame [7])) s) = some (0, []))
      ∧ (let s := holding 1 [entry .ready (.strategy copy)];
        (∃ m ∈ s.mst, m.state = .mounted) ∧ s.sgq.queue ≠ [] ∧ s.cpt.port = .idle)
      ∧ (∀ m ∈ State.reset.mst, m.state ≠ .mounted)
      ∧ answered (exec (.mediaUnmount (frame [])) base) = some (0, []) := by decide +kernel

theorem test_slot_requests_met :
    (let s := { base with mst := base.mst.set 7 { state := .known, identity := 9, layers := [⟨14, 440, 0⟩], records := 0 } };
      answered (exec (.mediaRetire (frame [7])) s) = some (0, [0]))
      ∧ (let p : List Byte := [1, 1, 60, 4, 176, 255, 255, 255] ++ List.replicate 18 0;
        p.length = 26 ∧ (∃ k < 4, (u8 p 1).testBit k = true)
          ∧ (∀ k < 4, (u8 p 1).testBit k = true → k < 1 ∧ (readLayer p 2 k).inRange = true)
          ∧ base.sgq.queue.all Safety.waits = true ∧ answered (exec (.mediaAmend (frame p)) base) = some (0, []))
      ∧ (base.mst.length = 8 ∧ firstRefusal (slotChecks base 8) = some .badField ∧ firstRefusal (slotChecks base 0) = some .notFound
        ∧ firstRefusal (slotChecks base 1) = none ∧ (base.mst[1]?).any (·.state ≠ .mounted) = false)
      ∧ (let p : List Byte := [1, 2, 60, 4, 176, 255, 255, 255] ++ List.replicate 18 0;
        p.length = 26 ∧ answered (exec (.mediaAmend (frame p)) base) = some (4, [])) := by decide +kernel

/-- REC_INSTALL of the record of place 10 for another zone. -/
def installFrame (st zone : Byte) : List Byte :=
  st :: ([1, 0, zone] ++ (imageBytes 0 (record .active 0)).drop 3)

theorem test_rec_install_met :
    (installFrame 2 23).length = 41 ∧ u8 (installFrame 2 23) 0 = 2
      ∧ (let im := readImage (installFrame 2 23) 1;
        im.key.zone ≤ 23 ∧ Safety.strategyInRange im.strat = true ∧ im.overrideCount ≤ 4 ∧ corrInRange im.corr = true
          ∧ (∀ r ∈ Safety.held base.stb, r.key = im.key → r.usable = false))
      ∧ base.stb[0]? = some { gen := 0, held := none }
      ∧ answered (exec (.recInstall (frame (installFrame 2 23))) base) = some (0, [0, 1, 0])
      ∧ answered (exec (.recInstall (frame (installFrame 1 7))) base) = some (0, [0, 1, 0]) := by decide +kernel

/-- The nine checks of REC_INSTALL failing in turn (R12): the requested state, the key, the slot, the layer, a range, the powers' order, the
overrides' order, the duplicate and the full table. -/
theorem test_rec_install_refusals :
    base.mst.length = 8
      ∧ ([installFrame 3 7, installFrame 2 24, (installFrame 2 23).set 1 0, (installFrame 2 23).set 2 1, (installFrame 2 23).set 12 3,
          (installFrame 2 23).set 7 2, (((installFrame 2 23).set 16 2).set 17 3).set 20 3, installFrame 2 7].map fun p =>
            answered (exec (.recInstall (frame p)) base))
        = [some (4, []), some (4, []), some (7, []), some (4, []), some (4, []), some (5, []), some (5, []), some (6, [10, 2])]
      ∧ (let s := { base with stb := List.replicate 96 { gen := 2, held := some (record .retiring 1) } };
        (Safety.held s.stb).all (fun r => r.usable = false) = true ∧ (s.stb.all fun q => q.held.isSome) = true
          ∧ answered (exec (.recInstall (frame (installFrame 2 7))) s) = some (9, [])) := by decide +kernel

theorem test_rec_amend_met :
    (let p : List Byte := [10, 2, 127] ++ imageBytes 0 (record .active 0);
      p.length = 43 ∧ (∃ k < 7, (u8 p 2).testBit k = true) ∧ answered (exec (.recAmend (frame p)) base) = some (0, [10, 3, 2, 0]))
      ∧ base.stb[10]? = some { gen := 2, held := some (record .active 0) }
      ∧ ([[10, 2, 128], [10, 2, 1], [10, 2, 4], [10, 1, 1]].map fun (h : List Byte) =>
          answered (exec (.recAmend (frame (h ++ ((imageBytes 0 (record .active 0)).set 6 2).set 16 9))) base))
        = [some (4, []), some (5, []), some (4, []), some (8, [])] := by decide +kernel

/-- A candidate in place 0 beside the working record of the same key in place 10. -/
def candidate : State := { base with stb := base.stb.set 0 { gen := 255, held := some (record .provisional 0) } }

theorem test_rec_promote_met :
    candidate.stb[(0 : Byte).toNat]? = some { gen := (255 : Byte).toNat, held := some (record .provisional 0) }
      ∧ candidate.stb[10]? = some { gen := 2, held := some (record .active 0) } ∧ (record .active 0).usable = true
      ∧ (∀ k < 10, ∀ o ∈ candidate.record k, o.key = key → o.usable = false)
      ∧ answered (exec (.recPromote (frame [0, 255])) candidate) = some (0, [0, 0, 10, 2, 0, 0])
      ∧ (let alone := { base with stb := freeTable.set 0 { gen := 255, held := some (record .provisional 0) } };
        (∀ q ∈ Safety.held alone.stb, q.key = key → q.usable = false)
          ∧ answered (exec (.recPromote (frame [0, 255])) alone) = some (0, [0, 0, 0, 0, 0, 0])) := by decide +kernel

theorem test_rec_retire_met :
    answered (exec (.recRetire (frame [10, 2])) base) = some (0, [0, 0])
      ∧ answered (exec (.recRetire (frame [10, 2])) (holding 1 [entry .ready (.strategy copy)])) = some (0, [0, 1])
      ∧ answered (exec (.recRetire (frame [10, 2]))
          { running with stb := freeTable.set 10 { gen := 2, held := some (record .retiring 1) } }) = some (0, [1, 0]) := by
  decide +kernel

theorem test_host_lookups_met :
    (∃ m, base.mst[(1 : Byte).toNat]? = some m ∧ m.state ≠ .free ∧ (0 : Byte).toNat < m.layers.length)
      ∧ readFilter [255, 255, 0, 23, 3, 95] 0 = some ⟨none, none, some (0, 23), some 3⟩ ∧ u8 [255, 255, 0, 23, 3, 95] 5 ≤ 95
      ∧ (after (exec (.recFind (frame [1, 1, 0, 23, 3])) base)).map (·.cpt.port) = some (.serving 38)
      ∧ ([[2, 1, 0, 23, 3], [1, 1, 0, 24, 3], [1, 0, 0, 23, 3], [1, 1, 1, 23, 3]].map fun p => answered (exec (.recFind (frame p)) base))
        = [some (4, []), some (4, []), some (7, []), some (4, [])]
      ∧ filterFits [255, 255, 0, 255, 3] 0 = false ∧ filterFits [255, 255, 0, 23, 3] 0 = true
      ∧ 95 < u8 [255, 255, 0, 23, 3, 96] 5 :=
  ⟨⟨_, rfl, by decide, by decide⟩, by decide, by decide, by decide +kernel, by decide +kernel, by decide, by decide, by decide⟩

theorem test_host_completions_met :
    (searching (.find .normal key) 38).rse.inFlight = .host (.find .normal key)
      ∧ resolve base.stb base.cpt.settings .normal { key with zone := 9 } = .miss
      ∧ resolve base.stb base.cpt.settings .trial key = .noTrial
      ∧ (searching (.scan KeyFilter.any 10) 39).rse.inFlight = .host (.scan KeyFilter.any 10)
      ∧ (searching (.retireMatch KeyFilter.any) 36).rse.inFlight = .host (.retireMatch KeyFilter.any)
      ∧ base.record 10 = some (record .active 0) ∧ KeyFilter.any.matches key = true
      ∧ ({ KeyFilter.any with media := some 2 } : KeyFilter).matches key = false := by decide +kernel

theorem test_re_resolution_met :
    (let s := holding 1 [readEntry .active, { entry .ready (.strategy copy) with pos := 1, tag := 4 }];
      Safety.PinsAgree s ∧ (∀ e ∈ s.sgq.queue, e.uses 10 = true → e.kind ≠ .read) ∧ s.record 10 = some (record .active 1))
      ∧ (entry .ready (.strategy copy)).uses 10 = true := by decide +kernel

theorem test_arbiter_met :
    (searching (.find .normal key) 38).rse.inFlight ≠ .idle
      ∧ (let s := { bare [readEntry .active, { entry .pending .none with pos := 1, tag := 4 }] with
                    rse := { Rse.reset with waiting := some (.find .normal key), waitCount := 2 } };
        s.rse.inFlight = .idle ∧ s.rse.waiting = some (.find .normal key) ∧ s.rse.waitCount = 2)
      ∧ (let e := { entry .pending .none with pos := 1, tag := 4 };
        (bare [readEntry .active, e]).sgq.queue = [readEntry .active] ++ e :: [] ∧ e.state = .pending ∧ e.isWrite = true
          ∧ (∀ x ∈ [readEntry .active], x.state ≠ .pending ∨ x.isWrite = false))
      ∧ (∀ x ∈ (bare [readEntry .active]).sgq.queue, x.state ≠ .pending ∨ x.isWrite = false) := by decide

/-! ### Resolution -/

/-- Records of zones 4 and 8, and a candidate for zone 7, as in the worked resolution of spec/03. -/
def two : List Place :=
  [{ gen := 2, held := some { record .active 0 with key := { key with zone := 4 } } },
   { gen := 5, held := some { record .suspect 0 with key := { key with zone := 8 } } },
   { gen := 1, held := some (record .provisional 0) }]

theorem test_usable_in_zones_4_and_8 :
    (∀ k : Key, { k with zone := 4 } = { key with zone := 4 } → usableAt two k 4 0)
      ∧ (∀ k : Key, { k with zone := 8 } = { key with zone := 8 } → usableAt two k 8 1) := by
  constructor
  · intro k h
    refine ⟨⟨_, rfl, h.symm, rfl⟩, fun j hj => absurd hj (Nat.not_lt_zero j)⟩
  · intro k h
    refine ⟨⟨_, rfl, h.symm, rfl⟩, fun j hj r hr hk => ?_⟩
    obtain rfl : j = 0 := by omega
    cases hr
    rw [h] at hk
    exact absurd hk (by decide)

theorem test_no_usable_record_elsewhere :
    ∀ z, z ≠ 4 → z ≠ 8 → noneUsable two key z := by
  intro z h4 h8 i r hr hk
  match i, hr with
  | 0, hr => cases hr; simp [key] at hk; omega
  | 1, hr => cases hr; simp [key] at hk; omega
  | 2, hr => cases hr; rfl
  | i + 3, hr => simp [sourceRecord, two] at hr

/-- Zone 7 is derived, zone 9 borrowed from zone 8, zone 3 from zone 4, and zone 10 missed. -/
theorem test_resolutions :
    resolve two Settings.default .normal key = .derived ⟨4, 0⟩ ⟨8, 1⟩
      ∧ resolve two Settings.default .normal { key with zone := 9 } = .found .borrowed [1]
      ∧ resolve two Settings.default .normal { key with zone := 3 } = .found .borrowed [0]
      ∧ resolve two Settings.default .normal { key with zone := 10 } = .miss
      ∧ resolve two Settings.default .trial key = .found .exactTrial [2]
      ∧ resolve two Settings.default .trial { key with zone := 8 } = .noTrial := by decide

/-- The sources of the derived copy of zone 7: one ACTIVE in zone 4, one SUSPECT in zone 8. -/
theorem test_working_met :
    (∃ l u, two[0]? = some { gen := 2, held := some l } ∧ two[1]? = some { gen := 5, held := some u } ∧ 4 < key.zone ∧ key.zone < 8
        ∧ u.state = .suspect)
      ∧ two[2]? = some { gen := 1, held := some (record .provisional 0) }
      ∧ (working two key (.derived ⟨4, 0⟩ ⟨8, 1⟩)).map (fun w => (w.sources, w.suspect)) = some ([⟨0, 2⟩, ⟨1, 5⟩], true) :=
  ⟨⟨_, _, rfl, rfl, by decide, by decide, rfl⟩, rfl, by decide⟩

theorem test_trial_hypotheses_met :
    (sourceRecord two 2 = some (record .provisional 0) ∧ ∀ j < 2, ∀ q ∈ sourceRecord two j, q.key = key → q.state ≠ .provisional)
      ∧ (∀ i, ∀ r ∈ sourceRecord ([] : List Place) i, r.key = key → r.state ≠ .provisional) :=
  ⟨by decide, fun i r hr => by simp [sourceRecord] at hr⟩

theorem test_segment_lookup_met :
    (let e := entry .resolving .none;
      let s := { holding 0 [e] with rse := { Rse.reset with inFlight := .segment 0 3 } };
      Safety.QueueShaped s ∧ e ∈ s.sgq.queue ∧ s.rse.inFlight = .segment e.pos e.tag
        ∧ (working s.stb (s.entryKey e) (resolve s.stb s.cpt.settings .normal (s.entryKey e))).isSome = true
        ∧ (withLaser .settling s).lsc.laser ≠ .read)
      ∧ (let e := entry .resolving .none;
        let s := { bare [e] with rse := { Rse.reset with inFlight := .segment 0 3 } };
        Safety.QueueShaped s ∧ s.rse.inFlight = .segment e.pos e.tag
          ∧ working s.stb (s.entryKey e) (resolve s.stb s.cpt.settings .normal (s.entryKey e)) = none)
      ∧ ({ base with rse := { Rse.reset with inFlight := .gone 5 15 } } : State).rse.inFlight = .gone 5 15 := by decide +kernel

/-! ### Link, intake and queue -/

/-- A descriptor refused by each intake check in turn, and one that passes them all. -/
theorem test_intake_checks :
    (let d : Descriptor := readDescriptor 0x42 0x10 7 2;
      firstFailing (withLaser .hold base) d = some .hold ∧ firstFailing base { d with kind := 0 } = some .classViolation
        ∧ firstFailing (bare [{ entry .pending .none with tag := 1 }, { entry .pending .none with pos := 1 }]) d = some .creditViolation
        ∧ firstFailing (bare [{ entry .pending .none with tag := 4 }]) d = some .dupTag
        ∧ firstFailing State.reset d = some .noMedia ∧ firstFailing base { d with layer := 1 } = some .badField
        ∧ firstFailing base { d with zone := 24 } = some .badField ∧ firstFailing base d = none) := by decide +kernel

theorem test_seg_accepted_met :
    (let d := readDescriptor 0x41 0x20 0 0;
      firstFailing base d = none ∧ SegKind.ofNat? d.kind = some .read ∧ base.flk.side = .inStep ∧ base.flk.rx = []
        ∧ Safety.QueueWithinCredits base ∧ base.sgq.queue = []
        ∧ base.lsc.laser = .read ∧ base.pkp.focus = .steady d.layer ∧ base.plp.limits = some ⟨600, 3200⟩
        ∧ (withLaser .off base).lsc.laser ≠ .read
        ∧ (after (exec (.seg 0x41 0x20 0 0) base)).map (fun s => s.sgq.queue.map (·.state)) = some [.active])
      ∧ (let s := { base with pkp := { base.pkp with focus := .unknown } };
        firstFailing s (readDescriptor 0x41 0x20 0 0) = none ∧ s.pkp.focus ≠ .steady 0) := by decide +kernel

theorem test_cancel_and_end_met :
    (let s := holding 1 [entry .ready (.strategy copy)];
      (0x30 : Byte).toNat / 16 = 3 ∧ Safety.QueueWithinCredits s ∧ entry .ready (.strategy copy) ∈ s.sgq.queue
        ∧ (entry .ready (.strategy copy)).tag = 3)
      ∧ (let e := { entry .pending .none with pos := 5, tag := 15 };
        let s := bare [readEntry .active, e];
        e ∈ s.sgq.queue ∧ Safety.QueueWithinCredits s ∧ s.sgq.queue.head? ≠ some e
          ∧ s.sgq.queue.head?.all (fun h => decide (h.state ≠ .ready)) = true)
      ∧ (∀ e ∈ running.sgq.queue, e.tag = 3 → e.state = .active ∨ e.state = .closing)
      ∧ (bare [readEntry .active]).sgq.queue = readEntry .active :: []
      ∧ (∀ e ∈ running.sgq.queue.head?, e.tag ≠ 3 ∨ e.kind ≠ .read ∨ e.state ≠ .active) := by decide +kernel

theorem test_link_bytes_met :
    (let m : LinkMessage := ⟨194, 0x30, 0, 0, 0, 15⟩;
      m.code ≠ 0 ∧ m.code + m.b1 + m.b2 + m.b3 + m.b4 + m.check ≠ 0)
      ∧ ({ base.flk with side := .resync } : Flk).side = .resync ∧ State.reset.flk.idleFirst = true
      ∧ (base.flk.idleFirst = false ∧ base.flk.out = [])
      ∧ (let k := { base.flk with out := [grantBytes], sent := 5 };
        k.out = grantBytes :: [] ∧ grantBytes[k.sent]? = some 89 ∧ grantBytes[0]? = some 161)
      ∧ (193 : Byte) + 0x42 + 0x10 + 7 + 2 + 0xE4 = 0 ∧ (194 : Byte) + 0x30 + 0 + 0 + 0 + 14 = 0
      ∧ (195 : Byte) + 0x30 + 0 + 0 + 0 + 13 = 0 ∧ (195 : Byte) + 0x30 + 0 + 0 + 0 + 14 ≠ 0
      ∧ ({ base.flk with rx := [194, 0x30, 0, 0, 0] } : Flk).rx = [194, 0x30, 0, 0, 0] := by decide

/-! ### Arming and the gate -/

def arming : State := holding 1 [entry .arming (.strategy copy)]

theorem test_zone_passes :
    zonePasses Config.defaultZoneMap 7 9384 24 ∧ zonePasses Config.defaultZoneMap 7 10775 24
      ∧ ¬ zonePasses Config.defaultZoneMap 7 9383 24 ∧ ¬ zonePasses Config.defaultZoneMap 7 10776 24 := by
  unfold zonePasses; decide +kernel

theorem test_arming_met :
    arming.sgq.queue = entry .arming (.strategy copy) :: [] ∧ arming.lsc.laser = .read ∧ arming.pkp.focus = .steady 0
      ∧ arming.plp.limits = some ⟨600, 3200⟩ ∧ arming.pkp.zoneMap.length = 23 ∧ arming.pkp.valid = true
      ∧ (arming.pkp.zoneMap = Config.defaultZoneMap ∧ arming.pkp.sled = 10775 ∧ arming.cpt.settings.guardBand = 24)
      ∧ arming.pkp.measurement = some 800 ∧ Safety.PickupInRange arming ∧ arming.pkp.windows[2]? = some ⟨800, 959⟩
      ∧ ¬ arming.cpt.settings.hotLimit ≤ arming.plp.sample.getD arming.plp.diode.tRef ∧ arming.wgd.supplyWarn = false := by
  decide +kernel

/-- Each failed check in turn, from the passing state: the outcome code of the DONE that is sent. -/
theorem test_arming_failures :
    ([{ arming with pkp := { arming.pkp with valid := false } }, { arming with pkp := { arming.pkp with sled := 10776 } },
      { arming with pkp := { arming.pkp with measurement := some 799 } }, { arming with plp := { arming.plp with sample := some 340 } },
      { arming with wgd := { arming.wgd with supplyWarn := true } }].map fun s =>
        ((judgeAgain s).sgq.queue, (judgeAgain s).flk.out))
      = [DoneOutcome.posUnknown, .zoneMismatch, .speedMismatch, .hot, .lowSupply].map fun o =>
        ([], [doneMessage 3 .w o Warnings.empty]) := by decide +kernel

theorem test_waiting_checks_met :
    (withLaser .settling arming).lsc.laser ≠ .read
      ∧ ({ arming.pkp with focus := .jumping 0 0, jumpTimer := some 9 } : Pkp).focus = .jumping 0 0
      ∧ ({ arming.pkp with measurement := none } : Pkp).measurement = none
      ∧ (holding 1 [entry .ready (.strategy copy)]).sgq.queue = entry .ready (.strategy copy) :: []
      ∧ (bare [readEntry .arming]).sgq.queue = readEntry .arming :: [] := by decide

theorem test_gate_met :
    (let s := holding 1 [{ activeEntry with state := .armed }];
      s.lsc.laser = .read ∧ s.sgq.queue = { activeEntry with state := .armed } :: [] ∧ activeEntry.kind ≠ .read)
      ∧ (withLaser .hold base).lsc.laser = .hold ∧ writing running activeEntry copy [] ∧ base.lsc.laser ≠ .write :=
  ⟨by decide, by decide, ⟨rfl, rfl, rfl, rfl⟩, by decide⟩

theorem test_write_back_met :
    (let e := { entry .closing (.strategy copy) with captured := some ⟨440, 14⟩, warnings := { Warnings.empty with corrLimit := true } };
      let s := holding 1 [e];
      Safety.PinsAgree s ∧ s.sgq.queue = e :: [] ∧ s.stb[10]? = some { gen := 2, held := some (record .active 1) }
        ∧ ((record .active 1).onTime < 100 ∧ 100 ≤ min 16777215 ((record .active 1).onTime + copy.tally))
        ∧ ((after (exec .writeBack s)).bind (·.record 10)).map (fun r => (r.onTime, r.state, r.pins)) = some (100, .suspect, 0)) := by
  decide +kernel

/-- A mark under way at a reset of any kind is a run begun before any later write period (R142). -/
theorem test_resets_keep_a_mark_under_way :
    (let f : FoundLines := ⟨false, false, false, false, false, false, 0⟩;
      let s := { base with pgn := { base.pgn with run := { base.pgn.run with mark := true } } };
      let marks := fun c => (after (exec c s)).map fun t => (t.pgn.run.mark, t.pgn.run.own);
      [Instr.powerOnReset f, .pinReset f, .softReset ⟨frame [], f⟩].map marks = List.replicate 3 (some (true, false))) := by
  decide +kernel

theorem test_guarded_write_met : sound running = true ∧ running.cpt.port = .idle := by decide +kernel

/-! ### Holds, pickup, trains, power and laser -/

/-- The running write at its fortieth T with a reading held and samples to come. -/
def sampling (peaks spaces : List Int) : State :=
  { running with pgn := { running.pgn with read := 40, peaks, spaces, returns := [800], held := some ⟨461, 1576⟩ } }

theorem test_hold_causes_met :
    (let late := fun (n : Nat) (b : Bool) =>
        { running with wgd := { running.wgd with keepalive := some { count := n, k := 4 }, tickTaken := b } };
      running.lsc.laser = .write ∧ sound (late 4 true) = true ∧ sound (late 3 false) = true ∧ sound (late 2 false) = true
        ∧ after (exec .keepaliveExpiry (late 2 false)) = some (late 2 false)
        ∧ after (exec .keepaliveExpiry (late 3 true)) = some (late 3 true))
      ∧ (let s := { running with cpt := { running.cpt with settings := { running.cpt.settings with windowMode := true } } };
        sound s = true ∧ s.wgd.keepalive = some { count := 0, k := 4 } ∧ 0 < 4 / 4)
      ∧ (sound (withLaser .off base) = true ∧ sound arming = true
        ∧ arming.sgq.queue.head?.all (fun e => decide (e.state ≠ .armed)) = true)
      ∧ sound (withLaser .hold base) = true
      ∧ sound (sampling [23] [224]) = true ∧ (sampling [23] [224]).pgn.held = some ⟨461, 1576⟩
      ∧ 440 + running.cpt.settings.tripMargin < 461 := by decide +kernel

/-- The output has come to the peak sample in one state, to the space sample in the other, and at one position the space sample goes first. -/
theorem test_overpower_witness_writes :
    writing (sampling [23] [224]) activeEntry copy [] ∧ peakDue (sampling [23] [224]).pgn 23
      ∧ outputAt (sampling [300] [224]).pgn 224 ∧ outputAt (sampling [224] [224]).pgn 224 ∧ ¬ peakDue (sampling [224] [224]).pgn 224 := by
  unfold writing peakDue outputAt; decide

/-- A sample that a trip has left, taken in HOLD. -/
def leaving (o : OfferedSample) (s : State) : Option State :=
  (after (exec .ldtripAssert s)).map fun t => { t with lsc := { t.lsc with offered := some o } }

/-- An overpower peak sample and an LDTRIP assertion (R163); the samples that are due when LDTRIP comes first, and what they do in HOLD where the trip
has left them (R173); a peak sample that the output has not come to is never offered (R163). -/
theorem test_trip_and_overpower :
    (let causes := fun (cs : List Instr) (s : State) =>
        (cs.foldl (fun (o : Option State) c => o.bind fun t => after (exec c t)) (some s)).map fun t =>
          (t.lsc.causes.supplyTrip, t.lsc.causes.overpower, t.pgn.presented);
      let left := fun (o : OfferedSample) (cs : List Instr) => (leaving o (sampling [1023] [])).bind (causes cs);
      (sampling [23] [224]).sampleDue = some ⟨440, none⟩ ∧ (sampling [224] [224]).sampleDue = some ⟨440, some 461⟩
        ∧ (sampling [1023] []).sampleDue = none
        ∧ causes [.peakSample 461, .ldtripAssert] (sampling [23] [224]) = some (true, true, CodeSet.zero)
        ∧ left ⟨440, none⟩ [.peakSample 461] = some (true, true, CodeSet.zero)
        ∧ left ⟨440, some 461⟩ [.spaceSample] = some (true, true, CodeSet.zero)
        ∧ left ⟨440, none⟩ [.peakSample 460, .peakSample 461] = some (true, false, CodeSet.zero)
        ∧ causes [.ldtripAssert, .peakSample 461] (sampling [1023] []) = some (true, false, CodeSet.zero))
      ∧ (let s := { withLaser .hold base with lsc := { (withLaser .hold base).lsc with
            causes := HoldCauses.empty.join .supplyTrip, offered := some ⟨440, some 461⟩ } };
        sound s = true ∧ 440 + s.cpt.settings.tripMargin < 461) := by decide +kernel

theorem test_sled_steps_met :
    (false, true) = outward (false, false) ∧ (false, false) = outward (true, false)
      ∧ (true, true) = outward (outward (false, false)) := by decide

/-- Four touching windows that end at the highest bound. -/
theorem test_maps_met :
    (let b := (List.range 23).map fun k => u16 ((List.range 23).flatMap fun z => putU16 (if z = 22 then 32767 else z + 1)) (2 * k);
      (∀ x ∈ b, 1 ≤ x ∧ x ≤ 32767) ∧ b.Pairwise (· < ·))
      ∧ (let p : List Byte := [3] ++ [0, 9, 10, 19, 20, 29, 30, 65534].flatMap putU16;
        p.length = 17 ∧ u8 p 0 = WobbleInterval.four.toNat
          ∧ (let ws : List Window := [⟨u16 p 1, u16 p 3⟩, ⟨u16 p 5, u16 p 7⟩, ⟨u16 p 9, u16 p 11⟩, ⟨u16 p 13, u16 p 15⟩];
            (∀ w ∈ ws, w.lo ≤ w.hi ∧ w.hi ≤ 65534) ∧ ws.Pairwise (fun a b => a.hi < b.lo ∨ b.hi < a.lo)))
      ∧ (let p : List Byte := [3] ++ [0, 9, 9, 19, 20, 29, 30, 65534].flatMap putU16;
        p.length = 17 ∧ answered (exec (.speedMap (frame p)) base) = some (5, [])
          ∧ answered (exec (.speedMap (frame (p.set 0 4))) base) = some (4, []))
      ∧ ((List.replicate 22 1 ++ [0] : List Nat).any (fun x => decide (x < 1 ∨ 32767 < x)) = true)
      ∧ (let s := { base with pkp := { base.pkp with wobMarks := 1 } };
        s.pkp.interval = .one ∧ 1 ≤ s.pkp.wobMarks ∧ s.sgq.queue.head?.all (fun e => decide (e.state ≠ .arming)) = true)
      ∧ (let k := { base.pkp with interval := .half }
        k.halfPassed = false ∧ k.wobMarks < 1 ∧ ({ k with halfPassed := true } : Pkp).halfPassed ≠ false) := by decide +kernel

theorem test_focus_met :
    State.reset.pkp.focus = .unknown
      ∧ (let s := { arming with
                    pkp := { arming.pkp with focus := .jumping 0 0, jumpTimer := some 0 }
                    sgq := { arming.sgq with requester := some 3 } };
        s.pkp.jumpTimer = some 0 ∧ s.pkp.focus = .jumping 0 0 ∧ s.sgq.requester = some 3
          ∧ (after (exec .jumpTimerExpiry s)).map (fun t => (t.sgq.queue, t.pkp.focus)) = some ([], .unknown))
      ∧ (let s := { arming with pkp := { arming.pkp with focus := .jumping 1 1, jumpTimer := some 0 } };
        s.pkp.focus = .jumping 1 (0 + 1) ∧ s.sgq.queue.head?.all (fun e => decide (e.state ≠ .arming ∨ s.sgq.requester ≠ some e.tag)) = true)
      ∧ (let s := { running with lines := { running.lines with fok := true } };
        sound s = true ∧ s.pkp.focus = .steady 0 ∧ (1 : Nat) ≠ 0 ∧ s.sgq.queue.head? = some activeEntry)
      ∧ (sound arming = true ∧ arming.pkp.focus = .steady 0)
      ∧ (sound base = true) := by decide +kernel

/-- The running write with a mark under way, the first `n` T of its write period. -/
def mark (n : Nat) (edges : List Edge) : State :=
  { running with pgn := { running.pgn with read := n, run := { mark := true, len := n, own := true }, edges } }

/-- What a T leaves of the edge list, and SHAPE. -/
def edgesAfter (w : Bool) (s : State) : Option (List Edge × Bool) :=
  (after (exec (.markRead w 1) s)).map fun t => (t.pgn.edges, t.sgq.queue.all (·.warnings.shape))

theorem test_marks_met :
    writing running activeEntry copy [] ∧ Safety.strategyInRange copy.strat = true ∧ running.pgn.run.mark = false
      ∧ base.lsc.laser ≠ .write
      ∧ (mark 2 []).pgn.edges = [] ∧ (mark 2 []).pgn.tail = none
      ∧ upcoming (mark 9 [⟨-1, .peak⟩]).pgn = [-1] ∧ (32 : Int) * (((mark 9 []).pgn.read : Int) - 9) = 0
      ∧ (mark 3 []).pgn.run.own = true ∧ ({ mark := true, len := 3, own := false } : Run).own = false :=
  ⟨⟨rfl, rfl, rfl, rfl⟩, by decide, by decide, by decide, by decide, by decide, by decide, by decide, by decide, by decide⟩

/-- Two T of a mark read by one command. -/
theorem test_runs_are_read_at_once :
    (after (exec (.markRead true 2) running)).map (fun t => (t.pgn.read, t.pgn.run, t.pgn.starts)) = some (2, ⟨true, 2, true⟩, [0]) := by
  decide +kernel

/-- The ends of marks of 1T, 2T and 9T and the ninth and tenth T of a longer one. -/
theorem test_marks_grow :
    edgesAfter false (mark 1 []) = some ([], true)
      ∧ edgesAfter false (mark 2 []) = some ([⟨4, .peak⟩, ⟨41, .cool⟩, ⟨64, .space⟩], false)
      ∧ (edgesAfter true (mark 7 [])) = some ([], false)
      ∧ (edgesAfter true (mark 8 [])).map (fun r => (r.1.length, r.1.getLast?, r.2)) = some (14, some ⟨242, .cool⟩, true)
      ∧ edgesAfter true (mark 9 [⟨224, .peak⟩, ⟨242, .cool⟩])
          = some ([⟨224, .peak⟩, ⟨242, .cool⟩, ⟨256, .peak⟩, ⟨274, .cool⟩], false)
      ∧ edgesAfter false (mark 9 [⟨224, .peak⟩, ⟨242, .cool⟩])
          = some ([⟨224, .peak⟩, ⟨242, .cool⟩, ⟨256, .peak⟩, ⟨279, .cool⟩, ⟨304, .space⟩], false) := by decide +kernel

/-- A mark behind a space of 5T has a midpoint and a space sample, one behind a space of 4T has none, and a mark under way at the opening
gives nothing (R134, R136). -/
theorem test_spaces_are_measured :
    (let space := fun n => { running with pgn := { running.pgn with read := n, lastEnd := some 2, run := ⟨false, n - 2, true⟩ } };
      (after (exec (.markRead true 1) (space 7))).map (fun t => (t.pgn.starts, t.pgn.mids, t.pgn.spaces)) = some ([224], [144], [224])
        ∧ (after (exec (.markRead true 1) (space 6))).map (fun t => (t.pgn.starts, t.pgn.mids)) = some ([192], []))
      ∧ (let s := { running with pgn := { running.pgn with read := 4, run := ⟨true, 4, false⟩ } };
        (after (exec (.markRead false 1) s)).map (fun t => (t.pgn.edges, t.pgn.lastEnd, t.pgn.run)) = some ([], none, ⟨false, 1, true⟩)) := by
  decide +kernel

/-- A space of 20T has its midpoint at the tenth T, which a reading commanded there takes before the next mark is read; one commanded elsewhere
leaves the midpoint to come (R136).  Up to 18T the next mark has been read by then. -/
theorem test_long_spaces_are_measured :
    (let inside := fun (n : Nat) => { running with pgn := { running.pgn with read := n, lastEnd := some 2, run := ⟨false, n - 2, true⟩ } };
      let measured := fun (n : Nat) => (after (exec (.spaceMidpointReading 140) (inside n))).map fun t => (t.pgn.held, t.pgn.early);
      let begun := fun (n : Nat) => (after (exec (.markRead true 1)
          { inside 22 with pgn := { (inside 22).pgn with early := some n, held := some ⟨140, 1576⟩ } })).map fun t =>
            (t.pgn.mids, t.pgn.spaces, t.pgn.early);
      measured 21 = some (some ⟨140, 1576⟩, some 21) ∧ measured 20 = some (none, none)
        ∧ begun 22 = some ([], [704], none) ∧ begun 21 = some ([384], [704], none)) := by decide +kernel

theorem test_timeline_met :
    (let g := { running.pgn with read := 20, starts := [0], edges := [⟨4, .peak⟩] };
      g.starts = 0 :: [] ∧ outputAt g 0 ∧ ¬ outputAt g 4)
      ∧ (let g := { running.pgn with read := 20, edges := [⟨4, .peak⟩], mids := [144] };
        g.edges = ⟨4, .peak⟩ :: [] ∧ outputAt g 4 ∧ ¬ outputAt g 144)
      ∧ (let g := { running.pgn with read := 20, mids := [144] };
        g.mids = 144 :: [] ∧ outputAt g 144 ∧ ¬ outputAt { g with read := 13 } 144)
      ∧ base.lsc.laser ≠ .write := by
  unfold outputAt; decide

theorem test_power_requests_met :
    (let fits := fun (p : List Byte) =>
        u16 p 0 ≤ 2047 ∧ (64 ≤ u16 p 2 ∧ u16 p 2 ≤ 8191) ∧ (-160 ≤ s16 p 4 ∧ s16 p 4 ≤ 400) ∧ (-64 ≤ s16 p 6 ∧ s16 p 6 ≤ 255)
          ∧ (-512 ≤ s16 p 8 ∧ s16 p 8 ≤ 511) ∧ 4 ≤ u8 p 10 ∧ u8 p 10 ≤ 60;
      let p := putU16 2047 ++ putU16 64 ++ putS16 (-160) ++ putS16 (-64) ++ putS16 511 ++ putU8 60;
      let q := putU16 2048 ++ putU16 64 ++ putS16 (-160) ++ putS16 (-64) ++ putS16 511 ++ putU8 60;
      p.length = 11 ∧ fits p ∧ q.length = 11 ∧ ¬ fits q)
      ∧ (let p := putU16 1200 ++ putU16 4095;
        p.length = 4 ∧ (1 ≤ u16 p 0 ∧ u16 p 0 ≤ 1200) ∧ 1 ≤ u16 p 2 ∧ u16 p 2 ≤ 4095)
      ∧ State.reset.plp.limits = none ∧ base.plp.limits ≠ none
      ∧ 16 ≤ ({ base.plp with tempTicks := 16 } : Plp).tempTicks ∧ base.plp.tempTicks < 16
      ∧ (after (exec (.temperatureSample 140) { base with plp := { base.plp with tempTicks := 33 } })).map (·.plp.tempTicks) = some 17 := by decide +kernel

/-- One sample of each kind at the trip level of 460, and accumulations one sample short of full. -/
theorem test_samples_met :
    writing running activeEntry copy [] ∧ activeEntry.captured = some ⟨440, 14⟩ ∧ 460 ≤ 440 + running.cpt.settings.tripMargin
      ∧ peakDue (sampling [23] []).pgn 23 ∧ outputAt (sampling [] [224]).pgn 224 ∧ outputAt (sampling [] []).pgn 800
      ∧ ¬ outputAt (sampling [23] []).pgn 800 :=
  ⟨⟨rfl, rfl, rfl, rfl⟩, by decide, by decide, by unfold peakDue outputAt; decide, by unfold outputAt; decide,
    by unfold outputAt; decide, by unfold outputAt; decide⟩

theorem test_samples_complete :
    (after (exec (.peakSample 392) { sampling [23] [] with
        plp := { running.plp with
          track := { spaceSum := 4031, spaceCount := 29, peakSum := 12152, peakCount := 31, ib := some 1576, ip := some 2233 } } })).map
      (·.plp.diode.sRef) = some 642
      ∧ (after (exec (.returnSample 150) { sampling [] [] with
          plp := { running.plp with returns := { sum := 2106, count := 15 } } })).map (·.plp.returns) = some { sum := 0, count := 0 } := by
  decide +kernel

theorem test_codes_met :
    (levelCode ⟨1215, 650, false⟩ 3200 440 401).code ≠ 0 ∧ State.reset.lsc.len = false ∧ base.lsc.laser ≠ .write
      ∧ Safety.RecordsInRange running ∧ (∀ c ∈ running.act, c.value < 4294967296)
      ∧ activeEntry.state = .active ∧ base.sgq.governing = none
      ∧ base.sgq.governing.map (·.pos) ≠ running.sgq.governing.map (·.pos) := by decide +kernel

theorem test_laser_requests_met :
    (State.reset.lsc.laser = .off ∧ State.reset.plp.limits = none)
      ∧ (let s := withLaser .off base;
        s.lsc.causes = HoldCauses.empty ∧ s.plp.limits ≠ none ∧ s.plp.diodeValid = true ∧ s.cpt.port = .idle)
      ∧ ((withLaser .settling base).lsc.laser = .settling ∧ base.sgq.queue = [] ∧ arming.sgq.queue ≠ [])
      ∧ (let s := withLaser .hold base;
        s.lsc.laser = .hold ∧ s.lines.ldtrip = false ∧ s.lsc.ret = some .lit)
      ∧ (let s := { withLaser .off base with lsc := { Lsc.reset with causes := HoldCauses.empty.join .supplyTrip } };
        s.lsc.laser = .off ∧ s.lsc.causes ≠ HoldCauses.empty ∧ s.lines.ldtrip = false)
      ∧ ({ base.lines with ldtrip := true, ldwarn := true } : Lines).ldtrip = true := by decide

theorem test_laser_timers_met :
    ((withLaser .settling base).lsc.laser = .settling ∧ (withLaser .settling base).lsc.settle = some 0)
      ∧ (running.lsc.laser = .write ∧ running.wgd.keepalive = some { count := 0, k := 4 }
        ∧ ¬(running.cpt.settings.windowMode = true ∧ 0 < 4 / 4)) := by decide

end Sys2Proof.Tests
end

section
/-! SUPPORT. Proofs of the statements about the media slots: mounting and unmounting (R26, R27).  A request that the port takes is the
request's serving function under `clocked`; each lemma below says what that function does for one outcome of the rule's checks. -/

namespace Sys2Proof.Machine

open Sys2Proof.Stated

/-! ### A request taken whole by the idle port -/

/-- A whole request whose payload has the length of its code, received with the port IDLE, is served (R188, R189). -/
theorem request_frame (code : Byte) (serve : List Byte → State → State) (p : List Byte) (s : State)
    (hport : s.cpt.port = .idle) (hlen : p.length < 65536) :
    request code p.length (frame p) serve s = clocked (frame p) s (serve p s) := by
  have taken : takeRequest code p.length serve (putU16 p.length ++ p) s = serve p s := by
    rw [takeRequest_served code p.length serve _ s hport (lengthFits_put p _ rfl hlen), drop_put]
  calc request code p.length (frame p) serve s
      = endWrite s.cpt.statusByte (putU16 p.length ++ p) (takeRequest code p.length serve (putU16 p.length ++ p) s) := rfl
    _ = clocked (frame p) s (serve p s) := by rw [taken]; rfl

theorem exec_mediaMount_frame (i : Byte) (s : State) (hport : s.cpt.port = .idle) :
    exec (.mediaMount (frame [i])) s = .next (clocked (frame [i]) s (serveMediaMount [i] s)) :=
  congrArg Host.Outcome.next (request_frame 18 serveMediaMount [i] s hport (by simp))

theorem exec_mediaUnmount_frame (s : State) (hport : s.cpt.port = .idle) :
    exec (.mediaUnmount (frame [])) s = .next (clocked (frame []) s (serveMediaUnmount [] s)) :=
  congrArg Host.Outcome.next (request_frame 19 serveMediaUnmount [] s hport (by simp))

/-! ### The queue and the mounted slot, as the checks read them -/

theorem queueOccupied_iff (s : State) : s.queueOccupied = true ↔ s.sgq.queue ≠ [] := by
  simp [State.queueOccupied]

theorem mountedIndex_eq_none_iff (s : State) : s.mountedIndex = none ↔ ∀ m ∈ s.mst, m.state ≠ .mounted := by
  simp [State.mountedIndex, List.findIdx?_eq_none_iff]

/-- The mounted slot gives way and slot `i` is mounted: one pass over the table that reads each slot's own index and state (R26). -/
theorem map_unmount_modify_mounted (slots : List Slot) (i : Nat) :
    (slots.map Slot.unmount).modify i ({ · with state := .mounted })
      = slots.mapIdx fun k n =>
          if k = i then { n with state := .mounted }
          else if n.state = .mounted then { n with state := .known } else n := by
  apply List.ext_getElem?
  intro k
  simp only [List.getElem?_modify, List.getElem?_map, List.getElem?_mapIdx]
  cases slots[k]? with
  | none => rfl
  | some n =>
    by_cases hk : k = i
    · have fields : ({ n.unmount with state := .mounted } : Slot) = { n with state := .mounted } := by
        unfold Slot.unmount; split <;> rfl
      simp [hk, fields]
    · simp [hk, Ne.symm hk, Slot.unmount]

/-! ### MEDIA_MOUNT by the outcome of its checks (R21, R26) -/

section
variable {i : Byte} {m : Slot} {s : State}

theorem serveMediaMount_outside (h : s.mst.length ≤ i.toNat) : serveMediaMount [i] s = answerStatus 18 .badField s := by
  have absent : s.mst[u8 [i] 0]? = none := List.getElem?_eq_none h
  simp only [serveMediaMount, absent]

/-- MEDIA_MOUNT of an index that names a slot: the three refusals in their order, and the change. -/
theorem serveMediaMount_slot (h : s.mst[i.toNat]? = some m) :
    serveMediaMount [i] s =
      if m.state = .free then answerStatus 18 .notFound s
      else if m.state = .mounted then answerStatus 18 .inUse s
      else if s.queueOccupied then answerStatus 18 .inUse s
      else answerStatus 18 .ok { s with mst := (s.mst.map Slot.unmount).modify i.toNat ({ · with state := .mounted }) } := by
  have named : s.mst[u8 [i] 0]? = some m := h
  simp only [serveMediaMount, named]
  rfl

theorem serveMediaMount_free (h : s.mst[i.toNat]? = some m) (hm : m.state = .free) :
    serveMediaMount [i] s = answerStatus 18 .notFound s := by
  rw [serveMediaMount_slot h, if_pos hm]

theorem serveMediaMount_mounted (h : s.mst[i.toNat]? = some m) (hm : m.state = .mounted) :
    serveMediaMount [i] s = answerStatus 18 .inUse s := by
  rw [serveMediaMount_slot h, if_neg (by simp [hm]), if_pos hm]

theorem serveMediaMount_occupied (h : s.mst[i.toNat]? = some m) (hm : m.state = .known) (hq : s.sgq.queue ≠ []) :
    serveMediaMount [i] s = answerStatus 18 .inUse s := by
  rw [serveMediaMount_slot h, if_neg (by simp [hm]), if_neg (by simp [hm]), if_pos ((queueOccupied_iff s).2 hq)]

theorem serveMediaMount_accepted (h : s.mst[i.toNat]? = some m) (hm : m.state = .known) (hq : s.sgq.queue = []) :
    serveMediaMount [i] s = answerStatus 18 .ok
      { s with
        mst := s.mst.mapIdx fun k n =>
          if k = i.toNat then { n with state := .mounted }
          else if n.state = .mounted then { n with state := .known } else n } := by
  rw [serveMediaMount_slot h, if_neg (by simp [hm]), if_neg (by simp [hm]),
    if_neg fun occupied => (queueOccupied_iff s).1 occupied hq, map_unmount_modify_mounted]

end

/-! ### MEDIA_UNMOUNT by the outcome of its checks (R27) -/

section
variable {p : List Byte} {s : State}

theorem mountedIndex_ne_none (h : ∃ m ∈ s.mst, m.state = .mounted) : s.mountedIndex ≠ none := by
  obtain ⟨m, hmem, hm⟩ := h
  exact fun none_mounted => (mountedIndex_eq_none_iff s).1 none_mounted m hmem hm

theorem serveMediaUnmount_none (h : ∀ m ∈ s.mst, m.state ≠ .mounted) :
    serveMediaUnmount p s = answerStatus 19 .state s := by
  rw [serveMediaUnmount, if_pos ((mountedIndex_eq_none_iff s).2 h)]

theorem serveMediaUnmount_occupied (h : ∃ m ∈ s.mst, m.state = .mounted) (hq : s.sgq.queue ≠ []) :
    serveMediaUnmount p s = answerStatus 19 .inUse s := by
  rw [serveMediaUnmount, if_neg (mountedIndex_ne_none h), if_pos ((queueOccupied_iff s).2 hq)]

theorem serveMediaUnmount_accepted (h : ∃ m ∈ s.mst, m.state = .mounted) (hq : s.sgq.queue = []) :
    serveMediaUnmount p s = answerStatus 19 .ok { s with mst := s.mst.map Slot.unmount } := by
  rw [serveMediaUnmount, if_neg (mountedIndex_ne_none h), if_neg fun occupied => (queueOccupied_iff s).1 occupied hq]

end

/-- Settles O30: a request that the idle port takes is served, and every clause is one outcome of the checks of R26 or R27. -/
theorem mountingChangesTheMountedSlot : Obligations.MountingChangesTheMountedSlot := by
  unfold Obligations.MountingChangesTheMountedSlot
  intro s hport
  simp only [exec_mediaUnmount_frame s hport, exec_mediaMount_frame _ s hport]
  refine ⟨fun hlen i hi => ?outside, fun i m h => ⟨fun hm => ?free, fun hm => ?mounted, fun hm hq => ?occupied, fun hm hq => ?mount⟩,
    fun h => ?noneMounted, fun h hq => ?unmountOccupied, fun h hq => ?unmount⟩
  case outside => rw [serveMediaMount_outside (by omega)]; rfl
  case free => rw [serveMediaMount_free h hm]; rfl
  case mounted => rw [serveMediaMount_mounted h hm]; rfl
  case occupied => rw [serveMediaMount_occupied h hm hq]; rfl
  case mount => rw [serveMediaMount_accepted h hm hq]; rfl
  case noneMounted => rw [serveMediaUnmount_none h]; rfl
  case unmountOccupied => rw [serveMediaUnmount_occupied h hq]; rfl
  case unmount => rw [serveMediaUnmount_accepted h hq]; rfl

end Sys2Proof.Machine
end

section
/-! SUPPORT. Proofs of the statements about resolution (spec/03_resolution.md): each search of the table and of the zones is given by
what it finds and by when it finds nothing, so that the steps of R41 to R44 are read off `resolve` without opening a search. -/

namespace Sys2Proof.Machine

open Sys2Proof.Stated

/-! ### Finding the record of a key (R41, R42) -/

section
variable {places : List Place} {k : Key} {ok : Record → Bool}

theorem findRecord_eq_none (h : ∀ i, ∀ r ∈ sourceRecord places i, r.key = k → ok r = false) : findRecord places k ok = none := by
  refine List.findIdx?_eq_none_iff.2 fun p hp => ?_
  obtain ⟨i, hi⟩ := List.getElem?_of_mem hp
  cases hr : p.held with
  | none => rfl
  | some r =>
    have held : r ∈ sourceRecord places i := by simp [sourceRecord, hi, hr]
    simpa using h i r held

/-- The search finds the lowest place whose record has the key and is in a wanted state. -/
theorem findRecord_eq_some {i : Nat} {r : Record} (hr : r ∈ sourceRecord places i) (hk : r.key = k) (hok : ok r = true)
    (below : ∀ j < i, ∀ q ∈ sourceRecord places j, q.key = k → ok q = false) : findRecord places k ok = some i := by
  obtain ⟨p, hp, held⟩ : ∃ p, places[i]? = some p ∧ p.held = some r := Option.bind_eq_some_iff.1 hr
  obtain ⟨hi, rfl⟩ := List.getElem?_eq_some_iff.1 hp
  refine List.findIdx?_eq_some_iff_getElem.2 ⟨hi, by simp [held, hk, hok], fun j hj => ?_⟩
  cases hq : places[j].held with
  | none => simp
  | some q =>
    have heldBelow : q ∈ sourceRecord places j := by simp [sourceRecord, hq, hj.trans hi]
    simpa using below j hj q heldBelow

theorem usableRecord_of_usableAt {z i : Nat} (h : usableAt places k z i) : usableRecord places { k with zone := z } = some i := by
  obtain ⟨⟨r, hr, hk, hu⟩, below⟩ := h
  exact findRecord_eq_some hr hk hu below

theorem usableRecord_of_noneUsable {z : Nat} (h : noneUsable places k z) : usableRecord places { k with zone := z } = none :=
  findRecord_eq_none h

end

/-! ### The neighbours (R40) -/

section
variable {places : List Place} {k : Key} {z i : Nat}

theorem firstNeighbour_eq_none {zs : List Nat} (h : ∀ z ∈ zs, noneUsable places k z) : firstNeighbour places k zs = none :=
  List.findSome?_eq_none_iff.2 fun z hz => by rw [usableRecord_of_noneUsable (h z hz)]; rfl

/-- The search passes over the zones `before` that hold no usable record and ends at the first that holds one. -/
theorem firstNeighbour_append_cons {before after : List Nat} (passed : ∀ y ∈ before, noneUsable places k y)
    (h : usableAt places k z i) : firstNeighbour places k (before ++ z :: after) = some ⟨z, i⟩ :=
  List.findSome?_eq_some_iff.2 ⟨before, z, after, rfl, by rw [usableRecord_of_usableAt h]; rfl,
    fun y hy => by rw [usableRecord_of_noneUsable (passed y hy)]; rfl⟩

/-- The numbers below `n`, cut at one of them. -/
theorem range_cut {m n : Nat} (h : m < n) :
    List.range n = List.range m ++ m :: (List.range (n - (m + 1))).map (m + 1 + ·) := by
  calc List.range n = List.range (m + 1 + (n - (m + 1))) := by rw [Nat.add_sub_cancel' h]
    _ = _ := by rw [List.range_add, List.range_succ, List.append_assoc, List.singleton_append]

theorem lowerNeighbour_eq_none (h : ∀ y < k.zone, noneUsable places k y) : lowerNeighbour places k = none :=
  firstNeighbour_eq_none fun y hy => h y (by simpa using hy)

theorem lowerNeighbour_eq_some (hz : z < k.zone) (h : usableAt places k z i)
    (between : ∀ y, z < y → y < k.zone → noneUsable places k y) : lowerNeighbour places k = some ⟨z, i⟩ := by
  rw [lowerNeighbour, range_cut hz, List.reverse_append, List.reverse_cons, List.append_assoc, List.singleton_append]
  refine firstNeighbour_append_cons (fun y hy => ?_) h
  simp only [List.mem_reverse, List.mem_map, List.mem_range] at hy
  obtain ⟨d, hd, rfl⟩ := hy
  exact between _ (by omega) (by omega)

theorem upperNeighbour_eq_none (h : ∀ y, k.zone < y → y ≤ 23 → noneUsable places k y) : upperNeighbour places k = none := by
  refine firstNeighbour_eq_none fun y hy => ?_
  simp only [List.mem_map, List.mem_range] at hy
  obtain ⟨d, hd, rfl⟩ := hy
  exact h _ (by omega) (by omega)

theorem upperNeighbour_eq_some (hz : k.zone < z) (hz23 : z ≤ 23) (h : usableAt places k z i)
    (between : ∀ y, k.zone < y → y < z → noneUsable places k y) : upperNeighbour places k = some ⟨z, i⟩ := by
  have offset : k.zone + 1 + (z - (k.zone + 1)) = z := by omega
  rw [upperNeighbour, range_cut (show z - (k.zone + 1) < 23 - k.zone by omega), List.map_append, List.map_cons, offset]
  refine firstNeighbour_append_cons (fun y hy => ?_) h
  simp only [List.mem_map, List.mem_range] at hy
  obtain ⟨d, hd, rfl⟩ := hy
  exact between _ (by omega) (by omega)

end

/-! ### The steps of a resolution (R41 to R44) -/

section
variable {places : List Place} {set : Settings} {k : Key}

theorem resolve_trial_found {i : Nat} (h : provisionalRecord places k = some i) :
    resolve places set .trial k = .found .exactTrial [i] := by simp only [resolve, h]

theorem resolve_trial_none (h : provisionalRecord places k = none) : resolve places set .trial k = .noTrial := by
  simp only [resolve, h]

theorem resolve_exact {i : Nat} (h : usableRecord places k = some i) : resolve places set .normal k = .found .exact [i] := by
  simp only [resolve, h]

/-- Without an exact record, two neighbours within the derive span derive, and those farther apart are left to the borrow (R43). -/
theorem resolve_between {l u : Neighbour} (h : usableRecord places k = none) (hl : lowerNeighbour places k = some l)
    (hu : upperNeighbour places k = some u) :
    resolve places set .normal k =
      if u.zone - l.zone ≤ set.deriveSpan then .derived l u else borrow k set.borrowDistance (some l) (some u) := by
  simp only [resolve, h, hl, hu]

/-- Without an exact record and with a neighbour on one side at most, the borrow decides (R43, R44). -/
theorem resolve_beside (h : usableRecord places k = none) (oneSide : lowerNeighbour places k = none ∨ upperNeighbour places k = none) :
    resolve places set .normal k = borrow k set.borrowDistance (lowerNeighbour places k) (upperNeighbour places k) := by
  cases hl : lowerNeighbour places k with
  | none => simp only [resolve, h, hl]
  | some l =>
    have hu : upperNeighbour places k = none := oneSide.resolve_left (by simp [hl])
    simp only [resolve, h, hl, hu]

end

/-- Settles O40: the searches find what the statement's cases say, and each case is one step of R41 to R44. -/
theorem resolutionFollowsTheSteps : Obligations.ResolutionFollowsTheSteps := by
  unfold Obligations.ResolutionFollowsTheSteps
  intro places set k hzone
  refine ⟨fun i r hr hk hp below => ?trial, fun none_provisional => ?noTrial, fun i h => ?exact, fun none_exact => ?inexact⟩
  case trial =>
    exact resolve_trial_found (findRecord_eq_some hr hk (decide_eq_true hp)
      fun j hj q hq hqk => decide_eq_false (below j hj q hq hqk))
  case noTrial =>
    exact resolve_trial_none (findRecord_eq_none fun i r hr hk => decide_eq_false (none_provisional i r hr hk))
  case exact => exact resolve_exact (usableRecord_of_usableAt h)
  case inexact =>
    have inexact : usableRecord places k = none := usableRecord_of_noneUsable none_exact
    refine ⟨fun zl zu i j hl hu hu23 atLower atUpper between => ?both, fun zl i hl atLower above => ?lowerOnly,
      fun zu j hu hu23 atUpper below => ?upperOnly, fun nowhere => ?neither⟩
    case both =>
      have lower : lowerNeighbour places k = some ⟨zl, i⟩ :=
        lowerNeighbour_eq_some hl atLower fun z hz hzk => between z hz (hzk.trans hu)
      have upper : upperNeighbour places k = some ⟨zu, j⟩ :=
        upperNeighbour_eq_some hu hu23 atUpper fun z hkz hz => between z (hl.trans hkz) hz
      exact resolve_between inexact lower upper
    case lowerOnly =>
      have lower : lowerNeighbour places k = some ⟨zl, i⟩ :=
        lowerNeighbour_eq_some hl atLower fun z hz hzk => above z hz (hzk.le.trans hzone)
      have upper : upperNeighbour places k = none := upperNeighbour_eq_none fun z hkz hz => above z (hl.trans hkz) hz
      rw [resolve_beside inexact (.inr upper), lower, upper]
      rfl
    case upperOnly =>
      have lower : lowerNeighbour places k = none := lowerNeighbour_eq_none fun z hz => below z (hz.trans hu)
      have upper : upperNeighbour places k = some ⟨zu, j⟩ :=
        upperNeighbour_eq_some hu hu23 atUpper fun z _ hz => below z hz
      rw [resolve_beside inexact (.inl lower), lower, upper]
      rfl
    case neither =>
      have lower : lowerNeighbour places k = none := lowerNeighbour_eq_none fun z hz => nowhere z (hz.le.trans hzone)
      have upper : upperNeighbour places k = none := upperNeighbour_eq_none fun z _ hz => nowhere z hz
      rw [resolve_beside inexact (.inl lower), lower, upper]
      rfl

end Sys2Proof.Machine
end

section
/-! SUPPORT. Proof of the statement about the sled (R106 to R109).  The pair SLA, SLB goes round four places; how far along the outward order
the new observation lies from the one before it says which move it is, and each move has one effect. -/

namespace Sys2Proof.Machine

open Sys2Proof.Stated

/-! ### The move that two observations make (R106, R108) -/

section
variable {sla slb sla' slb' : Bool}

theorem sledMove_eq_outward (follows : (sla', slb') = outward (sla, slb)) :
    sledMove (quadrature sla slb) (quadrature sla' slb') = .outward := by
  cases sla <;> cases slb <;> cases follows <;> rfl

theorem sledMove_eq_inward (against : (sla, slb) = outward (sla', slb')) :
    sledMove (quadrature sla slb) (quadrature sla' slb') = .inward := by
  cases sla' <;> cases slb' <;> cases against <;> rfl

/-- Two places along the outward order both lines have changed (R108). -/
theorem sledMove_eq_glitch (bothChanged : (sla', slb') = outward (outward (sla, slb))) :
    sledMove (quadrature sla slb) (quadrature sla' slb') = .glitch := by
  cases sla <;> cases slb <;> cases bothChanged <;> rfl

theorem sledMove_eq_none (same : (sla', slb') = (sla, slb)) :
    sledMove (quadrature sla slb) (quadrature sla' slb') = .none := by
  cases same
  cases sla <;> cases slb <;> rfl

end

/-! ### The effect of each move -/

/-- The lines of the sled as observed, with nothing else changed. -/
def State.withSledLines (s : State) (sla slb shome : Bool) : State :=
  { s with lines := { s.lines with sla, slb, shome } }

/-- What a move does to the state that has the new lines. -/
def SledMove.effect (shome : Bool) : SledMove → State → State
  | .none, s => s
  | .outward, s => stepOutward s
  | .inward, s => stepInward shome s
  | .glitch, s => positionLost s

theorem exec_sledStep (s : State) (sla slb shome : Bool) :
    exec (.sledStep sla slb shome) s
      = .next ((sledMove (quadrature s.lines.sla s.lines.slb) (quadrature sla slb)).effect shome (s.withSledLines sla slb shome)) := by
  change execSledStep sla slb shome s = _
  unfold execSledStep
  cases sledMove (quadrature s.lines.sla s.lines.slb) (quadrature sla slb) <;> rfl

theorem positionLost_eq_lost (s : State) : positionLost s = lost s := rfl

/-- An outward step counts up to 32767, where it loses the position (R106, R109). -/
theorem stepOutward_eq (s : State) :
    stepOutward s = if s.pkp.sled < 32767 then { s with pkp := { s.pkp with sled := s.pkp.sled + 1 } } else lost s := rfl

/-- An inward step is a home event, or counts down to 0, where it loses the position (R106, R107, R109). -/
theorem stepInward_eq (shome : Bool) (s : State) :
    stepInward shome s = if shome then { s with pkp := { s.pkp with sled := 0, valid := true } }
      else if 0 < s.pkp.sled then { s with pkp := { s.pkp with sled := s.pkp.sled - 1 } } else lost s := rfl

/-- Settles O51: the pair before and after an observation gives its move, and the move its effect. -/
theorem sledStepsAndGlitches : Obligations.SledStepsAndGlitches := by
  unfold Obligations.SledStepsAndGlitches
  intro s sla slb shome
  rw [exec_sledStep]
  refine ⟨fun follows => ?outward, fun against => ?inward, fun bothChanged => ?glitch, fun same => ?none⟩
  case outward =>
    rw [sledMove_eq_outward follows, SledMove.effect, stepOutward_eq]
    rfl
  case inward =>
    rw [sledMove_eq_inward against, SledMove.effect, stepInward_eq]
    rfl
  case glitch =>
    rw [sledMove_eq_glitch bothChanged, SledMove.effect, positionLost_eq_lost]
    rfl
  case none =>
    rw [sledMove_eq_none same, SledMove.effect]
    rfl

end Sys2Proof.Machine
end

section
/-! SUPPORT. Proof of the statement about the laser's four requests (R168, R170, R175, R182).  Each lemma below says what a serving function does
for one outcome of its rule's checks; a move between laser states computes the codes anew (R155), and that is said once. -/

namespace Sys2Proof.Machine

open Sys2Proof.Stated

/-! ### The requests as the idle port serves them -/

section
variable {s : State}

theorem exec_laserOn_frame (hport : s.cpt.port = .idle) :
    exec (.laserOn (frame [])) s = .next (clocked (frame []) s (serveLaserOn [] s)) :=
  congrArg Host.Outcome.next (request_frame 80 serveLaserOn [] s hport (by simp))

theorem exec_laserOff_frame (hport : s.cpt.port = .idle) :
    exec (.laserOff (frame [])) s = .next (clocked (frame []) s (serveLaserOff [] s)) :=
  congrArg Host.Outcome.next (request_frame 81 serveLaserOff [] s hport (by simp))

theorem exec_holdClear_frame (hport : s.cpt.port = .idle) :
    exec (.holdClear (frame [])) s = .next (clocked (frame []) s (serveHoldClear [] s)) :=
  congrArg Host.Outcome.next (request_frame 82 serveHoldClear [] s hport (by simp))

theorem exec_supplyAck_frame (hport : s.cpt.port = .idle) :
    exec (.supplyAck (frame [])) s = .next (clocked (frame []) s (serveSupplyAck [] s)) :=
  congrArg Host.Outcome.next (request_frame 83 serveSupplyAck [] s hport (by simp))

end

/-! ### A change of laser state -/

/-- A change of laser state is a cause of R155, whatever else the event did. -/
theorem settleCodes_of_laser_ne {before after : State} (h : before.lsc.laser ≠ after.lsc.laser) :
    settleCodes before after = recompute true after := by
  have due : recomputeDue before after = true := decide_eq_true (.inl h)
  rw [settleCodes, if_pos due, decide_eq_true h]

/-- The laser goes to SETTLING from another state, and the codes are those of SETTLING. -/
theorem settleCodes_startSettling {s : State} (h : s.lsc.laser ≠ .settling) :
    settleCodes s (startSettling s) = recompute true (startSettling s) :=
  settleCodes_of_laser_ne h

/-- The laser goes OFF from another state, and the codes are those of OFF. -/
theorem settleCodes_laserToOff {s : State} (h : s.lsc.laser ≠ .off) :
    settleCodes s (laserToOff s) = recompute true (laserToOff s) :=
  settleCodes_of_laser_ne h

section
variable {p : List Byte} {s : State}

/-! ### LASER_ON by the outcome of its checks (R168) -/

/-- The two checks that answer STATE: the laser is OFF, and no causes are kept. -/
theorem serveLaserOn_state (h : s.lsc.laser ≠ .off ∨ s.lsc.causes ≠ HoldCauses.empty) :
    serveLaserOn p s = answerStatus 80 .state s := by
  by_cases lit : s.lsc.laser ≠ .off
  · rw [serveLaserOn, if_pos lit]
  · rw [serveLaserOn, if_neg lit, if_pos (h.resolve_left lit)]

/-- With the laser OFF and no causes kept, LASER_ON turns on the limits and then on the diode's calibration. -/
theorem serveLaserOn_off (hoff : s.lsc.laser = .off) (hcauses : s.lsc.causes = HoldCauses.empty) :
    serveLaserOn p s =
      if s.plp.limits = none then answerStatus 80 .noLimits s
      else if s.plp.diodeValid = false then answerStatus 80 .noDiode s
      else answerStatus 80 .ok (recompute true (startSettling s)) := by
  have lights : settleCodes s (startSettling s) = recompute true (startSettling s) :=
    settleCodes_startSettling (by simp [hoff])
  simp [serveLaserOn, hoff, hcauses, lights]

/-! ### LASER_OFF by the laser state and the queue (R170) -/

theorem serveLaserOff_off (h : s.lsc.laser = .off) : serveLaserOff p s = answerStatus 81 .ok s := by
  simp only [serveLaserOff, h]

theorem serveLaserOff_busy
    (h : s.lsc.laser = .write ∨ (s.lsc.laser = .settling ∨ s.lsc.laser = .read) ∧ s.sgq.queue ≠ []) :
    serveLaserOff p s = answerStatus 81 .busy s := by
  obtain writing | ⟨settling | reading, occupied⟩ := h
  · simp only [serveLaserOff, writing]
  · simp [serveLaserOff, settling, occupied]
  · simp [serveLaserOff, reading, occupied]

/-- LASER_OFF darkens a held laser whatever the queue, a settling or reading one with the queue empty. -/
theorem serveLaserOff_moves
    (h : s.lsc.laser = .hold ∨ (s.lsc.laser = .settling ∨ s.lsc.laser = .read) ∧ s.sgq.queue = []) :
    serveLaserOff p s = answerStatus 81 .ok (recompute true (laserToOff s)) := by
  have lit : s.lsc.laser ≠ .off := by
    obtain held | ⟨settling | reading, -⟩ := h <;> simp [*]
  rw [← settleCodes_laserToOff lit]
  obtain held | ⟨settling | reading, empty⟩ := h
  · simp only [serveLaserOff, held]
  · simp [serveLaserOff, settling, empty]
  · simp [serveLaserOff, reading, empty]

/-! ### HOLD_CLEAR by the laser state, LDTRIP and the causes (R175) -/

theorem serveHoldClear_lit (h : s.lsc.laser = .settling ∨ s.lsc.laser = .read ∨ s.lsc.laser = .write) :
    serveHoldClear p s = answerStatus 82 .state s := by
  obtain settling | reading | writing := h <;> simp only [serveHoldClear, *]

/-- In HOLD an asserted LDTRIP refuses; else the return state says whether the laser lights again. -/
theorem serveHoldClear_hold (h : s.lsc.laser = .hold) :
    serveHoldClear p s =
      if s.lines.ldtrip then answerStatus 82 .state s
      else if s.lsc.ret = some .lit then answerStatus 82 .ok (recompute true (startSettling s))
      else answerStatus 82 .ok (recompute true { s with lsc := Lsc.reset }) := by
  have lights : settleCodes s (startSettling s) = recompute true (startSettling s) :=
    settleCodes_startSettling (by simp [h])
  have darkens : settleCodes s { s with lsc := Lsc.reset } = recompute true { s with lsc := Lsc.reset } :=
    settleCodes_of_laser_ne (by simp [h, Lsc.reset])
  simp only [serveHoldClear, h, lights, darkens]

/-- In OFF there is nothing to clear, or LDTRIP refuses, or the kept causes go. -/
theorem serveHoldClear_off (h : s.lsc.laser = .off) :
    serveHoldClear p s =
      if s.lsc.causes = HoldCauses.empty then answerStatus 82 .ok s
      else if s.lines.ldtrip then answerStatus 82 .state s
      else answerStatus 82 .ok { s with lsc := { s.lsc with causes := HoldCauses.empty } } := by
  simp only [serveHoldClear, h]

/-! ### SUPPLY_ACK by LDWARN (R182) -/

theorem serveSupplyAck_asserted (h : s.lines.ldwarn = true) : serveSupplyAck p s = answerStatus 83 .state s := by
  rw [serveSupplyAck, if_pos h]

theorem serveSupplyAck_deasserted (h : s.lines.ldwarn = false) :
    serveSupplyAck p s = answerStatus 83 .ok { s with wgd := { s.wgd with supplyWarn := false } } := by
  rw [serveSupplyAck, if_neg (by simp [h])]

end

/-- Settles O59: a request that the idle port takes is served, and every clause is one outcome of the checks of its rule. -/
theorem laserRequests : Obligations.LaserRequests := by
  unfold Obligations.LaserRequests
  intro s hport
  simp only [exec_laserOn_frame hport, exec_laserOff_frame hport, exec_holdClear_frame hport, exec_supplyAck_frame hport]
  refine ⟨⟨fun h => ?onState, fun hoff hc => ⟨fun hl => ?onNoLimits, fun hl hd => ?onNoDiode, fun hl hd => ?onLights⟩⟩,
    ⟨fun h => ?offAlready, fun h => ?offBusy, fun h => ?offMoves⟩,
    ⟨fun h => ?clearLit, fun h ht => ?clearTripped, fun h ht hr => ?clearToLit, fun h ht hr => ?clearToDark,
      fun h hc => ?clearNothing, fun h hc ht => ?clearKeptTripped, fun h hc ht => ?clearKept⟩,
    fun h => ?ackRefused, fun h => ?ackTaken⟩
  case onState => rw [serveLaserOn_state h]; rfl
  case onNoLimits => rw [serveLaserOn_off hoff hc, if_pos hl]; rfl
  case onNoDiode => rw [serveLaserOn_off hoff hc, if_neg hl, if_pos hd]; rfl
  case onLights => rw [serveLaserOn_off hoff hc, if_neg hl, if_neg (by simp [hd])]; rfl
  case offAlready => rw [serveLaserOff_off h]; rfl
  case offBusy => rw [serveLaserOff_busy h]; rfl
  case offMoves => rw [serveLaserOff_moves h]; rfl
  case clearLit => rw [serveHoldClear_lit h]; rfl
  case clearTripped => rw [serveHoldClear_hold h, if_pos ht]; rfl
  case clearToLit => rw [serveHoldClear_hold h, if_neg (by simp [ht]), if_pos hr]; rfl
  case clearToDark => rw [serveHoldClear_hold h, if_neg (by simp [ht]), if_neg (by simp [hr])]; rfl
  case clearNothing => rw [serveHoldClear_off h, if_pos hc]; rfl
  case clearKeptTripped => rw [serveHoldClear_off h, if_neg hc, if_pos ht]; rfl
  case clearKept => rw [serveHoldClear_off h, if_neg hc, if_neg (by simp [ht])]; rfl
  case ackRefused => rw [serveSupplyAck_asserted h]; rfl
  case ackTaken => rw [serveSupplyAck_deasserted h]; rfl

end Sys2Proof.Machine
end

section
/-! SUPPORT. Proof of the statement about the Activity Counters (R19, R203, R204): when a counter counts and wraps in the terms of R19, which
numbers the set of wrapped counters names, and how that set joins COUNTER_WRAP. -/

namespace Sys2Proof.Machine

open Sys2Proof.Stated

/-! ### Which counters count and wrap (R19, R203, R204) -/

/-- A filter field, any or a value, lets a value pass (R19). -/
theorem all_beq_iff (o : Option Nat) (x : Nat) : o.all (· == x) = true ↔ o = none ∨ o = some x := by
  cases o <;> simp

theorem matches_eq_filterTakes (f : KeyFilter) (k : Key) : f.matches k = filterTakes f k := by
  have zone : f.zone.all (fun r => decide (r.1 ≤ k.zone ∧ k.zone ≤ r.2)) = true
      ↔ ∀ z ∈ f.zone, z.1 ≤ k.zone ∧ k.zone ≤ z.2 := by
    cases f.zone <;> simp
  rw [Bool.eq_iff_iff, KeyFilter.matches, filterTakes, decide_eq_true_iff]
  simp only [Bool.and_eq_true, all_beq_iff, zone, and_assoc]

section
variable (ev : CounterEvent) (key : Option Key) (amount : Nat)

theorem counts_eq (c : Counter) :
    c.counts ev key = (decide (c.event = some ev) && key.all fun k => filterTakes c.filter k) := by
  simp only [Counter.counts, matches_eq_filterTakes]

theorem wraps_iff (c : Counter) :
    c.wraps ev key amount = true ↔ c.counts ev key = true ∧ 4294967296 ≤ c.value + amount := by
  rw [Counter.wraps, Bool.and_eq_true, decide_eq_true_iff]

/-! ### The set of the counters that wrap -/

/-- Number `i` is in the set when the counter at its place in the list, counted from `k`, wraps. -/
theorem getLsbD_wrapSet (i : Nat) (hi : i < 4) (cs : List Counter) (k : Nat) :
    (wrapSet ev key amount k cs).getLsbD i = true
      ↔ ∃ j c, cs[j]? = some c ∧ i = k + j ∧ c.wraps ev key amount = true := by
  induction cs generalizing k with
  | nil => simp [wrapSet]
  | cons c cs ih =>
    have first : (if c.wraps ev key amount then BitVec.ofNat 4 (2 ^ k) else 0).getLsbD i = true
        ↔ i = k ∧ c.wraps ev key amount = true := by
      by_cases hc : c.wraps ev key amount = true
      · rw [if_pos hc, BitVec.getLsbD_ofNat, Nat.testBit_two_pow]
        simp [hi, hc, eq_comm]
      · simp [hc]
    rw [wrapSet, BitVec.getLsbD_or, Bool.or_eq_true, first, ih (k + 1)]
    constructor
    · rintro (⟨hk, hc⟩ | ⟨j, d, hd, hj, hw⟩)
      · exact ⟨0, c, rfl, hk, hc⟩
      · exact ⟨j + 1, d, hd, by omega, hw⟩
    · rintro ⟨_ | j, d, hd, hj, hw⟩
      · obtain rfl : c = d := by simpa using hd
        exact .inl ⟨hj, hw⟩
      · exact .inr ⟨j, d, hd, by omega, hw⟩

/-- Among at most four counters, a counter's own number tells whether it wraps. -/
theorem getLsbD_wrapSet_of_getElem? {cs : List Counter} (hlen : cs.length ≤ 4) {i : Nat} {c : Counter} (hc : cs[i]? = some c) :
    (wrapSet ev key amount 0 cs).getLsbD i = true ↔ c.wraps ev key amount = true := by
  obtain ⟨hi, -⟩ := List.getElem?_eq_some_iff.1 hc
  rw [getLsbD_wrapSet ev key amount i (by omega)]
  constructor
  · rintro ⟨j, d, hd, hj, hw⟩
    obtain rfl : i = j := by omega
    obtain rfl : c = d := Option.some.inj (hc.symm.trans hd)
    exact hw
  · exact fun hw => ⟨i, c, hc, by omega, hw⟩

/-- Four bits hold the numbers of four counters: the set is empty only when none wraps. -/
theorem wrapSet_ne_zero_iff {cs : List Counter} (hlen : cs.length ≤ 4) :
    wrapSet ev key amount 0 cs ≠ 0 ↔ ∃ c ∈ cs, c.wraps ev key amount = true := by
  constructor
  · intro nonzero
    by_contra none_wraps
    refine nonzero (BitVec.eq_of_getLsbD_eq fun i hi => ?_)
    have absent : (wrapSet ev key amount 0 cs).getLsbD i = false := by
      rw [Bool.eq_false_iff, Ne, getLsbD_wrapSet ev key amount i hi]
      rintro ⟨j, c, hc, -, hw⟩
      exact none_wraps ⟨c, List.mem_of_getElem? hc, hw⟩
    exact absent.trans BitVec.getLsbD_zero.symm
  · rintro ⟨c, hmem, hw⟩ zero
    obtain ⟨i, hc⟩ := List.getElem?_of_mem hmem
    have named := (getLsbD_wrapSet_of_getElem? ev key amount hlen hc).2 hw
    simp [zero] at named

end

/-! ### COUNTER_WRAP after a set joins it (R194, R204) -/

section
variable (n : Notices) (w : BitVec 4)

theorem wrap_zero : n.wrap 0 = n := if_pos rfl

theorem wrap_of_ne_zero (hw : w ≠ 0) : n.wrap w = { n with counterWrap := some (n.counterWrap.getD 0 ||| w) } := if_neg hw

theorem wrap_detail : (n.wrap w).counterWrap.getD 0 = n.counterWrap.getD 0 ||| w := by
  by_cases hw : w = 0
  · rw [hw, wrap_zero]
    exact BitVec.or_zero.symm
  · rw [wrap_of_ne_zero n w hw, Option.getD_some]

theorem wrap_isSome : (n.wrap w).counterWrap.isSome = true ↔ n.counterWrap.isSome = true ∨ w ≠ 0 := by
  by_cases hw : w = 0
  · simp only [hw, wrap_zero, ne_eq, not_true, or_false]
  · simp only [wrap_of_ne_zero n w hw, Option.isSome_some, ne_eq, hw, not_false_eq_true, or_true]

theorem wrap_frame : n.wrap w = { n with counterWrap := (n.wrap w).counterWrap } := by
  by_cases hw : w = 0
  · rw [hw, wrap_zero]
  · rw [wrap_of_ne_zero n w hw]

end

/-- Settles O27: counters are mapped one by one, and COUNTER_WRAP gains the set of the numbers of those that wrap. -/
theorem counterEventsCountAndWrap : Obligations.CounterEventsCountAndWrap := by
  unfold Obligations.CounterEventsCountAndWrap
  intro ev key amount s hlen
  simp only [countEvent_act, countEvent_notices, ← counts_eq, ← wraps_iff]
  refine ⟨fun i c hc => ?value, fun i c hc => ?detail, ?present, ?frame⟩
  case value =>
    rw [List.getElem?_map, hc]
    rfl
  case detail =>
    rw [wrap_detail, BitVec.getLsbD_or, Bool.or_eq_true, getLsbD_wrapSet_of_getElem? ev key amount hlen.le hc]
  case present => rw [wrap_isSome, wrapSet_ne_zero_iff ev key amount hlen.le]
  case frame => rw [← wrap_frame, countEvent]

end Sys2Proof.Machine
end

section
/-! SUPPORT. Proofs of the statements about the step, the reset state and the two resets that come from outside. -/

namespace Sys2Proof.Machine

open Sys2Proof.Stated

/-- Settles O1: `step` matches on the queue of waiting commands, here a non-empty one. -/
theorem stepTakesFrontCommand : Obligations.StepTakesFrontCommand := by
  intro c rest s
  rfl

/-- Settles O2: `step` matches on the queue of waiting commands, here the empty one. -/
theorem stepIdlesOnEmptyQueue : Obligations.StepIdlesOnEmptyQueue := by
  intro s idle
  rw [step, idle]

/-! ### The reset state -/

theorem reset_mediaTableHolds : Safety.MediaTableHolds .reset := by decide

theorem reset_recordsInRange : Safety.RecordsInRange .reset := by decide

theorem reset_countsAgree : Safety.CountsAgree .reset := by decide

theorem reset_keysLimited : Safety.KeysLimited .reset := by decide

theorem reset_pinsAgree : Safety.PinsAgree .reset := by decide

theorem reset_writeGuarded : Safety.WriteGuarded .reset := by decide

theorem reset_linkHolds : Safety.LinkHolds .reset := by decide

theorem reset_portHolds : Safety.PortHolds .reset := by decide

theorem reset_settingsInRange : Safety.SettingsInRange .reset := by decide

theorem reset_pickupInRange : Safety.PickupInRange .reset := by decide

theorem reset_powerLoopInRange : Safety.PowerLoopInRange .reset := by decide

theorem reset_codesBounded : Safety.CodesBounded .reset := by decide

theorem reset_laserSafe : Safety.LaserSafe .reset := by decide

/-- Settles O4: each property of the reset state is a finite check of its fields. -/
theorem resetMeetsEveryInvariant : Obligations.ResetMeetsEveryInvariant :=
  ⟨reset_mediaTableHolds, reset_recordsInRange, reset_countsAgree, reset_keysLimited, reset_pinsAgree, reset_writeGuarded,
    reset_linkHolds, reset_portHolds, reset_settingsInRange, reset_pickupInRange, reset_powerLoopInRange, reset_codesBounded,
    reset_laserSafe⟩

/-! ### The resets from outside -/

/-- Settles O18: both resets are written out block by block, so every clause holds by definition. -/
theorem hardResetsReturnEveryBlock : Obligations.HardResetsReturnEveryBlock := by
  intro f s
  refine ⟨_, _, rfl, rfl, ?_⟩
  repeat' apply And.intro
  all_goals rfl

end Sys2Proof.Machine
end

section
/-! SUPPORT. What an event can do to the part, said once as a relation: `Move` lists the changes of the blocks with the facts that each
change brings along, and `Moves` is a row of them.  Every shared operation is a row of moves, and so is every command (the next sections); an
invariant that each move keeps is then kept by every command. -/

namespace Sys2Proof.Machine

open Sys2Proof.Stated

/-! ### Moves -/

/-- What of an entry never changes while it is held: position, tag, kind and class. -/
def Entry.badge (e : Entry) : Nat × Nat × SegKind × CreditClass := (e.pos, e.tag, e.kind, e.cls)

/-- The key of the ACTIVE or SUSPECT record in a place. -/
def Place.usableKey (p : Place) : Option Key := (p.held.filter Record.usable).map (·.key)

/-- The key of the PROVISIONAL record in a place. -/
def Place.provisionalKey (p : Place) : Option Key := (p.held.filter fun r => decide (r.state = .provisional)).map (·.key)

/-- A change of a place that names no new record: the key stands, no record comes to count in a limit of R13, and generation and record stay
within their ranges. -/
structure Tame (s : State) (p q : Place) : Prop where
  gen : p.gen ≤ 255 → q.gen ≤ 255
  key : q.held.map (·.key) = p.held.map (·.key)
  usable : q.usableKey = none ∨ q.usableKey = p.usableKey
  provisional : q.provisionalKey = none ∨ q.provisionalKey = p.provisionalKey
  range : Safety.RecordsInRange s → ∀ r ∈ q.held, Safety.recordInRange r = true

/-- The part with the working record of key `k`, if there is one, out of service (R64). -/
def superseded (k : Key) (s : State) : State :=
  match usableRecord s.stb k with
  | some j => leaveService j s
  | none => s

/-- What of settings, port and transactions a report leaves as it is. -/
def Cpt.kept (c : Cpt) : Settings × PortState × Option Byte × Option FixedRead := (c.settings, c.port, c.busyReply, c.reading)

/-- The port serves the engine's host lookup, also between the end of a lookup and the arbiter's next choice; a response read in progress acts
on what the port still holds (R35, R39, R190). -/
structure PortServes (s : State) : Prop where
  served : Safety.servedCode s.cpt = (Safety.hostLookup s.rse).map Safety.lookupCode
  fresh : s.rse.waiting = none → s.rse.waitCount = 0
  count : s.rse.waitCount ≤ 2
  behind : s.rse.waiting.isSome = true → s.rse.inFlight = .idle ∨ Safety.segmentInFlight s.rse = true ∧ s.rse.waitCount ≤ 1
  quiet : s.cpt.port = .idle → s.cpt.busyReply = none
  reads : ∀ r ∈ s.cpt.reading, r.acts = .response → s.cpt.port = .responseReady r.frame ∧ s.cpt.busyReply = none

/-- No host lookup waits for an idle engine (R39). -/
def NoneLeft (r : Rse) : Prop := r.inFlight = .idle → r.waiting = none

/-- One change of the part, with what is known of it. -/
inductive Move (s : State) : State → Prop
  /-- Notices, counters and the port, not the settings. -/
  | report (c : Cpt) (a : List Counter) (h : c.kept = s.cpt.kept) : Move s { s with cpt := c, act := a }
  /-- What is under way at the port is given up. -/
  | silence : Move s { s with cpt := { s.cpt with busyReply := none, reading := none, writing := none } }
  | settings (n : Settings) (h : Safety.SettingsInRange s → Safety.SettingsInRange { s with cpt := { s.cpt with settings := n } }) :
      Move s { s with cpt := { s.cpt with settings := n } }
  | lines (l : Lines) : Move s { s with lines := l }
  | engine (r : Rse) (h : PortServes s → PortServes { s with rse := r }) (hr : NoneLeft s.rse → NoneLeft r) : Move s { s with rse := r }
  | link (k : Flk) (h : Safety.LinkHolds s → Safety.LinkHolds { s with flk := k }) : Move s { s with flk := k }
  | pickup (k : Pkp) (r : Option Nat)
      (h : Safety.PickupInRange s → Safety.PickupInRange { s with pkp := k, sgq := { s.sgq with requester := r } }) :
      Move s { s with pkp := k, sgq := { s.sgq with requester := r } }
  | generator (g : Pgn) (h : Safety.CodesBounded s → Safety.CodesBounded { s with pgn := g }) : Move s { s with pgn := g }
  | power (p : Plp) (h : Safety.PowerLoopInRange s → Safety.PowerLoopInRange { s with plp := p })
      (hc : Safety.CodesBounded s → Safety.CodesBounded { s with plp := p }) : Move s { s with plp := p }
  | laser (l : Lsc) (w : Wgd) : Move s { s with lsc := l, wgd := w }
  /-- Entries change but for their badges, or leave. -/
  | queue (q : Sgq) (hb : (q.queue.map Entry.badge).Sublist (s.sgq.queue.map Entry.badge))
      (hc : Safety.RecordsInRange s → q.queue.all (fun e => Safety.copyInRange e.copy) = true)
      (hr : q.requester.isSome = true → s.sgq.requester.isSome = true) : Move s { s with sgq := q }
  | intake (e : Entry)
      (h : Safety.QueueWithinCredits s → Safety.QueueWithinCredits { s with sgq := { s.sgq with queue := s.sgq.queue ++ [e] } })
      (hc : Safety.copyInRange e.copy = true) : Move s { s with sgq := { s.sgq with queue := s.sgq.queue ++ [e] } }
  | place (i : Nat) (f : Place → Place) (h : ∀ p, s.stb[i]? = some p → Tame s p (f p)) : Move s (s.withPlace i f)
  | free (i : Nat) : Move s (freePlace i s)
  /-- A record is placed where none is held, in a slot that is not FREE, when none of its key is in the way. -/
  | install (i : Nat) (r : Record) (hi : s.record i = none ∧ i < s.stb.length) (hm : (s.mst[r.key.media]?).any (·.state ≠ .free) = true)
      (hr : Safety.RecordsInRange s → Safety.recordInRange r = true)
      (hu : r.usable = true → usableRecord s.stb r.key = none)
      (hp : r.state = .provisional → provisionalRecord s.stb r.key = none) : Move s (placeRecord i r s)
  /-- The candidate in place `i` becomes ACTIVE as the working record of its key leaves service. -/
  | promote (i : Nat) (r : Record) (h : s.record i = some r) (hp : r.state = .provisional) :
      Move s ((superseded r.key s).withRecord i ({ · with state := .active }))
  /-- The tables of slots and places change together. -/
  | tables (ps : List Place) (ms : List Slot) (hm : Safety.MediaTableHolds s → Safety.MediaTableHolds { s with stb := ps, mst := ms })
      (hr : Safety.RecordsInRange s → Safety.RecordsInRange { s with stb := ps, mst := ms })
      (hc : Safety.CountsAgree s → Safety.CountsAgree { s with stb := ps, mst := ms })
      (hk : Safety.KeysLimited s → Safety.KeysLimited { s with stb := ps, mst := ms }) : Move s { s with stb := ps, mst := ms }

/-- A row of moves. -/
abbrev Moves : State → State → Prop := Relation.ReflTransGen fun s t => Move s t

theorem Move.moves {s t : State} (h : Move s t) : Moves s t := .single h

theorem Moves.trans {s t u : State} (h : Moves s t) (h' : Moves t u) : Moves s u := Relation.ReflTransGen.trans h h'

/-- What every move keeps, a row of moves keeps. -/
theorem Moves.keep {P : State → Prop} (h : ∀ s t, Move s t → P s → P t) {s t : State} (m : Moves s t) (hs : P s) : P t := by
  induction m with
  | refl => exact hs
  | tail _ last ih => exact h _ _ last ih

/-- A fold of steps that are rows of moves, each from a state that `I` holds of, is a row of moves. -/
theorem Moves.foldl {α : Type} {I : State → Prop} {g : State → α → State} {l : List α} (h : ∀ s, ∀ a ∈ l, I s → Moves s (g s a))
    (hI : ∀ s, ∀ a ∈ l, I s → I (g s a)) {s : State} (hs : I s) : Moves s (l.foldl g s) := by
  induction l generalizing s with
  | nil => exact .refl
  | cons a l ih =>
    exact (h s a (by simp) hs).trans (ih (fun s b hb => h s b (by simp [hb])) (fun s b hb => hI s b (by simp [hb])) (hI s a (by simp) hs))

/-! ### Reports -/

/-- A state that differs in notices and counters alone. -/
theorem report_moves {s t : State} (h : t = { s with cpt := t.cpt, act := t.act }) (hs : t.cpt.kept = s.cpt.kept) : Moves s t := by
  rw [h]
  exact (Move.report t.cpt t.act hs).moves

@[simp] theorem withNotices_moves (s : State) (f : Notices → Notices) : Moves s (s.withNotices f) := report_moves rfl rfl

@[simp] theorem linkFault_moves (s : State) : Moves s (linkFault s) := withNotices_moves s _

@[simp] theorem countEvent_moves (ev : CounterEvent) (k : Option Key) (n : Nat) (s : State) : Moves s (countEvent ev k n s) :=
  report_moves rfl rfl

/-! ### Link messages -/

/-- The check byte completes a message to the sum 0 (R207). -/
theorem linkMessage_fits (c b1 b2 b3 b4 : Byte) : (linkMessage c b1 b2 b3 b4).length = 6 ∧ (linkMessage c b1 b2 b3 b4).sum = 0 := by
  refine ⟨rfl, ?_⟩
  simp only [linkMessage, checkByte, List.sum_cons, List.sum_nil]
  ring

theorem send_keeps_link {m : List Byte} (hm : m.length = 6 ∧ m.sum = 0) {s : State} (hroom : s.flk.out.length < 32)
    (h : Safety.LinkHolds s) : Safety.LinkHolds { s with flk := { s.flk with out := s.flk.out ++ [m] } } := by
  obtain ⟨-, messages, hsent, -, hrx, hside⟩ := h
  refine ⟨by simp; omega, ?_, hsent, by simp, hrx, hside⟩
  rw [List.all_append, messages]
  simp [hm]

theorem send_moves {m : List Byte} (hm : m.length = 6 ∧ m.sum = 0) (s : State) : Moves s (send m s) := by
  unfold send
  split
  · next room => exact (Move.link _ (send_keeps_link hm room)).moves
  · simp

theorem doneMessage_fits (tag : Nat) (c : CreditClass) (o : DoneOutcome) (w : Warnings) :
    (doneMessage tag c o w).length = 6 ∧ (doneMessage tag c o w).sum = 0 := linkMessage_fits ..

theorem readyMessage_fits (tag : Nat) : (readyMessage tag).length = 6 ∧ (readyMessage tag).sum = 0 := linkMessage_fits ..

theorem rejectMessage_fits (tag cls : Nat) (r : RejectReason) (b : Bool) :
    (rejectMessage tag cls r b).length = 6 ∧ (rejectMessage tag cls r b).sum = 0 := linkMessage_fits ..

/-! ### Record places and pins -/

theorem recordInRange_of_record {s : State} (h : Safety.RecordsInRange s) {p : Place} (hp : p ∈ s.stb) {r : Record} (hr : p.held = some r) :
    Safety.recordInRange r = true := by
  obtain ⟨-, -, records, -⟩ := h
  exact List.all_eq_true.1 records r (List.mem_filterMap.2 ⟨p, hp, hr⟩)

/-- A change of the record in a place that keeps its key and brings it into no limit of R13 is tame. -/
theorem withRecord_tame {s : State} (i : Nat) {f : Record → Record} (hkey : ∀ r, (f r).key = r.key)
    (husable : ∀ r, s.record i = some r → (f r).usable = true → r.usable = true)
    (hprov : ∀ r, (f r).state = .provisional → r.state = .provisional)
    (hrange : Safety.RecordsInRange s → ∀ r, Safety.recordInRange r = true → Safety.recordInRange (f r) = true) :
    ∀ p, s.stb[i]? = some p → Tame s p { p with held := p.held.map f } := by
  intro p hp
  have held : s.record i = p.held := by simp [State.record, hp]
  refine ⟨id, ?_, ?_, ?_, fun inRange r hr => ?_⟩
  · cases p.held <;> simp [hkey]
  · cases hh : p.held with
    | none => simp [Place.usableKey, hh]
    | some r =>
      by_cases hu : (f r).usable = true
      · simp [Place.usableKey, hh, hu, husable r (held.trans hh) hu, hkey, Option.filter_some]
      · simp [Place.usableKey, hh, hu, Option.filter_some]
  · cases hh : p.held with
    | none => simp [Place.provisionalKey, hh]
    | some r =>
      by_cases hu : (f r).state = .provisional
      · simp [Place.provisionalKey, hh, hu, hprov r hu, hkey, Option.filter_some]
      · simp [Place.provisionalKey, hh, hu, Option.filter_some]
  · obtain ⟨r0, hr0, rfl⟩ := Option.map_eq_some_iff.1 hr
    exact hrange inRange r0 (recordInRange_of_record inRange (List.mem_of_getElem? hp) hr0)

theorem withRecord_moves {s : State} (i : Nat) {f : Record → Record} (hkey : ∀ r, (f r).key = r.key)
    (husable : ∀ r, s.record i = some r → (f r).usable = true → r.usable = true)
    (hprov : ∀ r, (f r).state = .provisional → r.state = .provisional)
    (hrange : Safety.RecordsInRange s → ∀ r, Safety.recordInRange r = true → Safety.recordInRange (f r) = true) :
    Moves s (s.withRecord i f) := (Move.place i _ (withRecord_tame i hkey husable hprov hrange)).moves

@[simp] theorem freePlace_moves (i : Nat) (s : State) : Moves s (freePlace i s) := (Move.free i).moves

/-- A change of pins alone. -/
theorem repin_moves (i : Nat) (f : Record → Nat) (s : State) : Moves s (s.withRecord i fun r => { r with pins := f r }) :=
  withRecord_moves i (fun _ => rfl) (fun _ _ h => h) (fun _ h => h) (fun _ _ h => h)

@[simp] theorem pin_moves (i : Nat) (s : State) : Moves s (pin i s) := repin_moves i _ s

@[simp] theorem unpin_moves (i : Nat) (s : State) : Moves s (unpin i s) := by
  simp only [unpin]
  split
  · split
    · exact (repin_moves i _ s).trans (freePlace_moves _ _)
    · exact repin_moves i _ s
  · exact repin_moves i _ s

@[simp] theorem release_moves (e : Entry) (s : State) : Moves s (release e s) :=
  Moves.foldl (I := fun _ => True) (fun _ _ _ _ => unpin_moves _ _) (fun _ _ _ _ => trivial) trivial

/-- A record with its tally, correction or state of service changed stays in range when the new values are. -/
theorem recordInRange_update {r : Record} (h : Safety.recordInRange r = true) {onTime : Nat} {corr : Int} (st : RecState)
    (hon : onTime ≤ Config.maxOnTime) (hcorr : corrInRange corr = true) :
    Safety.recordInRange { r with onTime := onTime, corr := corr, state := st } = true := by
  simp only [Safety.recordInRange, Bool.and_eq_true, decide_eq_true_eq] at h ⊢
  obtain ⟨⟨⟨hkey, hstrat⟩, -⟩, -, hage⟩ := h
  exact ⟨⟨⟨hkey, hstrat⟩, hcorr⟩, hon, hage⟩

theorem recordInRange_corr {r : Record} (h : Safety.recordInRange r = true) : corrInRange r.corr = true := by
  simp only [Safety.recordInRange, Bool.and_eq_true] at h
  exact h.1.2

theorem recordInRange_onTime {r : Record} (h : Safety.recordInRange r = true) : r.onTime ≤ Config.maxOnTime := by
  simp only [Safety.recordInRange, Bool.and_eq_true, decide_eq_true_eq] at h
  exact h.2.1

theorem addOnTime_le (a b : Nat) : addOnTime a b ≤ Config.maxOnTime := Nat.min_le_left _ _

@[simp] theorem addTally_moves (i tally : Nat) (s : State) : Moves s (addTally i tally s) := by
  simp only [addTally]
  split
  · exact .refl
  · next r hr =>
    have tallied : ∀ aged : Bool, Moves s (s.withRecord i fun q =>
        { q with onTime := addOnTime r.onTime tally, state := if aged ∧ q.state = .active then .suspect else q.state }) := by
      intro aged
      refine withRecord_moves i (fun _ => rfl) (fun q _ hq => ?_) (fun q hq => ?_)
        fun _ q hq => recordInRange_update hq _ (addOnTime_le _ _) (recordInRange_corr hq)
      · split at hq <;> simp_all [Record.usable]
      · by_cases c : aged = true ∧ q.state = .active <;> simp_all
    split
    · exact (tallied _).trans (withNotices_moves _ _)
    · exact tallied _

/-- A correction within its range is stored, and a mark makes only a record SUSPECT that was ACTIVE or SUSPECT. -/
theorem storeCorrection_moves (h : Handle) (corr : Int) (limit : Bool) (s : State)
    (hcorr : Safety.RecordsInRange s → corrInRange corr = true) : Moves s (storeCorrection h corr limit s) := by
  simp only [storeCorrection]
  split
  · next gen r hplace =>
    have hrec : s.record h.index = some r := by simp [State.record, hplace]
    have inRange : ∀ st : Record → RecState, Safety.RecordsInRange s → ∀ q, Safety.recordInRange q = true →
        Safety.recordInRange { q with corr := corr, state := st q } = true :=
      fun st hs q hq => recordInRange_update hq _ (recordInRange_onTime hq) (hcorr hs)
    split
    · split
      · next marks =>
        refine Moves.trans ?_ (withNotices_moves _ _)
        refine withRecord_moves h.index (fun _ => rfl) (fun q hq _ => ?_) (fun q hq => by cases hq) (inRange fun _ => .suspect)
        obtain rfl : r = q := Option.some.inj (hrec.symm.trans hq)
        simpa using (Bool.and_eq_true_iff.1 marks).2
      · next unmarked =>
        exact withRecord_moves h.index (fun _ => rfl) (fun _ _ hq => hq) (fun _ hq => hq) (inRange (·.state))
    · exact .refl
  · exact .refl

@[simp] theorem partialWriteBack_moves (wc : WorkingCopy) (s : State) : Moves s (partialWriteBack wc s) :=
  Moves.foldl (I := fun _ => True) (fun _ _ _ _ => (addTally_moves _ _ _).trans (unpin_moves _ _)) (fun _ _ _ _ => trivial) trivial

theorem fullWriteBack_moves (wc : WorkingCopy) (limit : Bool) (s : State) (h : ∃ e ∈ s.sgq.queue, e.copy = .strategy wc) :
    Moves s (fullWriteBack wc limit s) := by
  refine Moves.foldl (I := fun u => u.sgq = s.sgq) (fun u h' _ hu => ?_) (fun u h' _ hu => ?_) rfl
  · have tallied := addTally_moves h'.index wc.tally u
    refine (tallied.trans ?_).trans (unpin_moves _ _)
    split
    · refine storeCorrection_moves _ _ _ _ fun inRange => ?_
      obtain ⟨-, -, -, copies, -⟩ := inRange
      obtain ⟨e, he, hcopy⟩ := h
      rw [addTally_sgq, hu] at copies
      have := List.all_eq_true.1 copies e he
      simp only [hcopy, Safety.copyInRange, Bool.and_eq_true] at this
      exact this.1.1.2
    · exact .refl
  · simp only [unpin_sgq]
    split <;> simp [hu]

/-! ### The queue -/

/-- Entries that leave the queue or change within their ranges and but for their badges. -/
theorem queue_moves {s : State} {q : List Entry} (hb : (q.map Entry.badge).Sublist (s.sgq.queue.map Entry.badge))
    (hc : Safety.RecordsInRange s → ∀ e ∈ q, Safety.copyInRange e.copy = true) :
    Moves s { s with sgq := { s.sgq with queue := q } } :=
  (Move.queue { s.sgq with queue := q } hb (fun h => List.all_eq_true.2 (hc h)) id).moves

theorem copyInRange_of_mem {s : State} (h : Safety.RecordsInRange s) {e : Entry} (he : e ∈ s.sgq.queue) :
    Safety.copyInRange e.copy = true := by
  obtain ⟨-, -, -, copies, -⟩ := h
  exact List.all_eq_true.1 copies e he

theorem withEntry_moves {s : State} (pos : Nat) {f : Entry → Entry} (hb : ∀ e, (f e).badge = e.badge)
    (hc : Safety.RecordsInRange s → ∀ e ∈ s.sgq.queue, e.pos = pos → Safety.copyInRange (f e).copy = true) :
    Moves s (s.withEntry pos f) := by
  refine queue_moves ?_ fun inRange e he => ?_
  · have badges : (s.sgq.queue.map fun e => if e.pos = pos then f e else e).map Entry.badge = s.sgq.queue.map Entry.badge := by
      rw [List.map_map]
      refine List.map_congr_left fun e _ => ?_
      by_cases h : e.pos = pos <;> simp [h, hb]
    rw [badges]
  · obtain ⟨e0, he0, rfl⟩ := List.mem_map.1 he
    by_cases h : e0.pos = pos
    · rw [if_pos h]; exact hc inRange e0 he0 h
    · rw [if_neg h]; exact copyInRange_of_mem inRange he0

theorem withHead_moves {s : State} {f : Entry → Entry} (hb : ∀ e, (f e).badge = e.badge)
    (hc : Safety.RecordsInRange s → ∀ e ∈ s.sgq.queue.head?, Safety.copyInRange (f e).copy = true) :
    Moves s (s.withHead f) := by
  unfold State.withHead
  refine queue_moves ?_ fun inRange e he => ?_
  · cases s.sgq.queue with
    | nil => exact .refl _
    | cons e q => simp [hb]
  · cases hq : s.sgq.queue with
    | nil => simp [hq] at he
    | cons e0 q =>
      rw [hq] at he
      obtain rfl | he := List.mem_cons.1 he
      · exact hc inRange e0 (by simp [hq])
      · exact copyInRange_of_mem inRange (by simp [hq, he])

/-- A change of the head that keeps its badge and its copy. -/
theorem withHead_moves_of_copy {s : State} {f : Entry → Entry} (hb : ∀ e, (f e).badge = e.badge) (hc : ∀ e, (f e).copy = e.copy) :
    Moves s (s.withHead f) :=
  withHead_moves hb fun inRange e he => by
    rw [hc]; exact copyInRange_of_mem inRange (List.mem_of_head? he)

/-- A segment lookup whose entry goes is no host lookup before and after (R50). -/
theorem hostLookup_drop (r : Rse) (pos tag : Nat) :
    Safety.hostLookup { r with inFlight := if r.inFlight = .segment pos tag then .gone pos tag else r.inFlight } = Safety.hostLookup r := by
  unfold Safety.hostLookup
  split_ifs with h
  · cases r.waiting <;> simp [h]
  · rfl

/-- The entry of a segment lookup goes (R50). -/
theorem segmentGone_moves (u : State) (pos tag : Nat) :
    Moves u { u with rse := { u.rse with inFlight := if u.rse.inFlight = .segment pos tag then .gone pos tag else u.rse.inFlight } } := by
  refine .single (.engine _ (fun h => ⟨?_, h.fresh, h.count, fun w => ?_, h.quiet, h.reads⟩) fun left idle => left ?_)
  · exact h.served.trans (by rw [hostLookup_drop])
  · refine (h.behind w).imp (fun idle => ?_) fun ⟨segment, count⟩ => ⟨?_, count⟩
    · simp only [show u.rse.inFlight = .idle from idle]; rfl
    · split_ifs
      · rfl
      · exact segment
  · by_contra busy
    simp only at idle
    split at idle
    · cases idle
    · exact busy idle

@[simp] theorem dropEntry_moves (e : Entry) (s : State) : Moves s (dropEntry e s) := by
  refine Moves.trans (Move.queue (s := s)
    { queue := s.sgq.queue.filter (·.pos ≠ e.pos), requester := if s.sgq.requester = some e.tag then none else s.sgq.requester }
    (List.Sublist.map _ (List.filter_sublist ..)) (fun inRange => ?_) ?_).moves (segmentGone_moves _ e.pos e.tag)
  · exact List.all_eq_true.2 fun e' he' => copyInRange_of_mem inRange (List.mem_of_mem_filter he')
  · by_cases h : s.sgq.requester = some e.tag <;> simp [h]

@[simp] theorem finishEntry_moves (o : DoneOutcome) (e : Entry) (s : State) : Moves s (finishEntry o e s) := by
  have sent : Moves s (send (doneMessage e.tag e.cls o e.warnings) (dropEntry e s)) :=
    (dropEntry_moves e s).trans (send_moves (doneMessage_fits ..) _)
  simp only [finishEntry]
  split
  · exact sent
  · exact sent.trans (countEvent_moves ..)

@[simp] theorem endEntry_moves (o : DoneOutcome) (e : Entry) (s : State) : Moves s (endEntry o e s) :=
  (release_moves e s).trans (finishEntry_moves o e _)

@[simp] theorem endActiveWrite_moves (o : DoneOutcome) (wc : WorkingCopy) (e : Entry) (s : State) : Moves s (endActiveWrite o wc e s) :=
  (partialWriteBack_moves wc s).trans (finishEntry_moves o e _)

@[simp] theorem flushEntry_moves (o : DoneOutcome) (s : State) (e : Entry) : Moves s (flushEntry o s e) := by
  obtain ⟨-, h⟩ | ⟨wc, -, -, h⟩ | ⟨-, -, h⟩ | ⟨-, -, h⟩ := flushEntry_cases o s e <;> rw [h]
  · exact endActiveWrite_moves o wc e s
  · exact finishEntry_moves _ e s
  · exact endEntry_moves _ e s

@[simp] theorem flush_moves (o : DoneOutcome) (s : State) : Moves s (flush o s) :=
  Moves.foldl (I := fun _ => True) (fun _ _ _ _ => flushEntry_moves _ _ _) (fun _ _ _ _ => trivial) trivial

/-! ### The write period -/

/-- A generator with its codes as they were. -/
theorem generator_moves {s : State} {g : Pgn} (hp : g.presented = s.pgn.presented) (hw : g.waiting = s.pgn.waiting) :
    Moves s { s with pgn := g } :=
  (Move.generator g fun h => by simpa only [Safety.CodesBounded, hp, hw] using h).moves

/-- A Power Loop with its limits as they were. -/
theorem power_moves {s : State} {p : Plp} (hl : p.limits = s.plp.limits)
    (h : Safety.PowerLoopInRange s → Safety.PowerLoopInRange { s with plp := p }) : Moves s { s with plp := p } :=
  (Move.power p h fun h => by simpa only [Safety.CodesBounded, hl] using h).moves

theorem emptied_inRange {s : State} (h : Safety.PowerLoopInRange s) :
    Safety.PowerLoopInRange { s with plp := { s.plp with returns := ReturnAcc.empty, track := TrackAcc.empty } } := by
  obtain ⟨hd, hl, hs, -⟩ := h
  exact ⟨hd, hl, hs, Nat.zero_lt_succ _, Nat.zero_le _, Nat.zero_lt_succ _, fun _ => rfl, fun _ => rfl⟩

@[simp] theorem closeWritePeriod_moves (s : State) : Moves s (closeWritePeriod s) :=
  (generator_moves (s := s) (g := { s.pgn.closed with presented := s.pgn.presented, waiting := s.pgn.waiting }) rfl rfl).trans
    (power_moves (p := { s.plp with returns := ReturnAcc.empty, track := TrackAcc.empty }) rfl emptied_inRange)

theorem laser_moves (s : State) (l : Lsc) (w : Wgd) : Moves s { s with lsc := l, wgd := w } := (Move.laser l w).moves

@[simp] theorem leaveWrite_moves (l : LaserState) (s : State) : Moves s (leaveWrite l s) :=
  (closeWritePeriod_moves s).trans (laser_moves _ _ _)

/-! ### Arming -/

@[simp] theorem requestJump_moves (e : Entry) (s : State) : Moves s (requestJump e s) := by
  refine (Move.pickup _ (some e.tag) fun h => ?_).moves
  obtain ⟨h1, h2, h3, h4, h5, -⟩ := h
  exact ⟨h1, h2, h3, h4, h5, by simp [Safety.jumping], by simp⟩

@[simp] theorem armHead_moves (e : Entry) (s : State) : Moves s (armHead e s) := by
  refine Moves.trans ?_ (send_moves (readyMessage_fits _) _)
  exact withHead_moves_of_copy (fun _ => rfl) fun _ => rfl

theorem judgeHead_moves {next : State → State} (hn : ∀ u, Moves u (next u)) (e : Entry) (s : State) : Moves s (judgeHead next e s) := by
  obtain h | h | h | ⟨o, h⟩ := judgeHead_cases next e s <;> rw [h]
  · exact requestJump_moves e s
  · exact armHead_moves e s
  · exact (endEntry_moves o e s).trans (hn _)

@[simp] theorem advance_moves (fuel : Nat) (s : State) : Moves s (advance fuel s) := by
  induction fuel generalizing s with
  | zero => exact .refl
  | succ n ih =>
    unfold advance
    split
    · split
      · refine Moves.trans ?_ (judgeHead_moves ih _ _)
        exact withHead_moves_of_copy (fun _ => rfl) fun _ => rfl
      · exact .refl
    · exact .refl

@[simp] theorem goOn_moves (s : State) : Moves s (goOn s) := advance_moves _ s

@[simp] theorem judgeAgain_moves (s : State) : Moves s (judgeAgain s) := by
  unfold judgeAgain
  split
  · split
    · exact judgeHead_moves goOn_moves _ _
    · exact .refl
  · exact .refl

/-! ### The wait list -/

/-- What the arbiter does, and when (R39). -/
theorem arbiter_outcome (s : State) :
    (s.rse.inFlight ≠ .idle ∧ arbiter s = s)
      ∨ (s.rse.inFlight = .idle ∧ s.rse.waiting = none ∧ s.sgq.oldestPending = none ∧ arbiter s = s)
      ∨ (∃ r, s.rse.inFlight = .idle ∧ s.rse.waiting = some r ∧ (s.rse.waitCount = 2 ∨ s.sgq.oldestPending = none)
        ∧ arbiter s = { s with rse := { inFlight := .host r, waiting := none, waitCount := 0 } })
      ∨ ∃ e, s.rse.inFlight = .idle ∧ s.sgq.oldestPending = some e ∧ (s.rse.waiting = none ∨ s.rse.waitCount ≠ 2)
        ∧ arbiter s = { s.withEntry e.pos ({ · with state := .resolving }) with rse := { s.rse with inFlight := .segment e.pos e.tag } } := by
  unfold arbiter
  split
  · next busy => exact .inl ⟨busy, rfl⟩
  · next idle =>
    have idle : s.rse.inFlight = .idle := by simpa using idle
    split
    · next r hw hp => exact .inr (.inr (.inl ⟨r, idle, hw, .inr hp, rfl⟩))
    · next r e hw hp =>
      split
      · next full => exact .inr (.inr (.inl ⟨r, idle, hw, .inl full, rfl⟩))
      · next room => exact .inr (.inr (.inr ⟨e, idle, hp, .inr room, rfl⟩))
    · next e hw hp => exact .inr (.inr (.inr ⟨e, idle, hp, .inl hw, rfl⟩))
    · next hw hp => exact .inr (.inl ⟨idle, hw, hp, rfl⟩)

/-- After the arbiter no host lookup waits for an idle engine. -/
theorem arbiter_noneLeft (s : State) : NoneLeft (arbiter s).rse := by
  obtain ⟨busy, h⟩ | ⟨-, none, -, h⟩ | ⟨r, -, -, -, h⟩ | ⟨e, -, -, -, h⟩ := arbiter_outcome s <;> rw [h]
  · exact fun idle => absurd idle busy
  · exact fun _ => none
  · exact nofun
  · exact nofun

theorem withEntry_resolving_moves (s : State) (pos : Nat) : Moves s (s.withEntry pos ({ · with state := .resolving })) :=
  withEntry_moves pos (fun _ => rfl) fun inRange e' he' _ => copyInRange_of_mem (e := e') inRange he'

/-- An idle engine takes the waiting host lookup (R39). -/
theorem takeHost_moves {u : State} {r : HostLookup} (waiting : u.rse.waiting = some r) :
    Moves u { u with rse := { inFlight := .host r, waiting := none, waitCount := 0 } } := by
  refine .single (.engine _ (fun p => ⟨?_, fun _ => rfl, Nat.zero_le _, nofun, p.quiet, p.reads⟩) fun _ => nofun)
  exact p.served.trans (by simp [Safety.hostLookup, waiting])

/-- An idle engine takes a segment lookup, before a host lookup that has waited through at most one (R39). -/
theorem takeSegment_moves {u : State} (pos tag : Nat) (idle : u.rse.inFlight = .idle) (room : u.rse.waiting = none ∨ u.rse.waitCount ≠ 2) :
    Moves u { u with rse := { u.rse with inFlight := .segment pos tag } } := by
  refine .single (.engine _ (fun p => ⟨?_, p.fresh, p.count, fun w => .inr ⟨rfl, ?_⟩, p.quiet, p.reads⟩) fun _ => nofun)
  · refine p.served.trans (congrArg _ ?_)
    cases hw : u.rse.waiting <;> simp [Safety.hostLookup, hw, idle]
  · have := p.count
    obtain none | room := room
    · simp [none] at w
    · simp only
      omega

@[simp] theorem arbiter_moves (s : State) : Moves s (arbiter s) := by
  obtain ⟨-, h⟩ | ⟨-, -, -, h⟩ | ⟨r, -, waiting, -, h⟩ | ⟨e, idle, -, room, h⟩ := arbiter_outcome s <;> rw [h]
  · exact takeHost_moves waiting
  · exact (withEntry_resolving_moves s e.pos).trans (takeSegment_moves e.pos e.tag idle room)

@[simp] theorem sendBack_moves (s : State) (e : Entry) : Moves s (sendBack s e) :=
  (release_moves e s).trans (withEntry_moves e.pos (fun _ => rfl) fun _ _ _ _ => rfl)

@[simp] theorem reResolve_moves (p : Entry → Bool) (s : State) : Moves s (reResolve p s) :=
  Moves.foldl (I := fun _ => True) (fun _ _ _ _ => sendBack_moves _ _) (fun _ _ _ _ => trivial) trivial

/-! ### The code set -/

/-- A level's code is at most Imax. -/
theorem levelCode_code_le (line : Line) (imax ceiling p : Nat) : (levelCode line imax ceiling p).code ≤ imax := by
  simp only [levelCode]
  split
  · exact Nat.zero_le _
  · split
    · assumption
    · by_cases h : line.ith ≤ imax <;> simp [h]

/-- The computed codes are at most Imax, and 0 while no limits are set (R145, R154). -/
theorem computeCodes_bounded (s : State) : Safety.codesWithin (Safety.codeBound s.plp.limits) s.computeCodes.codes = true := by
  cases hl : s.plp.limits with
  | none => simp [State.computeCodes, hl, Safety.codesWithin, Computed.codes, LevelCode.dark]
  | some lim =>
    simp only [Safety.codesWithin, decide_eq_true_eq, Safety.codeBound, Option.map_some, Option.getD_some, State.computeCodes, hl,
      Computed.codes]
    cases s.lsc.laser <;> cases s.sgq.activeWrite <;> cases s.lsc.holdLit <;> simp [LevelCode.dark, levelCode_code_le]

@[simp] theorem warnGoverning_moves (c : Computed) (s : State) : Moves s (warnGoverning c s) := by
  unfold warnGoverning
  split
  · exact withHead_moves_of_copy (fun _ => rfl) fun _ => rfl
  · exact .refl

@[simp] theorem reportLevel_moves (key : Option Key) (s : State) (l : LevelCode) : Moves s (reportLevel key s l) := by
  have clamped : Moves s (if l.clamped then countEvent .clampCeiling key 1 s else s) := by
    split
    · exact countEvent_moves ..
    · exact .refl
  simp only [reportLevel]
  split
  · exact (clamped.trans (countEvent_moves ..)).trans (withNotices_moves _ _)
  · exact clamped

theorem handOver_moves (b : Bool) (c : CodeSet) (s : State) (h : Safety.codesWithin (Safety.codeBound s.plp.limits) c = true) :
    Moves s (handOver b c s) := by
  obtain e | ⟨-, -, e⟩ := handOver_cases b c s <;> rw [e]
  · exact (Move.generator { s.pgn with presented := c, waiting := none } fun _ => ⟨h, rfl⟩).moves
  · exact (Move.generator { s.pgn with waiting := some c } fun hs => ⟨hs.1, h⟩).moves

@[simp] theorem recompute_moves (b : Bool) (s : State) : Moves s (recompute b s) := by
  have noted : Moves s (if (diodeLine s.plp.diode s.plp.temp).held then s.withNotices ({ · with diodeTrackLimit := true }) else s) := by
    split
    · exact withNotices_moves _ _
    · exact .refl
  simp only [recompute]
  refine ((noted.trans (warnGoverning_moves _ _)).trans
    (Moves.foldl (I := fun _ => True) (fun _ _ _ _ => reportLevel_moves _ _ _) (fun _ _ _ _ => trivial) trivial)).trans
    (handOver_moves _ _ _ ?_)
  rw [show ∀ u key ls, (List.foldl (reportLevel key) u ls).plp = u.plp from
    fun u key ls => foldl_keeps State.plp (reportLevel key) (fun u l => by simp) ls u, warnGoverning_plp]
  have frame : (if (diodeLine s.plp.diode s.plp.temp).held = true then
      s.withNotices ({ · with diodeTrackLimit := true }) else s).plp = s.plp := by split <;> rfl
  rw [frame]
  exact computeCodes_bounded s

theorem settleCodes_moves (before : State) {s t : State} (h : Moves s t) : Moves s (settleCodes before t) := by
  obtain e | e := settleCodes_cases before t <;> rw [e]
  · exact h
  · exact h.trans (recompute_moves _ _)

/-! ### Holds -/

@[simp] theorem enterHold_moves (c : HoldCause) (s : State) : Moves s (enterHold c s) := by
  have left : Moves s (if s.lsc.laser = .write then leaveWrite .hold s else s) := by
    split
    · exact leaveWrite_moves _ _
    · exact .refl
  simp only [enterHold]
  exact ((left.trans (laser_moves _ _ _)).trans (flush_moves _ _)).trans (withNotices_moves _ _)

@[simp] theorem raiseCause_moves (c : HoldCause) (s : State) : Moves s (raiseCause c s) := by
  unfold raiseCause
  split
  · split
    · exact .refl
    · exact (laser_moves s _ s.wgd).trans (withNotices_moves _ _)
  · exact enterHold_moves c s

/-! ### Requests served -/

/-- How a request ends that the idle port has served: an answer that changes nothing else, an OK after a row of moves, or a lookup that joins
the wait list.  Of the answers other than OK only DUPLICATE carries a payload (R57, R189, R191). -/
inductive Served (code : Byte) (s : State) : State → Prop
  | reply (st : Status) (p : List Byte) (h : st ≠ .ok → st ≠ .duplicate → p = []) : Served code s (answer code st p s)
  | done (u : State) (p : List Byte) (m : Moves s u) : Served code s (answer code .ok p u)
  | joined (r : HostLookup) (h : Safety.lookupCode r = code) : Served code s (joinWaitList code r s)

theorem answer_served (code : Byte) (p : List Byte) {s t : State} (h : Moves s t) : Served code s (answer code .ok p t) := .done t p h

theorem answerStatus_served (code : Byte) {s t : State} (h : Moves s t) : Served code s (answerStatus code .ok t) := .done t [] h

@[simp] theorem answerStatus_served_self (code : Byte) (st : Status) (s : State) : Served code s (answerStatus code st s) :=
  .reply st [] fun _ _ => rfl

@[simp] theorem answer_served_ok (code : Byte) (p : List Byte) (s : State) : Served code s (answer code .ok p s) :=
  .reply .ok p fun h => absurd rfl h

@[simp] theorem answer_served_duplicate (code : Byte) (p : List Byte) (s : State) : Served code s (answer code .duplicate p s) :=
  .reply .duplicate p fun _ h => absurd rfl h

end Sys2Proof.Machine
end

section
/-! SUPPORT. The media requests and the tables after a soft reset as moves: what each change of the Media Slot Table keeps. -/

namespace Sys2Proof.Machine

open Sys2Proof.Stated

/-! ### Lists changed in one place -/

/-- A list cut at the place that a change concerns. -/
theorem modify_cut {α : Type} {l : List α} {i : Nat} {a : α} (h : l[i]? = some a) :
    ∃ front back, l = front ++ a :: back ∧ front.length = i ∧ ∀ f : α → α, l.modify i f = front ++ f a :: back := by
  obtain ⟨hi, rfl⟩ := List.getElem?_eq_some_iff.1 h
  refine ⟨l.take i, l.drop (i + 1), by simp, by simp [hi.le], fun f => ?_⟩
  rw [List.modify_eq_take_cons_drop hi]

/-! ### What the slots promise -/

section
variable {s : State} {ms : List Slot}

/-- Slots that keep their record counts, in which no slot comes to be FREE and a FREE slot is empty. -/
theorem countsAgree_of_slots (hn : ms.length = s.mst.length) (h : Safety.CountsAgree s)
    (hr : ∀ (i : Nat) (m : Slot), s.mst[i]? = some m →
      ∃ n : Slot, ms[i]? = some n ∧ n.records = m.records ∧ (m.state ≠ .free → n.state ≠ .free))
    (he : ∀ m ∈ ms, m.state = .free → m = Slot.empty) : Safety.CountsAgree { s with stb := s.stb, mst := ms } := by
  obtain ⟨counts, named, -⟩ := h
  refine ⟨fun i hi => ?_, ?_, ?_⟩
  · have hi' : i < s.mst.length := hn ▸ hi
    obtain ⟨n, hn', records, -⟩ := hr i s.mst[i] (List.getElem?_eq_getElem hi')
    have := counts i hi'
    rw [List.getElem?_eq_getElem hi'] at this
    simp only [hn', Option.map_some, records]
    exact this
  · refine List.all_eq_true.2 fun r hrec => ?_
    have := List.all_eq_true.1 named r hrec
    cases hm : s.mst[r.key.media]? with
    | none => simp [hm] at this
    | some m =>
      obtain ⟨n, hn', -, kept⟩ := hr _ m hm
      simp only [hm, Option.any_some, decide_eq_true_eq] at this
      simp [hn', kept this]
  · exact List.all_eq_true.2 fun m hm => decide_eq_true (he m hm)

theorem free_empty {s : State} (h : Safety.CountsAgree s) {m : Slot} (hm : m ∈ s.mst) (hf : m.state = .free) : m = Slot.empty := by
  obtain ⟨-, -, empty⟩ := h
  exact of_decide_eq_true (List.all_eq_true.1 empty m hm) hf

/-- Slots changed with the places as they are. -/
theorem slots_moves (hm : Safety.MediaTableHolds s → Safety.MediaTableHolds { s with stb := s.stb, mst := ms })
    (hr : s.mst.all Safety.slotInRange = true → ms.all Safety.slotInRange = true)
    (hc : Safety.CountsAgree s → Safety.CountsAgree { s with stb := s.stb, mst := ms }) :
    Moves s { s with mst := ms } :=
  (Move.tables (s := s) s.stb ms hm (fun ⟨h1, h2, h3, h4, h5⟩ => ⟨h1, h2, h3, h4, hr h5⟩) hc id).moves

end

theorem slotInRange_iff (m : Slot) : Safety.slotInRange m = true ↔
    (m.state = .free → m = Slot.empty)
      ∧ (m.state ≠ .free → (1 ≤ m.layers.length ∧ m.layers.length ≤ 4) ∧ m.layers.all LayerSettings.inRange = true) := by
  by_cases h : m.state = .free <;> simp [Safety.slotInRange, h]

theorem findIdx?_spec {α : Type} {p : α → Bool} {l : List α} {i : Nat} (h : l.findIdx? p = some i) : ∃ a, l[i]? = some a ∧ p a = true := by
  obtain ⟨hi, hp, -⟩ := List.findIdx?_eq_some_iff_getElem.1 h
  exact ⟨l[i], List.getElem?_eq_getElem hi, hp⟩

/-! ### MEDIA_INSTALL -/

/-- A FREE slot becomes a KNOWN one with settings in range and an identity that no slot holds (R24, R25). -/
theorem installSlot_moves {s : State} {i : Nat} {new m : Slot} (hi : s.mst[i]? = some m) (hm : m.state = .free)
    (hk : new.state = .known) (hnew : Safety.slotInRange new = true) (hr : new.records = 0)
    (hid : ∀ n ∈ s.mst, n.state ≠ .free → n.identity ≠ new.identity) : Moves s (s.withSlot i fun _ => new) := by
  obtain ⟨front, back, hcut, hlen, hmod⟩ := modify_cut hi
  have hms : s.mst.modify i (fun _ => new) = front ++ new :: back := hmod _
  have slots : s.mst.all Safety.slotInRange = true → (s.mst.modify i fun _ => new).all Safety.slotInRange = true := by
    rw [hms, hcut]; simp +contextual [hnew]
  refine slots_moves (fun h => ?_) slots fun h => countsAgree_of_slots (by simp) h (fun j n hj => ?_) fun n hn hfree => ?_
  · obtain ⟨h8, hall, hone, hids⟩ := h
    refine ⟨by simpa using h8, slots hall, ?_, ?_⟩
    · show (s.mst.modify i fun _ => new).countP _ ≤ 1
      rw [hms]
      rw [hcut] at hone
      simpa [hm, hk] using hone
    · show (((s.mst.modify i fun _ => new).filter _).map _).Nodup
      rw [hms]
      rw [hcut] at hids hid
      simp [hm, hk, List.nodup_append, List.nodup_cons] at hids hid ⊢
      grind
  · by_cases hij : i = j
    · subst hij
      obtain rfl : m = n := Option.some.inj (hi.symm.trans hj)
      have none_held : m.records = 0 := by rw [free_empty h (List.mem_of_getElem? hi) hm]; rfl
      exact ⟨new, by simp [hi], by rw [hr, none_held], fun h => absurd hm h⟩
    · exact ⟨n, by simp [hij, hj], rfl, id⟩
  · rw [hms] at hn
    obtain hn | rfl | hn := by simpa using hn
    · exact free_empty h (by simp [hcut, hn]) hfree
    · simp [hk] at hfree
    · exact free_empty h (by simp [hcut, hn]) hfree

theorem serveMediaInstall_served (p : List Byte) (s : State) : Served 16 s (serveMediaInstall p s) := by
  simp only [serveMediaInstall]
  split
  · simp
  next counted =>
  split
  · simp
  next inRange =>
  split
  · simp
  next unheld =>
  split
  · simp
  next i hfree =>
  obtain ⟨m, hi, hm⟩ := findIdx?_spec hfree
  refine answer_served _ _ (installSlot_moves hi (by simpa using hm) rfl ?_ rfl fun n hn hk hid => ?_)
  · rw [slotInRange_iff]
    push Not at counted
    have layers : min (u8 p 6) 4 = u8 p 6 := by omega
    exact ⟨nofun, fun _ => ⟨by simp only [List.length_map, List.length_range, layers]; omega, by simpa using inRange⟩⟩
  · have := List.findIdx?_eq_none_iff.1 unheld n hn
    simp [hk, hid] at this

/-! ### Slots that keep identity and counts -/

/-- Whether a slot is taken, and its identity. -/
def Slot.name (m : Slot) : Bool × BitVec 48 := (decide (m.state ≠ .free), m.identity)

theorem identities_eq (ms : List Slot) :
    (ms.filter (·.state ≠ .free)).map (·.identity) = ((ms.map Slot.name).filter (·.1)).map (·.2) := by
  simp [List.filter_map, Function.comp_def, Slot.name]

/-- Slots change in place: those that are taken stay taken under their identities with their record counts, FREE ones stay as they are. -/
theorem changeSlots_moves {s : State} {ms : List Slot} (hn : ms.length = s.mst.length)
    (hc : ∀ (i : Nat) (m : Slot), s.mst[i]? = some m → ∃ n : Slot, ms[i]? = some n ∧ n.name = m.name ∧ n.records = m.records
      ∧ (m.state = .free → n = m) ∧ (Safety.slotInRange m = true → Safety.slotInRange n = true))
    (hone : s.mst.countP (·.state = .mounted) ≤ 1 → ms.countP (·.state = .mounted) ≤ 1) : Moves s { s with mst := ms } := by
  have source : ∀ n ∈ ms, ∃ m ∈ s.mst, n.name = m.name ∧ (m.state = .free → n = m)
      ∧ (Safety.slotInRange m = true → Safety.slotInRange n = true) := by
    intro n hmem
    obtain ⟨i, hi⟩ := List.getElem?_of_mem hmem
    obtain ⟨hlt, -⟩ := List.getElem?_eq_some_iff.1 hi
    obtain ⟨n', hn', name, -, free, range⟩ := hc i s.mst[i] (List.getElem?_eq_getElem (hn ▸ hlt))
    obtain rfl : n = n' := Option.some.inj (hi.symm.trans hn')
    exact ⟨_, List.getElem_mem _, name, free, range⟩
  have slots : s.mst.all Safety.slotInRange = true → ms.all Safety.slotInRange = true := fun h => List.all_eq_true.2 fun n hmem => by
    obtain ⟨m, hm, -, -, range⟩ := source n hmem
    exact range (List.all_eq_true.1 h m hm)
  have names : ms.map Slot.name = s.mst.map Slot.name := by
    refine List.ext_getElem? fun i => ?_
    simp only [List.getElem?_map]
    cases hi : s.mst[i]? with
    | none => rw [List.getElem?_eq_none (by rw [hn]; exact List.getElem?_eq_none_iff.1 hi)]
    | some m =>
      obtain ⟨n, hn', name, -⟩ := hc i m hi
      simp [hn', name]
  refine slots_moves (fun ⟨h8, hall, h1, hids⟩ => ⟨hn.trans h8, slots hall, hone h1, ?_⟩) slots fun h =>
    countsAgree_of_slots hn h (fun i m hi => ?_) fun n hmem hfree => ?_
  · rw [identities_eq] at hids ⊢
    show (((ms.map Slot.name).filter _).map _).Nodup
    rw [names]
    exact hids
  · obtain ⟨n, hn', name, records, -⟩ := hc i m hi
    refine ⟨n, hn', records, fun hm => ?_⟩
    have := congrArg Prod.fst name
    simpa [Slot.name, hm] using this
  · obtain ⟨m, hm, name, free, -⟩ := source n hmem
    have mfree : m.state = .free := by
      have := congrArg Prod.fst name.symm
      simpa [Slot.name, hfree] using this
    rw [free mfree]
    exact free_empty h hm mfree

theorem slotInRange_of_layers {m n : Slot} (h : Safety.slotInRange m = true) (hm : m.state ≠ .free) (hn : n.state ≠ .free)
    (hlen : n.layers.length = m.layers.length)
    (hl : m.layers.all LayerSettings.inRange = true → n.layers.all LayerSettings.inRange = true) : Safety.slotInRange n = true := by
  rw [slotInRange_iff] at h ⊢
  obtain ⟨count, layers⟩ := h.2 hm
  exact ⟨fun f => absurd f hn, fun _ => ⟨hlen ▸ count, hl layers⟩⟩

theorem serveMediaAmend_served (p : List Byte) (s : State) : Served 17 s (serveMediaAmend p s) := by
  simp only [serveMediaAmend]
  split
  · simp
  next m hm =>
  split
  · simp
  next taken =>
  split
  · simp
  split
  · simp
  next inRange =>
  split
  · simp
  refine answerStatus_served _ (changeSlots_moves (by simp) (fun j n hj => ?_) fun h => ?_)
  · by_cases hij : u8 p 0 = j
    · subst hij
      obtain rfl : m = n := Option.some.inj (hm.symm.trans hj)
      refine ⟨{ m with layers := m.layers.mapIdx fun k l => if (selectedLayers (u8 p 1)).contains k then readLayer p 2 k else l },
        by simp [hj], rfl, rfl, fun h => absurd h taken, fun h => slotInRange_of_layers h taken taken (by simp) fun hl => ?_⟩
      refine List.all_eq_true.2 fun l hl' => ?_
      obtain ⟨k, hk, rfl⟩ := List.mem_mapIdx.1 hl'
      split
      · next chosen =>
        have := List.all_eq_true.1 (by simpa using inRange : (selectedLayers (u8 p 1)).all _ = true) k (by simpa using chosen)
        exact this
      · exact List.all_eq_true.1 hl _ (List.getElem_mem _)
    · exact ⟨n, by simp [hij, hj], rfl, rfl, fun _ => rfl, id⟩
  · obtain ⟨front, back, hcut, -, hmod⟩ := modify_cut hm
    rw [hmod]
    rw [hcut] at h
    simpa [List.countP_cons] using h

theorem unmount_name (m : Slot) : m.unmount.name = m.name := by
  unfold Slot.unmount Slot.name
  split <;> simp [*]

theorem unmount_records (m : Slot) : m.unmount.records = m.records := by
  unfold Slot.unmount
  split <;> rfl

theorem unmount_free {m : Slot} (h : m.state = .free) : m.unmount = m := by simp [Slot.unmount, h]

theorem unmount_ne_mounted (m : Slot) : m.unmount.state ≠ .mounted := by
  unfold Slot.unmount
  split <;> simp [*]

theorem unmount_inRange {m : Slot} (h : Safety.slotInRange m = true) : Safety.slotInRange m.unmount = true := by
  unfold Slot.unmount
  split
  · next hm => exact slotInRange_of_layers h (by simp [hm]) (by simp) rfl id
  · exact h

theorem countP_unmount (ms : List Slot) : (ms.map Slot.unmount).countP (·.state = .mounted) = 0 := by
  rw [List.countP_map, List.countP_eq_zero]
  exact fun m _ => by simpa using unmount_ne_mounted m

theorem serveMediaMount_served (p : List Byte) (s : State) : Served 18 s (serveMediaMount p s) := by
  simp only [serveMediaMount]
  split
  · simp
  next m hm =>
  split
  · simp
  next taken =>
  split
  · simp
  split
  · simp
  refine answerStatus_served _ (changeSlots_moves (by simp) (fun j n hj => ?_) fun _ => ?_)
  · by_cases hij : u8 p 0 = j
    · subst hij
      obtain rfl : m = n := Option.some.inj (hm.symm.trans hj)
      refine ⟨{ m.unmount with state := .mounted }, by simp [hj], ?_, unmount_records m, fun h => absurd h taken, fun h => ?_⟩
      · rw [← unmount_name m]
        have := congrArg Prod.fst (unmount_name m)
        simp only [Slot.name] at this ⊢
        simp [this, taken]
      · exact slotInRange_of_layers h taken (by simp) (by unfold Slot.unmount; split <;> rfl)
          (by unfold Slot.unmount; split <;> exact id)
    · exact ⟨n.unmount, by simp [hij, hj], unmount_name n, unmount_records n, unmount_free, unmount_inRange⟩
  · have hm' : (s.mst.map Slot.unmount)[u8 p 0]? = some m.unmount := by simp [hm]
    obtain ⟨front, back, hcut, -, hmod⟩ := modify_cut hm'
    have none_left := countP_unmount s.mst
    rw [hcut, List.countP_append, List.countP_cons] at none_left
    rw [hmod, List.countP_append, List.countP_cons]
    simp
    omega

theorem serveMediaUnmount_served (p : List Byte) (s : State) : Served 19 s (serveMediaUnmount p s) := by
  simp only [serveMediaUnmount]
  split
  · simp
  split
  · simp
  refine answerStatus_served _ (changeSlots_moves (by simp) (fun j n hj => ?_) fun _ => ?_)
  · exact ⟨n.unmount, by simp [hj], unmount_name n, unmount_records n, unmount_free, unmount_inRange⟩
  · rw [countP_unmount]
    exact Nat.zero_le _

/-! ### MEDIA_RETIRE and SOFT_RESET: records that go -/

/-- The records that the places hold after their contents have been mapped to what is left of them. -/
theorem held_map (f : Record → Option Record) (g : Place → Place) (hg : ∀ p, (g p).held = p.held.bind f) (places : List Place) :
    Safety.held (places.map g) = (Safety.held places).filterMap f := by
  induction places with
  | nil => rfl
  | cons p ps ih =>
    have : Safety.held (p :: ps) = p.held.toList ++ Safety.held ps := by
      unfold Safety.held
      cases hp : p.held <;> simp [hp]
    have this' : Safety.held ((p :: ps).map g) = (p.held.bind f).toList ++ Safety.held (ps.map g) := by
      unfold Safety.held
      cases hp : p.held.bind f <;> simp [hg, hp]
    rw [this, this', ih, List.filterMap_append]
    cases hp : p.held with
    | none => rfl
    | some r => cases hr : f r <;> simp [hr]

/-- Records that keep their keys and states or go keep the limits of R13. -/
theorem keysLimited_filterMap {s t : State} {f : Record → Option Record} (ht : Safety.held t.stb = (Safety.held s.stb).filterMap f)
    (hf : ∀ r, ∀ q ∈ f r, q.key = r.key ∧ q.state = r.state) (h : Safety.KeysLimited s) : Safety.KeysLimited t := by
  have limit : ∀ ok : RecState → Bool, (((Safety.held s.stb).filter fun r => ok r.state).map (·.key)).Nodup →
      (((Safety.held t.stb).filter fun r => ok r.state).map (·.key)).Nodup := by
    intro ok hs
    refine hs.sublist ?_
    rw [ht]
    induction Safety.held s.stb with
    | nil => exact .refl _
    | cons r rs ih =>
      cases hq : f r with
      | none =>
        rw [List.filterMap_cons_none hq]
        refine ih.trans (List.Sublist.map _ ?_)
        exact List.Sublist.filter _ (List.sublist_cons_self r rs)
      | some q =>
        obtain ⟨hk, hst⟩ := hf r q hq
        rw [List.filterMap_cons_some hq]
        cases hok : ok r.state
        · simpa [List.filter_cons, hst, hok] using ih
        · simpa [List.filter_cons, hst, hok, hk] using ih
  exact ⟨limit (fun st => decide (st = .active ∨ st = .suspect)) h.1, limit (fun st => decide (st = .provisional)) h.2⟩

/-- Places whose records stay in range or go, with slots in range. -/
theorem recordsInRange_map {s : State} {f : Record → Option Record} {g : Place → Place} {ms : List Slot}
    (hg : ∀ p, (g p).held = p.held.bind f) (hgen : ∀ p, (g p).gen = p.gen)
    (hf : ∀ r, Safety.recordInRange r = true → ∀ q ∈ f r, Safety.recordInRange q = true)
    (hms : s.mst.all Safety.slotInRange = true → ms.all Safety.slotInRange = true) (h : Safety.RecordsInRange s) :
    Safety.RecordsInRange { s with stb := s.stb.map g, mst := ms } := by
  obtain ⟨h96, gens, records, copies, slots⟩ := h
  refine ⟨by simpa using h96, ?_, ?_, copies, hms slots⟩
  · show (s.stb.map g).all _ = true
    simpa [List.all_map, Function.comp_def, hgen] using gens
  · show (Safety.held (s.stb.map g)).all _ = true
    rw [held_map f g hg]
    refine List.all_eq_true.2 fun q hq => ?_
    obtain ⟨r, hr, hq⟩ := List.mem_filterMap.1 hq
    exact hf r (List.all_eq_true.1 records r hr) q hq

/-- What becomes of a record when slot `i` is retired with its records (R29). -/
def Record.outsideSlot (i : Nat) (r : Record) : Option Record := if r.key.media = i then none else some r

theorem freeOf_held (i : Nat) (p : Place) : (Place.freeOf i p).held = p.held.bind (Record.outsideSlot i) := by
  unfold Place.freeOf Record.outsideSlot
  cases hp : p.held with
  | none => simp [hp]
  | some r => by_cases h : r.key.media = i <;> simp [h, hp]

theorem freeOf_gen (i : Nat) (p : Place) : (Place.freeOf i p).gen = p.gen := by
  unfold Place.freeOf
  split
  · split <;> rfl
  · rfl

theorem outsideSlot_eq_some {i : Nat} {r q : Record} : Record.outsideSlot i r = some q ↔ r.key.media ≠ i ∧ r = q := by
  by_cases h : r.key.media = i <;> simp [Record.outsideSlot, h]

theorem filterMap_outsideSlot (i : Nat) (l : List Record) : l.filterMap (Record.outsideSlot i) = l.filter (·.key.media ≠ i) := by
  induction l with
  | nil => rfl
  | cons r rs ih => by_cases h : r.key.media = i <;> simpa [Record.outsideSlot, h] using ih

theorem retireSlot_moves {s : State} {i : Nat} {m : Slot} (hi : s.mst[i]? = some m) :
    Moves s { s with stb := s.stb.map (Place.freeOf i), mst := s.mst.set i Slot.empty } := by
  have hset : ∀ j, (s.mst.set i Slot.empty)[j]? = if i = j then some Slot.empty else s.mst[j]? := by
    intro j
    obtain ⟨hlt, -⟩ := List.getElem?_eq_some_iff.1 hi
    by_cases hij : i = j
    · subst hij; simp [hlt]
    · simp [hij]
  have slots : s.mst.all Safety.slotInRange = true → (s.mst.set i Slot.empty).all Safety.slotInRange = true := fun h =>
    List.all_eq_true.2 fun n hn => by
      obtain hn | rfl := List.mem_or_eq_of_mem_set hn
      · exact List.all_eq_true.1 h n hn
      · decide
  have heldAfter := held_map _ _ (freeOf_held i) s.stb
  refine (Move.tables _ _ (fun h => ?_) (recordsInRange_map (freeOf_held i) (freeOf_gen i) (fun r hr q hq => ?_) slots) (fun h => ?_)
    (keysLimited_filterMap heldAfter fun r q hq => ?_)).moves
  · obtain ⟨h8, hall, hone, hids⟩ := h
    obtain ⟨front, back, hcut, hlen, hmod⟩ := modify_cut hi
    have hms : s.mst.set i Slot.empty = front ++ Slot.empty :: back := by
      rw [hcut, ← hlen]; simp
    refine ⟨by simpa using h8, slots hall, ?_, ?_⟩
    · show (s.mst.set i Slot.empty).countP _ ≤ 1
      rw [hms]
      rw [hcut, List.countP_append, List.countP_cons] at hone
      rw [List.countP_append, List.countP_cons]
      simp [Slot.empty]
      omega
    · show (((s.mst.set i Slot.empty).filter _).map _).Nodup
      rw [hms]
      refine hids.sublist (List.Sublist.map _ ?_)
      rw [hcut, List.filter_append, List.filter_append]
      refine (List.Sublist.refl _).append ?_
      have : (Slot.empty :: back).filter (·.state ≠ .free) = back.filter (·.state ≠ .free) := by simp [Slot.empty]
      rw [this]
      exact List.Sublist.filter _ (List.sublist_cons_self m back)
  · obtain ⟨-, rfl⟩ := outsideSlot_eq_some.1 hq
    exact hr
  · obtain ⟨counts, named, empty⟩ := h
    refine ⟨fun j hj => ?_, ?_, ?_⟩
    · have hj' : j < s.mst.length := by simpa using hj
      show (Option.map _ _) = some ((Safety.held (s.stb.map _)).countP _)
      rw [heldAfter, filterMap_outsideSlot, List.countP_filter]
      simp only [hset]
      by_cases hij : i = j
      · subst hij
        rw [if_pos rfl, List.countP_eq_zero.2 fun r _ => by simp]
        rfl
      · rw [if_neg hij, counts j hj']
        congr 1
        exact List.countP_congr fun r _ => by simp; rintro rfl; exact Ne.symm hij
    · show (Safety.held (s.stb.map _)).all _ = true
      rw [heldAfter, filterMap_outsideSlot]
      refine List.all_eq_true.2 fun r hr => ?_
      obtain ⟨hr, outside⟩ := List.mem_filter.1 hr
      have elsewhere : i ≠ r.key.media := fun e => by simp [e] at outside
      simpa only [hset, if_neg elsewhere] using List.all_eq_true.1 named r hr
    · refine List.all_eq_true.2 fun n hn => decide_eq_true fun hfree => ?_
      obtain hn | rfl := List.mem_or_eq_of_mem_set hn
      · exact of_decide_eq_true (List.all_eq_true.1 empty n hn) hfree
      · rfl
  · obtain ⟨-, rfl⟩ := outsideSlot_eq_some.1 hq
    exact ⟨rfl, rfl⟩

theorem serveMediaRetire_served (p : List Byte) (s : State) : Served 20 s (serveMediaRetire p s) := by
  simp only [serveMediaRetire]
  split
  · simp
  next m hm =>
  split
  · simp
  split
  · simp
  exact answer_served _ _ (retireSlot_moves hm)

/-- What a soft reset leaves of a record (R20). -/
def Record.softReset (r : Record) : Option Record := if r.state = .retiring then none else some { r with pins := 0 }

theorem place_softReset_held (p : Place) : p.softReset.held = p.held.bind Record.softReset := rfl

theorem record_softReset_eq_some {r q : Record} : r.softReset = some q ↔ r.state ≠ .retiring ∧ q = { r with pins := 0 } := by
  by_cases h : r.state = .retiring <;> simp [Record.softReset, h, eq_comm]

/-- The RETIRING records of a slot, counted among the records held. -/
theorem retiringOf_eq (places : List Place) (i : Nat) :
    retiringOf places i = (Safety.held places).countP fun r => decide (r.state = .retiring ∧ r.key.media = i) := by
  induction places with
  | nil => rfl
  | cons p ps ih =>
    unfold retiringOf Safety.held at ih ⊢
    cases hp : p.held with
    | none => rw [List.countP_cons, List.filterMap_cons_none hp, ih, hp]; rfl
    | some r => rw [List.countP_cons, List.filterMap_cons_some hp, List.countP_cons, ih, hp]; rfl

/-- The records of a slot that a soft reset leaves. -/
theorem countP_softReset (i : Nat) (l : List Record) :
    (l.filterMap Record.softReset).countP (·.key.media = i)
      = l.countP (·.key.media = i) - l.countP fun r => decide (r.state = .retiring ∧ r.key.media = i) := by
  have split : l.countP (·.key.media = i)
      = (l.filterMap Record.softReset).countP (·.key.media = i) + l.countP fun r => decide (r.state = .retiring ∧ r.key.media = i) := by
    induction l with
    | nil => rfl
    | cons r rs ih =>
      by_cases h : r.state = .retiring <;> by_cases hi : r.key.media = i <;> simp [Record.softReset, h, hi, ih] <;> omega
  omega

theorem softReset_name (places : List Place) (i : Nat) (m : Slot) : (m.softReset places i).name = m.name := by
  unfold Slot.softReset Slot.name
  by_cases h : m.state = .mounted <;> simp [h]

theorem softReset_free {places : List Place} {i : Nat} {m : Slot} (h : (m.softReset places i).state = .free) : m.state = .free := by
  unfold Slot.softReset at h
  by_contra hm
  by_cases hmount : m.state = .mounted <;> simp_all

theorem softReset_empty (places : List Place) (i : Nat) : Slot.softReset places i Slot.empty = Slot.empty := by
  simp [Slot.softReset, Slot.empty]

theorem softReset_slotInRange (places : List Place) (i : Nat) {m : Slot} (h : Safety.slotInRange m = true) :
    Safety.slotInRange (m.softReset places i) = true := by
  by_cases hm : m.state = .free
  · rw [((slotInRange_iff m).1 h).1 hm, softReset_empty]
    decide
  · exact slotInRange_of_layers h hm (fun hf => hm (softReset_free hf)) rfl id

theorem softReset_tables_moves (s : State) :
    Moves s { s with stb := s.stb.map Place.softReset, mst := s.mst.mapIdx (Slot.softReset s.stb) } := by
  have slots : s.mst.all Safety.slotInRange = true → (s.mst.mapIdx (Slot.softReset s.stb)).all Safety.slotInRange = true := fun h =>
    List.all_eq_true.2 fun n hn => by
      obtain ⟨i, hi, rfl⟩ := List.mem_mapIdx.1 hn
      exact softReset_slotInRange _ _ (List.all_eq_true.1 h _ (List.getElem_mem _))
  have heldAfter := held_map Record.softReset Place.softReset place_softReset_held s.stb
  refine (Move.tables _ _ (fun ⟨h8, hall, hone, hids⟩ => ⟨List.length_mapIdx.trans h8, slots hall, ?_, ?_⟩)
    (recordsInRange_map place_softReset_held (fun _ => rfl) (fun r hr q hq => ?_) slots) (fun h => ?_)
    (keysLimited_filterMap heldAfter fun r q hq => ?_)).moves
  · refine le_trans (le_of_eq (List.countP_eq_zero.2 fun n hn => ?_)) (Nat.zero_le 1)
    obtain ⟨i, hi, rfl⟩ := List.mem_mapIdx.1 hn
    unfold Slot.softReset
    by_cases hm : s.mst[i].state = .mounted <;> simp [hm]
  · rw [identities_eq] at hids ⊢
    have names : (s.mst.mapIdx (Slot.softReset s.stb)).map Slot.name = s.mst.map Slot.name := by
      refine List.ext_getElem? fun i => ?_
      simp only [List.getElem?_map, List.getElem?_mapIdx, Option.map_map, Function.comp_def, softReset_name]
    show (((s.mst.mapIdx _).map Slot.name |>.filter _).map _).Nodup
    rw [names]
    exact hids
  · obtain ⟨-, rfl⟩ := record_softReset_eq_some.1 hq
    exact hr
  · have emptyAll := fun m hm hf => free_empty h (m := m) hm hf
    obtain ⟨counts, named, -⟩ := h
    refine ⟨fun i hi => ?_, ?_, List.all_eq_true.2 fun n hn => decide_eq_true fun hfree => ?_⟩
    · have hi' : i < s.mst.length := List.length_mapIdx (f := Slot.softReset s.stb) (l := s.mst) ▸ hi
      have count := counts i hi'
      rw [List.getElem?_eq_getElem hi'] at count
      show Option.map _ (s.mst.mapIdx _)[i]? = some ((Safety.held (s.stb.map _)).countP _)
      rw [heldAfter, countP_softReset, ← retiringOf_eq, ← Option.some.inj count]
      simp [hi', Slot.softReset]
    · show (Safety.held (s.stb.map _)).all _ = true
      rw [heldAfter]
      refine List.all_eq_true.2 fun q hq => ?_
      obtain ⟨r, hr, hq⟩ := List.mem_filterMap.1 hq
      obtain ⟨-, rfl⟩ := record_softReset_eq_some.1 hq
      have := List.all_eq_true.1 named r hr
      cases hm : s.mst[r.key.media]? with
      | none => simp [hm] at this
      | some m =>
        simp only [hm, Option.any_some, decide_eq_true_eq] at this
        show ((s.mst.mapIdx _)[r.key.media]?).any _ = true
        simp only [List.getElem?_mapIdx, hm, Option.map_some, Option.any_some, decide_eq_true_eq]
        exact fun hf => this (softReset_free hf)
    · obtain ⟨i, hi, rfl⟩ := List.mem_mapIdx.1 hn
      rw [emptyAll _ (List.getElem_mem _) (softReset_free hfree), softReset_empty]
  · obtain ⟨-, rfl⟩ := record_softReset_eq_some.1 hq
    exact ⟨rfl, rfl⟩

end Sys2Proof.Machine
end

section
/-! SUPPORT. The record requests and the lookups as moves: re-resolution takes pins alone, so it leaves every search of the table as it was; a
resolution gives values within the ranges of its sources (R45). -/

namespace Sys2Proof.Machine

open Sys2Proof.Stated

/-! ### Records that lose pins (R11, R51) -/

/-- No record changes from `s` to `t` but for pins that go, and one that is RETIRING may go. -/
def Loosened (s t : State) : Prop :=
  t.gens = s.gens ∧ ∀ i, (s.record i = none → t.record i = none)
    ∧ ∀ r, s.record i = some r → (t.record i = none ∧ r.state = .retiring) ∨ ∃ n ≤ r.pins, t.record i = some { r with pins := n }

theorem Loosened.refl (s : State) : Loosened s s := ⟨rfl, fun _ => ⟨id, fun r hr => .inr ⟨r.pins, le_rfl, hr⟩⟩⟩

theorem Loosened.of_stb {s t : State} (h : t.stb = s.stb) : Loosened s t := by
  have hr : ∀ i, t.record i = s.record i := fun i => by simp [State.record, h]
  exact ⟨by simp [State.gens, h], fun i => ⟨fun hn => (hr i).trans hn, fun r hs => .inr ⟨r.pins, le_rfl, (hr i).trans hs⟩⟩⟩

theorem Loosened.trans {s t u : State} (h : Loosened s t) (h' : Loosened t u) : Loosened s u := by
  refine ⟨h'.1.trans h.1, fun i => ⟨fun hn => (h'.2 i).1 ((h.2 i).1 hn), fun r hr => ?_⟩⟩
  obtain ⟨gone, retiring⟩ | ⟨n, hn, ht⟩ := (h.2 i).2 r hr
  · exact .inl ⟨(h'.2 i).1 gone, retiring⟩
  · obtain ⟨gone, retiring⟩ | ⟨m, hm, hu⟩ := (h'.2 i).2 _ ht
    · exact .inl ⟨gone, retiring⟩
    · exact .inr ⟨m, hm.trans hn, hu⟩

theorem Loosened.foldl {α : Type} {g : State → α → State} (h : ∀ s a, Loosened s (g s a)) (l : List α) (s : State) :
    Loosened s (l.foldl g s) := by
  induction l generalizing s with
  | nil => exact .refl s
  | cons a l ih => exact (h s a).trans (ih _)

theorem unpin_loosened (i : Nat) (s : State) : Loosened s (unpin i s) := by
  refine ⟨gens_unpin i s, fun j => ?_⟩
  rw [record_unpin]
  by_cases hij : i = j
  · refine ⟨fun hn => by simp [hij, hn], fun r hr => ?_⟩
    simp only [if_pos hij, hr, Option.bind_some, Record.unpinned]
    split
    · next h => exact .inl ⟨rfl, h.1⟩
    · exact .inr ⟨r.pins - 1, Nat.sub_le _ _, rfl⟩
  · simp only [if_neg hij]
    exact ⟨id, fun r hr => .inr ⟨r.pins, le_rfl, hr⟩⟩

theorem release_loosened (e : Entry) (s : State) : Loosened s (release e s) := Loosened.foldl (fun s (h : Handle) => unpin_loosened h.index s) _ s

theorem sendBack_loosened (s : State) (e : Entry) : Loosened s (sendBack s e) := (release_loosened e s).trans (.of_stb rfl)

theorem reResolve_loosened (p : Entry → Bool) (s : State) : Loosened s (reResolve p s) := Loosened.foldl sendBack_loosened _ s

/-- Pins do not enter a search of the table. -/
theorem Loosened.findRecord_eq {s t : State} (h : Loosened s t) (k : Key) {ok : Record → Bool}
    (hpins : ∀ r n, ok { r with pins := n } = ok r) (hok : ∀ r, r.state = .retiring → ok r = false) :
    findRecord t.stb k ok = findRecord s.stb k ok := by
  have len : t.stb.length = s.stb.length := by simpa [State.gens] using congrArg List.length h.1
  have test : ∀ i, (t.record i).any (fun r => decide (r.key = k) && ok r) = (s.record i).any fun r => decide (r.key = k) && ok r := by
    intro i
    cases hs : s.record i with
    | none => rw [(h.2 i).1 hs]
    | some r =>
      obtain ⟨gone, retiring⟩ | ⟨n, -, ht⟩ := (h.2 i).2 r hs
      · simp [gone, hok r retiring]
      · simp [ht, hpins]
  have tests : t.stb.map (fun p => p.held.any fun r => decide (r.key = k) && ok r)
      = s.stb.map fun p => p.held.any fun r => decide (r.key = k) && ok r := by
    refine List.ext_getElem? fun i => ?_
    simp only [List.getElem?_map]
    by_cases hi : i < s.stb.length
    · have hi' : i < t.stb.length := len ▸ hi
      have := test i
      simp only [State.record, List.getElem?_eq_getElem hi, List.getElem?_eq_getElem hi', Option.bind_some] at this
      simp [hi, hi', this]
    · rw [List.getElem?_eq_none (by omega), List.getElem?_eq_none (by omega)]
  have := congrArg (List.findIdx? id) tests
  simpa [List.findIdx?_map, Function.comp_def, findRecord] using this

theorem usable_repin (r : Record) (n : Nat) : ({ r with pins := n } : Record).usable = r.usable := rfl

theorem usable_retiring {r : Record} (h : r.state = .retiring) : r.usable = false := by simp [Record.usable, h]

theorem Loosened.usableRecord_eq {s t : State} (h : Loosened s t) (k : Key) : usableRecord t.stb k = usableRecord s.stb k :=
  h.findRecord_eq k usable_repin fun _ => usable_retiring

/-! ### Installing (R12, R59, R60) -/

theorem ageDefault_le {s : State} (h : s.mst.all Safety.slotInRange = true) (k : Key) : s.ageDefault k ≤ Config.maxOnTime := by
  unfold State.ageDefault
  cases hm : s.mst[k.media]? with
  | none => simp
  | some m =>
    cases hl : m.layers[k.layer]? with
    | none => simp [hl]
    | some l =>
      have inRange := (slotInRange_iff m).1 (List.all_eq_true.1 h m (List.mem_of_getElem? hm))
      by_cases hf : m.state = .free
      · rw [inRange.1 hf] at hl
        simp [Slot.empty] at hl
      · have := List.all_eq_true.1 (inRange.2 hf).2 l (List.mem_of_getElem? hl)
        simp only [LayerSettings.inRange, decide_eq_true_eq] at this
        simpa [hl] using this.2.2.2.2

theorem u8_le (p : List Byte) (i : Nat) : u8 p i ≤ 255 := Nat.le_of_lt_succ (p.getD i 0).isLt

theorem u16_le (p : List Byte) (i : Nat) : u16 p i ≤ 65535 := by
  have h0 := u8_le p i
  have h1 := u8_le p (i + 1)
  unfold u16
  omega

theorem u24_le (p : List Byte) (i : Nat) : u24 p i ≤ 16777215 := by
  have h0 := u16_le p i
  have h1 := u8_le p (i + 2)
  unfold u24
  omega

/-- The checks of REC_INSTALL leave a strategy within its ranges. -/
theorem strategyInRange_of_checks {st : Strategy} {count : Nat} (hp : st.powersInRange = true) (hs : st.shapeInRange = true)
    (ho : overridesInRange count st.overrides = true) (hlen : st.overrides.length ≤ count) (hdt : st.dt ≤ 255)
    (hpo : st.powersOrdered = true) (hoa : st.overridesAscending = true) : Safety.strategyInRange st = true := by
  simp only [overridesInRange, Bool.and_eq_true, decide_eq_true_eq] at ho
  simp [Safety.strategyInRange, hp, hs, hpo, hoa, hdt, overridesInRange, ho.2, hlen.trans ho.1]

theorem readImage_overrides_length (p : List Byte) (i : Nat) :
    (readImage p i).strat.overrides.length ≤ (readImage p i).overrideCount := by
  simp only [readImage, List.length_map, List.length_range]
  exact Nat.min_le_left _ _

theorem duplicateOf_none {places : List Place} {k : Key} {st : RecState} (h : duplicateOf places k st = none)
    (hst : st = .provisional ∨ st = .active) :
    (st = .provisional → provisionalRecord places k = none) ∧ (st = .active → usableRecord places k = none) := by
  unfold duplicateOf at h
  obtain rfl | rfl := hst <;> simpa using h

theorem arbiter_moves_of {s t : State} (h : Moves s t) : Moves s (arbiter t) := h.trans (arbiter_moves t)

theorem record_none_of_findIdx? {s : State} {i : Nat} (h : s.stb.findIdx? (·.held.isNone) = some i) :
    s.record i = none ∧ i < s.stb.length := by
  obtain ⟨p, hp, hfree⟩ := findIdx?_spec h
  exact ⟨by simpa [State.record, hp] using hfree, (List.getElem?_eq_some_iff.1 hp).1⟩

theorem serveRecInstall_served (p : List Byte) (s : State) : Served 32 s (serveRecInstall p s) := by
  simp only [serveRecInstall]
  split
  · simp
  next st hst =>
  split
  · simp
  next keyed =>
  split
  · simp
  next m hm =>
  split
  · simp
  next taken =>
  split
  · simp
  next layered =>
  split
  · simp
  next fields =>
  split
  · simp
  next powers =>
  split
  · simp
  next overrides =>
  split
  · simp
  next clear =>
  split
  · simp
  next i hfree =>
  have requested : st = .provisional ∨ st = .active := by
    split at hst
    · exact .inl (Option.some.inj hst).symm
    · split at hst
      · exact .inr (Option.some.inj hst).symm
      · cases hst
  obtain ⟨noCandidate, noWorking⟩ := duplicateOf_none clear requested
  simp only [Bool.not_eq_true', Bool.not_eq_false, Bool.and_eq_true] at fields powers overrides
  obtain ⟨⟨⟨hp, hs⟩, ho⟩, hc⟩ := fields
  refine answer_served _ _ (arbiter_moves_of (Moves.trans (Move.install i _ (record_none_of_findIdx? hfree) ?_ (fun h => ?_) (fun hu => ?_)
    fun hprov => noCandidate hprov).moves (reResolve_moves _ _)))
  · simp [hm, taken]
  · obtain ⟨-, -, -, -, slots⟩ := h
    have strat := strategyInRange_of_checks hp hs ho (readImage_overrides_length p 1) (u8_le p _) powers overrides
    simp only [Safety.recordInRange, Bool.and_eq_true, decide_eq_true_eq]
    exact ⟨⟨⟨by omega, strat⟩, hc⟩, Nat.zero_le _, ageDefault_le slots _⟩
  · refine noWorking (requested.resolve_left fun e => ?_)
    simp [Record.usable, e] at hu

/-! ### Amending (R61 to R63) -/

theorem withHandle_served (code : Byte) (index gen : Nat) {work : Record → State → State} (s : State)
    (h : ∀ p r, s.stb[index]? = some p → p.held = some r → Served code s (work r s)) : Served code s (withHandle code index gen work s) := by
  unfold withHandle
  split
  · simp
  next p hp =>
  split
  · simp
  next r hr =>
  split
  · simp
  exact h p r hp hr

/-- Each part of the strategy after an amendment is the offered one, when its group is selected, or the old one. -/
theorem applyStrategy_eq (g : Groups) (n o : Strategy) :
    g.applyStrategy n o =
      { pp := if g.powers then n.pp else o.pp, ps := if g.powers then n.ps else o.ps, pc := if g.powers then n.pc else o.pc
        dT := if g.shape then n.dT else o.dT, tf := if g.shape then n.tf else o.tf, tm := if g.shape then n.tm else o.tm
        tl := if g.shape then n.tl else o.tl, tc := if g.shape then n.tc else o.tc
        overrides := if g.overrides then n.overrides else o.overrides, dt := if g.depth then n.dt else o.dt } := by
  unfold Groups.applyStrategy
  cases g.powers <;> cases g.shape <;> cases g.overrides <;> cases g.depth <;> rfl

theorem strategyInRange_iff (st : Strategy) : Safety.strategyInRange st = true ↔
    st.powersInRange = true ∧ st.shapeInRange = true ∧ overridesInRange st.overrides.length st.overrides = true ∧ st.dt ≤ 255
      ∧ st.powersOrdered = true ∧ st.overridesAscending = true := by
  simp only [Safety.strategyInRange, Bool.and_eq_true, decide_eq_true_eq, and_assoc]

theorem recordInRange_iff (r : Record) : Safety.recordInRange r = true ↔
    (r.key.media ≤ 7 ∧ r.key.layer ≤ 3 ∧ r.key.zone ≤ 23 ∧ r.key.speed ≤ 3) ∧ Safety.strategyInRange r.strat = true
      ∧ corrInRange r.corr = true ∧ r.onTime ≤ Config.maxOnTime ∧ r.ageThreshold ≤ Config.maxOnTime := by
  simp only [Safety.recordInRange, Bool.and_eq_true, decide_eq_true_eq, and_assoc]

/-- An amendment that passes its checks leaves the strategy within its ranges (R61). -/
theorem applyStrategy_inRange {g : Groups} {p : List Byte} {i : Nat} {o : Strategy} (h : Safety.strategyInRange o = true)
    (hg : g.inRange (readImage p i) = true) (hpo : (g.applyStrategy (readImage p i).strat o).powersOrdered = true)
    (hoa : (g.applyStrategy (readImage p i).strat o).overridesAscending = true) :
    Safety.strategyInRange (g.applyStrategy (readImage p i).strat o) = true := by
  rw [strategyInRange_iff] at h ⊢
  obtain ⟨powers, shape, overrides, depth, -, -⟩ := h
  simp only [Groups.inRange, Bool.and_eq_true, Bool.or_eq_true, Bool.not_eq_true'] at hg
  obtain ⟨⟨⟨gPowers, gShape⟩, gOverrides⟩, -⟩ := hg
  have newOverrides : g.overrides = true →
      overridesInRange (readImage p i).strat.overrides.length (readImage p i).strat.overrides = true := fun on => by
    have := gOverrides.resolve_left (by simp [on])
    simp only [overridesInRange, Bool.and_eq_true, decide_eq_true_eq] at this ⊢
    exact ⟨(readImage_overrides_length p i).trans this.1, this.2⟩
  have newDepth : (readImage p i).strat.dt ≤ 255 := u8_le p _
  refine ⟨?_, ?_, ?_, ?_, hpo, hoa⟩ <;> rw [applyStrategy_eq]
  · cases on : g.powers
    · simpa [Strategy.powersInRange] using powers
    · simpa [on, Strategy.powersInRange] using gPowers
  · cases on : g.shape
    · simpa [Strategy.shapeInRange] using shape
    · simpa [on, Strategy.shapeInRange] using gShape
  · cases on : g.overrides
    · simpa using overrides
    · simpa using newOverrides on
  · cases on : g.depth
    · simpa using depth
    · simpa using newDepth

/-- A record that is not RETIRING keeps its key and its limit through an amendment (R62). -/
theorem apply_key (g : Groups) (im : Image) (r : Record) : (g.apply im r).key = r.key := rfl

theorem apply_usable (g : Groups) (im : Image) (r : Record) : (g.apply im r).usable = r.usable := by
  cases hs : r.state <;> simp [Groups.apply, Record.usable, hs]

theorem apply_provisional (g : Groups) (im : Image) (r : Record) :
    (g.apply im r).state = .provisional ↔ r.state = .provisional := by
  cases hs : r.state <;> simp [Groups.apply, hs]

theorem serveRecAmend_served (p : List Byte) (s : State) : Served 33 s (serveRecAmend p s) := by
  simp only [serveRecAmend]
  refine withHandle_served _ _ _ s fun place r hplace hheld => ?_
  split
  · simp
  split
  · simp
  split
  · simp
  next ranges =>
  split
  · simp
  next powers =>
  split
  · simp
  next overrides =>
  simp only [Bool.not_eq_true', Bool.not_eq_false] at ranges powers overrides
  refine answer_served _ _ (arbiter_moves_of (Moves.trans (Move.place _ _ fun q hq => ?_).moves (reResolve_moves _ _)))
  obtain rfl : place = q := Option.some.inj (hplace.symm.trans hq)
  refine ⟨fun _ => Nat.le_of_lt_succ (Nat.mod_lt _ (by omega)), by simp [hheld, apply_key], ?_, ?_, fun h q' hq' => ?_⟩
  · cases hu : r.usable <;> simp [Place.usableKey, hheld, Option.filter_some, apply_usable, apply_key, hu]
  · by_cases hs : r.state = .provisional <;>
      simp [Place.provisionalKey, hheld, Option.filter_some, apply_provisional, apply_key, hs]
  · obtain rfl : _ = q' := Option.some.inj hq'
    have inRange := recordInRange_of_record h (List.mem_of_getElem? hplace) hheld
    rw [recordInRange_iff] at inRange ⊢
    obtain ⟨key, strat, corr, onTime, age⟩ := inRange
    refine ⟨key, applyStrategy_inRange strat ranges powers overrides, ?_, ?_, ?_⟩
    · simp only [Groups.inRange, Bool.and_eq_true, Bool.or_eq_true, Bool.not_eq_true'] at ranges
      cases on : (readGroups (u8 p 2)).correction
      · simpa [Groups.apply, on] using corr
      · simpa [Groups.apply, on] using ranges.2
    · cases on : (readGroups (u8 p 2)).onTimeClear
      · simpa [Groups.apply, on] using onTime
      · simp [Groups.apply, on]
    · cases on : (readGroups (u8 p 2)).age
      · simpa [Groups.apply, on] using age
      · simp only [Groups.apply, on, if_true]
        exact u24_le p _

/-! ### Leaving service (R64 to R68) -/

/-- Leaving service frees a place, marks its record RETIRING or does nothing. -/
theorem leaveService_eq (i : Nat) (s : State) : leaveService i s = s ∨ leaveService i s = freePlace i s
    ∨ ∃ f, leaveService i s = s.withPlace i f ∧ ∀ p, s.stb[i]? = some p → Tame s p (f p) := by
  unfold leaveService
  split
  · split
    · exact .inl rfl
    · split
      · exact .inr (.inl rfl)
      · refine .inr (.inr ⟨_, rfl, withRecord_tame i (fun _ => rfl) (fun r _ hr => ?_) (fun r hr => ?_) fun _ r hr => ?_⟩)
        · simp [Record.usable] at hr
        · simp at hr
        · exact recordInRange_update hr _ (recordInRange_onTime hr) (recordInRange_corr hr)
  · exact .inl rfl

/-- What is left of a record that leaves service: nothing without pins, and else the record RETIRING (R61, R66). -/
def Record.outOfService (r : Record) : Option Record :=
  if r.state = .retiring then some r else if r.pins = 0 then none else some { r with state := .retiring }

theorem record_leaveService (i j : Nat) (s : State) :
    (leaveService i s).record j = if i = j then (s.record j).bind Record.outOfService else s.record j := by
  unfold leaveService
  split
  · next r hr =>
    split
    · next h => split <;> simp_all [Record.outOfService]
    · next h =>
      split
      · next hp =>
        rw [record_freePlace]
        split <;> simp_all [Record.outOfService]
      · next hp =>
        rw [record_withRecord]
        split <;> simp_all [Record.outOfService]
  · split <;> simp_all

@[simp] theorem leaveService_moves (i : Nat) (s : State) : Moves s (leaveService i s) := by
  obtain h | h | ⟨f, h, tame⟩ := leaveService_eq i s <;> rw [h]
  · exact freePlace_moves i s
  · exact (Move.place i f tame).moves

theorem regen_moves (i : Nat) (s : State) : Moves s (s.withPlace i fun p => { p with gen := (p.gen + 1) % 256 }) := by
  refine (Move.place i _ fun p hp => ?_).moves
  have bound : (p.gen + 1) % 256 ≤ 255 := by omega
  exact ⟨fun _ => bound, rfl, .inr rfl, .inr rfl, fun h _ hr => recordInRange_of_record h (List.mem_of_getElem? hp) hr⟩

theorem serveRecPromote_served (p : List Byte) (s : State) : Served 34 s (serveRecPromote p s) := by
  simp only [serveRecPromote]
  refine withHandle_served _ _ _ s fun place r hplace hheld => ?_
  split
  · simp
  next candidate =>
  have hprov : r.state = .provisional := by simpa using candidate
  refine answer_served _ _ (arbiter_moves_of (Moves.trans ?_ (regen_moves _ _)))
  simp only [sendBackAll]
  generalize hu : reResolve _ s = u
  have back : Moves s u := hu ▸ reResolve_moves _ s
  have loose : Loosened s u := hu ▸ reResolve_loosened _ s
  obtain ⟨-, retiring⟩ | ⟨n, -, held⟩ := (loose.2 (u8 p 0)).2 r (by simp [State.record, hplace, hheld])
  · simp [hprov] at retiring
  have promoted := (Move.promote (u8 p 0) _ held hprov).moves
  rw [superseded, show usableRecord u.stb _ = usableRecord s.stb r.key from loose.usableRecord_eq _] at promoted
  exact back.trans promoted

theorem serveRecRetire_served (p : List Byte) (s : State) : Served 35 s (serveRecRetire p s) := by
  simp only [serveRecRetire]
  refine withHandle_served _ _ _ s fun place r hplace hheld => ?_
  split
  · simp
  · exact answer_served _ _ (arbiter_moves_of ((reResolve_moves _ s).trans (leaveService_moves _ _)))

end Sys2Proof.Machine
end

section
/-! SUPPORT. Interpolation (R45, R46) and what a resolution gives the working copy (R47); the values stay within the ranges of the records
they come from. -/

namespace Sys2Proof.Machine

open Sys2Proof.Stated

/-! ### The interpolated value -/

section
variable {z zl zu : Nat} (hl : zl < z) (hu : z < zu)
include hl hu

/-- The weighted value whose nearest-up rounding is the interpolated value, as one quotient (R1, R45). -/
theorem interp_eq (a b : Int) :
    interp a b z zl zu
      = (2 * (a * ((zu : Int) - z) + b * ((z : Int) - zl)) + ((zu : Int) - zl)) / (2 * ((zu : Int) - zl)) := by
  have span : ((zu - zl : Nat) : Int) = (zu : Int) - zl := by omega
  have pos : (0 : Int) < 2 * ((zu : Int) - zl) := by omega
  unfold interp rnd
  rw [span, Int.add_comm a, ← Int.add_mul_ediv_left _ a pos.ne']
  congr 1
  ring

theorem interp_nearest (a b : Int) :
    2 * ((zu : Int) - zl) * interp a b z zl zu ≤ 2 * (a * ((zu : Int) - z) + b * ((z : Int) - zl)) + ((zu : Int) - zl)
      ∧ 2 * (a * ((zu : Int) - z) + b * ((z : Int) - zl)) + ((zu : Int) - zl)
          < 2 * ((zu : Int) - zl) * (interp a b z zl zu + 1) := by
  have pos : (0 : Int) < 2 * ((zu : Int) - zl) := by omega
  rw [interp_eq hl hu]
  refine ⟨Int.mul_ediv_self_le pos.ne', ?_⟩
  have := Int.lt_mul_ediv_self_add (x := 2 * (a * ((zu : Int) - z) + b * ((z : Int) - zl)) + ((zu : Int) - zl)) pos
  linarith

/-- Interpolation keeps the order of two fields. -/
theorem interp_mono {a b c d : Int} (hac : a ≤ c) (hbd : b ≤ d) : interp a b z zl zu ≤ interp c d z zl zu := by
  rw [interp_eq hl hu, interp_eq hl hu]
  refine Int.ediv_le_ediv (by omega) ?_
  have above : a * ((zu : Int) - z) ≤ c * ((zu : Int) - z) := mul_le_mul_of_nonneg_right hac (by omega)
  have below : b * ((z : Int) - zl) ≤ d * ((z : Int) - zl) := mul_le_mul_of_nonneg_right hbd (by omega)
  linarith

/-- Two sources that agree give their common value. -/
theorem interp_self (a : Int) : interp a a z zl zu = a := by
  unfold interp rnd
  have small : ((zu - zl : Nat) : Int) / (2 * ((zu - zl : Nat) : Int)) = 0 := Int.ediv_eq_zero_of_lt (by omega) (by omega)
  simp [small]

theorem interp_between (a b : Int) : min a b ≤ interp a b z zl zu ∧ interp a b z zl zu ≤ max a b := by
  constructor
  · rw [← interp_self hl hu (min a b)]
    exact interp_mono hl hu (min_le_left a b) (min_le_right a b)
  · rw [← interp_self hl hu (max a b)]
    exact interp_mono hl hu (le_max_left a b) (le_max_right a b)

/-- Bounds of both sources are bounds of the interpolated value. -/
theorem le_interp {a b c : Int} (ha : c ≤ a) (hb : c ≤ b) : c ≤ interp a b z zl zu :=
  (le_min ha hb).trans (interp_between hl hu a b).1

theorem interp_le {a b c : Int} (ha : a ≤ c) (hb : b ≤ c) : interp a b z zl zu ≤ c :=
  (interp_between hl hu a b).2.trans (max_le ha hb)

/-- An interpolated unsigned field is not negative, so that its value stands as it is. -/
theorem interp_toNat (a b : Nat) : ((interp a b z zl zu).toNat : Int) = interp a b z zl zu :=
  Int.toNat_of_nonneg (le_interp hl hu (Int.natCast_nonneg a) (Int.natCast_nonneg b))

end

/-! ### The working values -/

theorem sourceRecord_of_place {places : List Place} {i g : Nat} {r : Record} (h : places[i]? = some { gen := g, held := some r }) :
    sourceRecord places i = some r := by simp [sourceRecord, h]

theorem handleOf_of_place {places : List Place} {i g : Nat} {r : Record} (h : places[i]? = some { gen := g, held := some r }) :
    handleOf places i = ⟨i, g⟩ := by simp [handleOf, h]

theorem working_found {places : List Place} {k : Key} {kind : ResKind} {i g : Nat} {r : Record}
    (h : places[i]? = some { gen := g, held := some r }) : working places k (.found kind [i])
      = some { kind, strat := r.strat, corr := r.corr, sources := [⟨i, g⟩], suspect := decide (r.state = .suspect) } := by
  simp [working, sourceRecord_of_place h, handleOf_of_place h]

theorem working_derived {places : List Place} {k : Key} {zl zu i j gi gj : Nat} {l u : Record}
    (hi : places[i]? = some { gen := gi, held := some l }) (hj : places[j]? = some { gen := gj, held := some u }) :
    working places k (.derived ⟨zl, i⟩ ⟨zu, j⟩) = some
      { kind := .derived, strat := interpStrategy l.strat u.strat k.zone zl zu, corr := interp l.corr u.corr k.zone zl zu
        sources := [⟨i, gi⟩, ⟨j, gj⟩], suspect := decide (l.state = .suspect ∨ u.state = .suspect) } := by
  simp [working, sourceRecord_of_place hi, sourceRecord_of_place hj, handleOf_of_place hi, handleOf_of_place hj]

/-- Settles O41: the interpolated value is one quotient, from which rounding, bounds and order follow, and a resolution's working values are
read off its sources. -/
theorem interpolationStaysBetween : Obligations.InterpolationStaysBetween := by
  unfold Obligations.InterpolationStaysBetween
  refine ⟨fun a b c d z zl zu hl hu => ?_, fun places k kind i g r h => working_found h,
    fun places k zl zu i j gi gj l u hl hu hi hj => ?_, fun _ _ => ⟨rfl, rfl⟩⟩
  · exact ⟨interp_nearest hl hu a b, interp_between hl hu a b, interp_mono hl hu⟩
  · refine ⟨_, working_derived hi hj, ?_⟩
    simp only [interpStrategy, interp_toNat hl hu, decide_eq_true_eq, and_true]

/-! ### The working values stay in range (R45, R46) -/

section
variable {z zl zu : Nat} (hl : zl < z) (hu : z < zu)
include hl hu

theorem interp_nat_mono {a b c d : Nat} (hac : a ≤ c) (hbd : b ≤ d) : (interp a b z zl zu).toNat ≤ (interp c d z zl zu).toNat :=
  Int.toNat_le_toNat (interp_mono hl hu (Int.ofNat_le.2 hac) (Int.ofNat_le.2 hbd))

theorem interp_nat_le {a b c : Nat} (ha : a ≤ c) (hb : b ≤ c) : (interp a b z zl zu).toNat ≤ c := by
  have := interp_le hl hu (Int.ofNat_le.2 ha) (Int.ofNat_le.2 hb)
  omega

theorem le_interp_nat {a b c : Nat} (ha : c ≤ a) (hb : c ≤ b) : c ≤ (interp a b z zl zu).toNat := by
  have := le_interp hl hu (Int.ofNat_le.2 ha) (Int.ofNat_le.2 hb)
  omega

theorem interpStrategy_inRange {a b : Strategy} (ha : Safety.strategyInRange a = true) (hb : Safety.strategyInRange b = true) :
    Safety.strategyInRange (interpStrategy a b z zl zu) = true := by
  rw [strategyInRange_iff] at ha hb ⊢
  simp only [Strategy.powersInRange, Strategy.shapeInRange, Strategy.powersOrdered, decide_eq_true_eq] at ha hb ⊢
  obtain ⟨⟨a1, a2, a3, a4⟩, ⟨a5, a6, a7, a8, a9, a10, a11, a12, a13⟩, aover, adt, ⟨aord1, aord2⟩, aasc⟩ := ha
  obtain ⟨⟨b1, b2, b3, b4⟩, ⟨b5, b6, b7, b8, b9, b10, b11, b12, b13⟩, bover, bdt, ⟨bord1, bord2⟩, basc⟩ := hb
  refine ⟨⟨le_interp_nat hl hu a1 b1, interp_nat_le hl hu a2 b2, interp_nat_le hl hu a3 b3, interp_nat_le hl hu a4 b4⟩,
    ⟨le_interp hl hu a5 b5, interp_le hl hu a6 b6, le_interp_nat hl hu a7 b7, interp_nat_le hl hu a8 b8, le_interp_nat hl hu a9 b9,
      interp_nat_le hl hu a10 b10, le_interp_nat hl hu a11 b11, interp_nat_le hl hu a12 b12, interp_nat_le hl hu a13 b13⟩, ?_,
    interp_nat_le hl hu adt bdt, ⟨interp_nat_mono hl hu aord1 bord1, interp_nat_mono hl hu aord2 bord2⟩, ?_⟩
  · by_cases h : z - zl ≤ zu - z <;> simp only [interpStrategy, h, if_true, if_false] <;> assumption
  · by_cases h : z - zl ≤ zu - z
    · simpa only [interpStrategy, Strategy.overridesAscending, h, if_true] using aasc
    · simpa only [interpStrategy, Strategy.overridesAscending, h, if_false] using basc

theorem interp_corrInRange {a b : Int} (ha : corrInRange a = true) (hb : corrInRange b = true) :
    corrInRange (interp a b z zl zu) = true := by
  simp only [corrInRange, decide_eq_true_eq] at ha hb ⊢
  exact ⟨le_interp hl hu ha.1 hb.1, interp_le hl hu ha.2 hb.2⟩

end

theorem firstNeighbour_mem {places : List Place} {k : Key} {zs : List Nat} {n : Neighbour} (h : firstNeighbour places k zs = some n) :
    n.zone ∈ zs := by
  obtain ⟨z, hz, hn⟩ := List.exists_of_findSome?_eq_some h
  obtain ⟨i, -, rfl⟩ := Option.map_eq_some_iff.1 hn
  exact hz

theorem lowerNeighbour_lt {places : List Place} {k : Key} {n : Neighbour} (h : lowerNeighbour places k = some n) : n.zone < k.zone := by
  simpa using firstNeighbour_mem h

theorem lt_upperNeighbour {places : List Place} {k : Key} {n : Neighbour} (h : upperNeighbour places k = some n) : k.zone < n.zone := by
  obtain ⟨d, -, hd⟩ := List.mem_map.1 (firstNeighbour_mem h)
  omega

/-- A borrow names one source or misses. -/
theorem borrow_cases (k : Key) (d : Nat) (l u : Option Neighbour) :
    borrow k d l u = .miss ∨ ∃ n, (some n = l ∨ some n = u) ∧ borrow k d l u = .found .borrowed [n.index] := by
  unfold borrow
  cases l <;> cases u <;> simp only <;> (repeat' split) <;> simp

/-- A resolution finds one record of the key, derives from two on either side of it, borrows one neighbour's or finds none (R41 to R44). -/
theorem resolve_cases (places : List Place) (set : Settings) (mode : Mode) (k : Key) :
    (∃ i, resolve places set mode k = .found .exactTrial [i] ∧ provisionalRecord places k = some i)
      ∨ (∃ i, resolve places set mode k = .found .exact [i] ∧ usableRecord places k = some i)
      ∨ (∃ l u, resolve places set mode k = .derived l u ∧ lowerNeighbour places k = some l ∧ upperNeighbour places k = some u)
      ∨ (∃ n, resolve places set mode k = .found .borrowed [n.index]
          ∧ (lowerNeighbour places k = some n ∨ upperNeighbour places k = some n))
      ∨ resolve places set mode k = .miss ∨ resolve places set mode k = .noTrial := by
  have borrowed : ∀ l u, lowerNeighbour places k = l → upperNeighbour places k = u →
      resolve places set mode k = borrow k set.borrowDistance l u → 
      (∃ n, resolve places set mode k = .found .borrowed [n.index]
          ∧ (lowerNeighbour places k = some n ∨ upperNeighbour places k = some n)) ∨ resolve places set mode k = .miss := by
    intro l u hl hu hr
    obtain h | ⟨n, hn, h⟩ := borrow_cases k set.borrowDistance l u
    · exact .inr (hr.trans h)
    · refine .inl ⟨n, hr.trans h, ?_⟩
      rw [hl, hu]
      exact hn.imp Eq.symm Eq.symm
  cases mode with
  | trial =>
    cases hp : provisionalRecord places k with
    | some i => exact .inl ⟨i, resolve_trial_found hp, rfl⟩
    | none => exact .inr (.inr (.inr (.inr (.inr (resolve_trial_none hp)))))
  | normal =>
    cases he : usableRecord places k with
    | some i => exact .inr (.inl ⟨i, resolve_exact he, rfl⟩)
    | none =>
      cases hl : lowerNeighbour places k with
      | none =>
        have := borrowed _ _ hl rfl ((resolve_beside he (.inl hl)).trans (by rw [hl]))
        rw [hl] at this
        exact .inr (.inr (.inr (this.imp_right .inl)))
      | some l =>
        cases hu : upperNeighbour places k with
        | none =>
          have := borrowed _ _ hl hu ((resolve_beside he (.inr hu)).trans (by rw [hl, hu]))
          rw [hl, hu] at this
          exact .inr (.inr (.inr (this.imp_right .inl)))
        | some u =>
          have between := resolve_between (set := set) he hl hu
          split at between
          · exact .inr (.inr (.inl ⟨l, u, between, rfl, rfl⟩))
          · have := borrowed _ _ hl hu between
            rw [hl, hu] at this
            exact .inr (.inr (.inr (this.imp_right .inl)))

/-- The working values of a resolution lie within their ranges when the records do. -/
theorem working_inRange {s : State} (h : ∀ i r, s.record i = some r → Safety.recordInRange r = true) {set : Settings} {mode : Mode} {k : Key}
    {w : Working} (hw : working s.stb k (resolve s.stb set mode k) = some w) :
    Safety.strategyInRange w.strat = true ∧ corrInRange w.corr = true := by
  have source : ∀ i r, sourceRecord s.stb i = some r → Safety.strategyInRange r.strat = true ∧ corrInRange r.corr = true := by
    intro i r hr
    have := (recordInRange_iff r).1 (h i r hr)
    exact ⟨this.2.1, this.2.2.1⟩
  have single : ∀ kind i, resolve s.stb set mode k = .found kind [i] →
      Safety.strategyInRange w.strat = true ∧ corrInRange w.corr = true := by
    intro kind i hr
    rw [hr] at hw
    obtain ⟨r, hr, rfl⟩ := Option.map_eq_some_iff.1 hw
    exact source i r hr
  obtain ⟨i, hr, -⟩ | ⟨i, hr, -⟩ | ⟨l, u, hr, hl, hu⟩ | ⟨n, hr, -⟩ | hr | hr := resolve_cases s.stb set mode k
  · exact single _ _ hr
  · exact single _ _ hr
  · rw [hr] at hw
    obtain ⟨rl, hrl, hw⟩ := Option.bind_eq_some_iff.1 hw
    obtain ⟨ru, hru, rfl⟩ := Option.map_eq_some_iff.1 hw
    have below := lowerNeighbour_lt hl
    have above := lt_upperNeighbour hu
    exact ⟨interpStrategy_inRange below above (source _ _ hrl).1 (source _ _ hru).1,
      interp_corrInRange below above (source _ _ hrl).2 (source _ _ hru).2⟩
  · exact single _ _ hr
  · rw [hr] at hw; cases hw
  · rw [hr] at hw; cases hw

end Sys2Proof.Machine
end

section
/-! SUPPORT. Every command is a row of moves: the lookups, the link, the pickup, the laser, the power loop, the pulse generator, the port and
the resets, and with them `exec`. -/

namespace Sys2Proof.Machine

open Sys2Proof.Stated

/-! ### Lookups -/

/-- A pin on each source: a record gains one for every time its place is named (R48). -/
theorem record_pins (hs : List Handle) (s : State) (i : Nat) :
    (hs.foldl (fun s h => pin h.index s) s).record i
      = (s.record i).map fun r => { r with pins := r.pins + hs.countP (fun h => decide (h.index = i)) } := by
  induction hs generalizing s with
  | nil => cases h : s.record i <;> simp [h]
  | cons h hs ih =>
    rw [List.foldl_cons, ih, pin, record_withRecord]
    by_cases hi : h.index = i
    · cases s.record i with
      | none => simp
      | some r => simp [hi, Nat.add_assoc, Nat.add_comm 1]
    · cases s.record i <;> simp [hi]

theorem records_inRange {s : State} (h : Safety.RecordsInRange s) (i : Nat) (r : Record) (hr : s.record i = some r) :
    Safety.recordInRange r = true := by
  obtain ⟨p, hp, held⟩ : ∃ p, s.stb[i]? = some p ∧ p.held = some r := Option.bind_eq_some_iff.1 hr
  exact recordInRange_of_record h (List.mem_of_getElem? hp) held

/-- The working copy of a lookup is within its ranges, since the records are; pins do not matter. -/
theorem workingCopy_inRange {s : State} {set : Settings} {mode : Mode} {k : Key} {w : Working}
    (hw : working s.stb k (resolve s.stb set mode k) = some w)
    (h : Safety.RecordsInRange (w.sources.foldl (fun s h => pin h.index s) s)) (copy : WorkingCopy) (hs : copy.strat = w.strat)
    (hr : copy.running = w.corr) (hi : copy.initial = w.corr) (ht : copy.tally = 0) :
    Safety.copyInRange (.strategy copy) = true := by
  have records : ∀ i r, s.record i = some r → Safety.recordInRange r = true := fun i r hrec =>
    records_inRange h i { r with pins := r.pins + w.sources.countP (fun h => decide (h.index = i)) } (by rw [record_pins, hrec]; rfl)
  obtain ⟨strat, corr⟩ := working_inRange records hw
  simp [Safety.copyInRange, hs, hr, hi, ht, strat, corr]

theorem completeSegment_moves (e : Entry) (s : State) : Moves s (completeSegment e s) := by
  simp only [completeSegment]
  split
  · next w hw =>
    refine Moves.trans (Moves.trans ?_ (countEvent_moves ..)) (goOn_moves _)
    have pinned : Moves s (w.sources.foldl (fun s h => pin h.index s) s) :=
      Moves.foldl (I := fun _ => True) (fun _ _ _ _ => pin_moves _ _) (fun _ _ _ _ => trivial) trivial
    exact pinned.trans (withEntry_moves _ (fun _ => rfl) fun h _ _ _ => workingCopy_inRange hw h _ rfl rfl rfl rfl)
  · refine Moves.trans ?_ (goOn_moves _)
    refine Moves.trans ?_ (finishEntry_moves _ _ _)
    refine Moves.trans (countEvent_moves .lookupMiss (some (s.entryKey e)) 1 s) ?_
    split
    · exact .refl
    · exact withNotices_moves _ _

theorem serveRecFind_served (p : List Byte) (s : State) : Served 38 s (serveRecFind p s) := by
  simp only [serveRecFind]
  split
  · simp
  split
  · simp
  split
  · simp
  split
  · simp
  split
  · simp
  exact .joined _ rfl

theorem serveRecScan_served (p : List Byte) (s : State) : Served 39 s (serveRecScan p s) := by
  simp only [serveRecScan]
  split
  · simp
  split
  · simp
  exact .joined _ rfl

theorem serveRecRetireMatch_served (p : List Byte) (s : State) : Served 36 s (serveRecRetireMatch p s) := by
  simp only [serveRecRetireMatch]
  split
  · simp
  exact .joined _ rfl

theorem serveRecRead_served (p : List Byte) (s : State) : Served 37 s (serveRecRead p s) :=
  withHandle_served _ _ _ s fun _ _ _ _ => answer_served_ok _ _ s

/-- The part as the matching pass leaves the tables and the queue, before it answers (R68). -/
def matchesRetired (inService : List Nat) (s : State) : State :=
  inService.foldl (fun s i => leaveService i s) (sendBackAll (fun e => inService.any e.uses) s).2

theorem matchesRetired_moves (inService : List Nat) (s : State) : Moves s (matchesRetired inService s) :=
  (reResolve_moves _ s).trans
    (Moves.foldl (I := fun _ => True) (fun _ _ _ _ => leaveService_moves _ _) (fun _ _ _ _ => trivial) trivial)

@[simp] theorem leaveService_rse (i : Nat) (s : State) : (leaveService i s).rse = s.rse := by
  obtain h | h | ⟨f, h, -⟩ := leaveService_eq i s <;> simp [h]

theorem matchesRetired_rse (inService : List Nat) (s : State) : (matchesRetired inService s).rse = s.rse :=
  (foldl_keeps State.rse (fun s i => leaveService i s) (fun u i => leaveService_rse i u) inService _).trans (reResolve_rse ..)

/-! ### Intake and the link -/

/-- Every entry is charged to one of the three classes. -/
theorem length_eq_occupied (q : Sgq) : q.queue.length = q.occupied .w + q.occupied .r + q.occupied .s := by
  unfold Sgq.occupied
  induction q.queue with
  | nil => rfl
  | cons e es ih => cases h : e.cls <;> simp [h, ih] <;> omega

/-- With a class below its allotment a position is FREE, and the lowest one is taken (R82). -/
theorem freePos_spec {q : Sgq} (h : q.queue.length < 6) : q.freePos < 6 ∧ ∀ e ∈ q.queue, e.pos ≠ q.freePos := by
  have found : ∃ p, (List.range Config.entries).find? (fun p => q.queue.all (·.pos ≠ p)) = some p := by
    rw [← Option.isSome_iff_exists, List.find?_isSome]
    by_contra full
    push Not at full
    have taken : ∀ p ∈ List.range 6, p ∈ q.queue.map (·.pos) := by
      intro p hp
      have := full p hp
      simp only [ne_eq, List.all_eq_true, decide_eq_true_eq, not_forall, not_not] at this
      obtain ⟨e, he, hpos⟩ := this
      exact List.mem_map.2 ⟨e, he, hpos⟩
    have := (List.subperm_of_subset List.nodup_range taken).length_le
    simp at this
    omega
  obtain ⟨p, hp⟩ := found
  have here : q.freePos = p := by rw [Sgq.freePos, hp]; rfl
  have hall := List.find?_some hp
  have hmem := List.mem_of_find?_eq_some hp
  rw [here]
  exact ⟨by simpa using hmem, fun e he => by simpa using List.all_eq_true.1 hall e he⟩

/-- What the intake checks leave of a descriptor (R83). -/
structure Accepted (s : State) (d : Descriptor) (kind : SegKind) (cls : CreditClass) : Prop where
  laser : s.lsc.laser ≠ .hold
  kindNamed : SegKind.ofNat? d.kind = some kind
  clsNamed : CreditClass.ofNat? d.cls = some cls
  admits : cls.admits kind = true
  room : s.sgq.occupied cls < cls.allotment
  fresh : ∀ e ∈ s.sgq.queue, e.tag ≠ d.tag
  mounted : kind ≠ .read → s.mountedIndex ≠ none
  fits : fieldsFit s d kind = true

theorem accepted_of_intakeCheck {s : State} {d : Descriptor} {kind : SegKind} {cls : CreditClass}
    (h : intakeCheck s d = .ok (kind, cls)) : Accepted s d kind cls := by
  unfold intakeCheck at h
  split at h
  · cases h
  next laser =>
  split at h
  · next k c hk hc =>
    split at h
    · cases h
    next admits =>
    split at h
    · cases h
    next room =>
    split at h
    · cases h
    next fresh =>
    split at h
    · cases h
    next mounted =>
    split at h
    · cases h
    next fits =>
    cases h
    exact ⟨laser, hk, hc, by simpa using admits, by omega, by simpa using fresh, by simpa using mounted, by simpa using fits⟩
  · cases h

theorem intake_keeps_credits {s : State} {d : Descriptor} {kind : SegKind} {cls : CreditClass} (ha : Accepted s d kind cls)
    (htag : d.tag < 16) (h : Safety.QueueWithinCredits s) :
    Safety.QueueWithinCredits { s with sgq := { s.sgq with queue := s.sgq.queue ++ [newEntry s d kind cls] } } := by
  obtain ⟨positions, tags, entries, hw, hr, hs⟩ := h
  have room := ha.room
  have short : s.sgq.queue.length < 6 := by
    rw [length_eq_occupied]
    cases cls <;> simp only [CreditClass.allotment] at room <;> omega
  obtain ⟨hpos, free⟩ := freePos_spec short
  have occupied : ∀ c, (Sgq.occupied { s.sgq with queue := s.sgq.queue ++ [newEntry s d kind cls] } c)
      = s.sgq.occupied c + if cls = c then 1 else 0 := by
    intro c
    unfold Sgq.occupied
    by_cases hc : cls = c <;> simp [newEntry, hc]
  refine ⟨?_, ?_, ?_, ?_, ?_, ?_⟩
  · rw [List.map_append, List.nodup_append]
    refine ⟨positions, by simp, fun a ha b hb => ?_⟩
    obtain ⟨e, he, rfl⟩ := List.mem_map.1 ha
    simp only [List.map_cons, List.map_nil, List.mem_singleton, newEntry] at hb
    rw [hb]
    exact free e he
  · rw [List.map_append, List.nodup_append]
    refine ⟨tags, by simp, fun a hmem b hb => ?_⟩
    obtain ⟨e, he, rfl⟩ := List.mem_map.1 hmem
    simp only [List.map_cons, List.map_nil, List.mem_singleton, newEntry] at hb
    rw [hb]
    exact ha.fresh e he
  · rw [List.all_append, entries]
    simp [newEntry, hpos, htag, ha.admits]
  all_goals
    rw [occupied]
    cases cls <;> simp only [CreditClass.allotment] at room <;> simp <;> omega

theorem takeSeg_moves (d : Descriptor) (s : State) (htag : d.tag < 16) : Moves s (takeSeg d s) := by
  unfold takeSeg
  split
  · exact send_moves (rejectMessage_fits ..) s
  · next kind cls hcheck =>
    refine settleCodes_moves s (arbiter_moves_of (Moves.trans ?_ (goOn_moves _)))
    exact (Move.intake _ (intake_keeps_credits (accepted_of_intakeCheck hcheck) htag)
      (by unfold newEntry; split <;> rfl)).moves

theorem takeCancel_moves (tag : Nat) (s : State) : Moves s (takeCancel tag s) := by
  unfold takeCancel
  split
  · split
    · simp
    · exact settleCodes_moves s ((endEntry_moves _ _ s).trans (goOn_moves _))
  · simp

theorem takeEnd_moves (tag : Nat) (s : State) : Moves s (takeEnd tag s) := by
  unfold takeEnd
  split
  · split
    · exact settleCodes_moves s ((finishEntry_moves _ _ s).trans (goOn_moves _))
    · simp
  · simp

theorem deliver_moves (m : LinkMessage) (s : State) : Moves s (deliver m s) := by
  unfold deliver
  split
  · exact takeSeg_moves _ s (by have := m.b1.isLt; simp only [readDescriptor]; omega)
  · split
    · exact takeCancel_moves _ s
    · exact takeEnd_moves _ s

/-- A change of the incoming side that holds fewer than six bytes, none in RESYNC. -/
theorem side_moves {s : State} (side : LinkSide) (rx : List Byte)
    (h : Safety.LinkHolds s → rx.length ≤ 5 ∧ (side = .resync → rx = [])) :
    Moves s { s with flk := { s.flk with side := side, rx := rx } } :=
  (Move.link { s.flk with side := side, rx := rx } fun hs => ⟨hs.1, hs.2.1, hs.2.2.1, hs.2.2.2.1, h hs⟩).moves

theorem completeMessage_moves (m : LinkMessage) (s : State) (hrx : s.flk.rx = []) : Moves s (completeMessage m s) := by
  unfold completeMessage
  split
  · exact deliver_moves m s
  · exact (side_moves .resync s.flk.rx fun _ => ⟨by simp [hrx], fun _ => hrx⟩).trans (linkFault_moves _)

theorem receiveByte_moves (s : State) (b : Byte) : Moves s (receiveByte s b) := by
  unfold receiveByte
  split
  · next hside =>
    split
    · exact side_moves .inStep s.flk.rx fun ⟨_, _, _, _, hrx, _⟩ => ⟨hrx, nofun⟩
    · exact .refl
  · next hside =>
    have taken : ∀ rx : List Byte, rx.length ≤ 5 → Moves s (s.withRx rx) := fun rx hlen =>
      side_moves s.flk.side rx fun _ => ⟨hlen, fun h => by rw [hside] at h; cases h⟩
    split
    · split
      · exact .refl
      · exact taken _ (by simp)
    · exact (taken [] (by simp)).trans (completeMessage_moves _ _ rfl)
    · next hne hfive =>
      refine side_moves s.flk.side _ fun ⟨_, _, _, _, hrx, _⟩ => ⟨?_, fun h => by rw [hside] at h; cases h⟩
      rw [List.length_append, List.length_singleton]
      by_contra hlen
      have five : s.flk.rx.length = 5 := by omega
      match hq : s.flk.rx, five with
      | [c, b1, b2, b3, b4], _ => exact hfive c b1 b2 b3 b4 hq

theorem receive_moves (m : List Byte) (s : State) : Moves s (receive m s) :=
  Moves.foldl (I := fun _ => True) (fun s b _ _ => receiveByte_moves s b) (fun _ _ _ _ => trivial) trivial

theorem transmitByte_moves (s : State) : Moves s (transmitByte s) := by
  unfold transmitByte
  refine (Move.link _ fun ⟨hlen, hall, hsent, hnone, hrx, hside⟩ => ?_).moves
  split
  · exact ⟨hlen, hall, hsent, hnone, hrx, hside⟩
  · split
    · next hout => exact ⟨hlen, hall, hsent, hnone, hrx, hside⟩
    · next m ms hout =>
      split
      · refine ⟨hlen, hall, by simp; omega, fun h => ?_, hrx, hside⟩
        simp [hout] at h
      · rw [hout] at hlen hall
        rw [List.all_cons, Bool.and_eq_true] at hall
        exact ⟨(Nat.le_succ _).trans hlen, hall.2, Nat.zero_le 5, fun _ => rfl, hrx, hside⟩

/-! ### The pickup -/

theorem pickup_moves {s : State} {k : Pkp}
    (h : Safety.PickupInRange s → Safety.PickupInRange { s with pkp := k, sgq := { s.sgq with requester := s.sgq.requester } }) :
    Moves s { s with pkp := k } := (Move.pickup k s.sgq.requester h).moves

/-- A pickup that keeps its tables, focus and timer. -/
theorem pickup_moves_of_counts {s : State} {k : Pkp} (hz : k.zoneMap = s.pkp.zoneMap) (hw : k.windows = s.pkp.windows)
    (hf : k.focus = s.pkp.focus) (ht : k.jumpTimer.isSome = s.pkp.jumpTimer.isSome)
    (hs : s.pkp.sled ≤ Config.maxSled → k.sled ≤ Config.maxSled)
    (hc : s.pkp.wobCount ≤ Config.maxWobble → k.wobCount ≤ Config.maxWobble ∧
      (s.pkp.measurement.all (· ≤ Config.maxWobble) = true → k.measurement.all (· ≤ Config.maxWobble) = true)) :
    Moves s { s with pkp := k } :=
  pickup_moves fun ⟨h1, h2, h3, h4, h5, h6, h7⟩ =>
    ⟨hs h1, (hc h2).1, (hc h2).2 h3, by simpa only [hz] using h4, by simpa only [hw] using h5, by simpa only [hf, ht] using h6,
      by simpa only [ht] using h7⟩

theorem positionLost_moves (s : State) : Moves s (positionLost s) :=
  (pickup_moves_of_counts (k := { s.pkp with valid := false }) rfl rfl rfl rfl id fun h => ⟨h, id⟩).trans (withNotices_moves _ _)

theorem stepOutward_moves (s : State) : Moves s (stepOutward s) := by
  unfold stepOutward
  split
  · next h => exact pickup_moves_of_counts rfl rfl rfl rfl (fun _ => h) fun h => ⟨h, id⟩
  · exact positionLost_moves s

theorem stepInward_moves (shome : Bool) (s : State) : Moves s (stepInward shome s) := by
  unfold stepInward
  split
  · exact pickup_moves_of_counts rfl rfl rfl rfl (fun _ => Nat.zero_le _) fun h => ⟨h, id⟩
  · split
    · exact pickup_moves_of_counts rfl rfl rfl rfl (fun h => (Nat.sub_le _ _).trans h) fun h => ⟨h, id⟩
    · exact positionLost_moves s

theorem lines_moves (s : State) (l : Lines) : Moves s { s with lines := l } := (Move.lines l).moves

theorem serveZoneMap_served (p : List Byte) (s : State) : Served 64 s (serveZoneMap p s) := by
  simp only [serveZoneMap]
  split
  · simp
  next bounds =>
  split
  · simp
  next ordered =>
  split
  · simp
  refine answerStatus_served _ (pickup_moves fun ⟨h1, h2, h3, _, h5, h6, h7⟩ => ⟨h1, h2, h3, ⟨by simp, ?_, ?_⟩, h5, h6, h7⟩)
  · simpa using ordered
  · simpa using bounds

theorem serveSpeedMap_served (p : List Byte) (s : State) : Served 65 s (serveSpeedMap p s) := by
  simp only [serveSpeedMap]
  split
  · simp
  split
  · simp
  next bounds =>
  split
  · simp
  next upright =>
  split
  · simp
  next disjoint =>
  refine answerStatus_served _ (pickup_moves fun ⟨h1, _, _, h4, _, h6, h7⟩ =>
    ⟨h1, Nat.zero_le _, rfl, h4, ⟨by simp, ?_, by simpa using disjoint⟩, h6, h7⟩)
  simp only [Bool.not_eq_true', Bool.not_eq_false, List.all_eq_true, decide_eq_true_eq] at bounds upright ⊢
  exact fun w hw => ⟨upright w hw, (bounds w hw).2⟩

theorem complete_moves {s : State} {k : Pkp} (h : s.pkp.complete = some k) : Moves s { s with pkp := k } := by
  unfold Pkp.complete at h
  split at h
  · cases h
    exact pickup_moves_of_counts rfl rfl rfl rfl id fun h => ⟨Nat.zero_le _, fun _ => by simpa [Pkp.latch] using h⟩
  · split at h
    · cases h
      exact pickup_moves_of_counts rfl rfl rfl rfl id fun h => ⟨Nat.zero_le _, fun _ => by simpa [Pkp.latch] using h⟩
    · cases h

/-- The end of a jump leaves no timer and no requester. -/
theorem endJump_moves (f : FocusState) (s : State) (hf : Safety.jumping f = false) : Moves s (endJump f s) :=
  (Move.pickup { s.pkp with focus := f, jumpTimer := none } none fun ⟨h1, h2, h3, h4, h5, _, _⟩ =>
    ⟨h1, h2, h3, h4, h5, by simp [hf], by simp⟩).moves

/-- A focus without a jump gives way to another without one. -/
theorem focus_moves {s : State} {f : FocusState} (hs : Safety.jumping s.pkp.focus = false) (hf : Safety.jumping f = false) :
    Moves s { s with pkp := { s.pkp with focus := f } } :=
  pickup_moves fun ⟨h1, h2, h3, h4, h5, h6, h7⟩ => ⟨h1, h2, h3, h4, h5, by simpa [hs, hf] using h6, h7⟩

theorem loseFocus_moves (s : State) (h : Safety.jumping s.pkp.focus = false) : Moves s (loseFocus s) := by
  have lost : Moves s ({ s with pkp := { s.pkp with focus := .unknown } }.withNotices ({ · with focusLost := true })) :=
    (focus_moves h rfl).trans (withNotices_moves _ _)
  simp only [loseFocus]
  split
  · exact lost
  · split
    · split
      · refine lost.trans (Moves.trans (Moves.trans ?_ (endActiveWrite_moves _ _ _ _)) (goOn_moves _))
        split
        · exact leaveWrite_moves _ _
        · exact .refl
      · exact lost.trans ((finishEntry_moves _ _ _).trans (goOn_moves _))
    · exact lost.trans ((endEntry_moves _ _ _).trans (goOn_moves _))
    · exact lost.trans (judgeAgain_moves _)
    · exact lost

/-! ### The power loop -/

theorem serveDiodeSet_served (p : List Byte) (s : State) : Served 48 s (serveDiodeSet p s) := by
  unfold serveDiodeSet
  split
  · simp
  split
  · simp
  next inRange =>
  refine answerStatus_served _ (Moves.trans (power_moves (p := { s.plp with diode := readDiode p, diodeValid := true }) rfl
    fun ⟨_, h2, h3, h4⟩ => ⟨by simpa using inRange, h2, h3, h4⟩) (recompute_moves _ _))

/-- Codes that are 0 stay within the bound of any limits. -/
theorem codesBounded_of_unlimited {s : State} (hl : s.plp.limits = none) (l : Limits) (h : Safety.CodesBounded s) :
    Safety.CodesBounded { s with plp := { s.plp with limits := some l } } := by
  have widen : ∀ c : CodeSet, Safety.codesWithin (Safety.codeBound s.plp.limits) c = true →
      Safety.codesWithin (Safety.codeBound (some l)) c = true := by
    intro c hc
    simp only [hl, Safety.codesWithin, Safety.codeBound, decide_eq_true_eq, Option.map_none, Option.getD_none] at hc
    simp only [Safety.codesWithin, decide_eq_true_eq]
    omega
  refine ⟨widen _ h.1, ?_⟩
  obtain ⟨-, hw⟩ := h
  show s.pgn.waiting.all _ = true
  cases hq : s.pgn.waiting with
  | none => rfl
  | some c => rw [hq] at hw; exact widen c hw

theorem serveLimitsSet_served (p : List Byte) (s : State) : Served 50 s (serveLimitsSet p s) := by
  simp only [serveLimitsSet]
  split
  · simp
  next unset =>
  split
  · simp
  next inRange =>
  have unlimited : s.plp.limits = none := by simpa using unset
  refine answerStatus_served _ (Moves.trans (Move.power { s.plp with limits := some { pd := u16 p 0, imax := u16 p 2 } }
    (fun ⟨h1, _, h3, h4⟩ => ⟨h1, ?_, h3, h4⟩) (codesBounded_of_unlimited unlimited _)).moves (recompute_moves _ _))
  push Not at inRange
  simpa using ⟨inRange.1, inRange.2.1, inRange.2.2.1, inRange.2.2.2⟩

theorem hold_bounds {lo hi : Int} (h : lo ≤ hi) (x : Int) : lo ≤ hold lo hi x ∧ hold lo hi x ≤ hi := by
  unfold hold
  omega

theorem takeTemperature_moves (reading : Int) (s : State) : Moves s (takeTemperature reading s) := by
  have sampled : ∀ u : State, Moves u { u with plp :=
      { u.plp with sample := some (hold Config.minTemp Config.maxTemp reading), tempTicks := u.plp.tempTicks - Config.tempPeriod } } :=
    fun u => power_moves rfl fun ⟨h1, h2, _, h4⟩ =>
      ⟨h1, h2, by simpa using hold_bounds (by decide) reading, h4⟩
  have noted : Moves s (if hold Config.minTemp Config.maxTemp reading ≠ reading then
      s.withNotices ({ · with tempRange := true }) else s) := by
    split
    · exact withNotices_moves _ _
    · exact .refl
  simp only [takeTemperature]
  split
  · exact (noted.trans (sampled _)).trans (recompute_moves _ _)
  · exact noted.trans (sampled _)

/-- The tracked reference values are held within their ranges (R161). -/
theorem trackUpdate_bounds (d : Diode) (line : Line) (mb mp : Int) (ib ip : Nat) :
    (trackUpdate d line mb mp ib ip).ithRef ≤ 2047 ∧ 64 ≤ (trackUpdate d line mb mp ib ip).sRef
      ∧ (trackUpdate d line mb mp ib ip).sRef ≤ 8191 := by
  have ith : ∀ x, (hold 0 2047 x).toNat ≤ 2047 := fun x => by
    have := hold_bounds (lo := 0) (hi := 2047) (by decide) x
    omega
  have slope : ∀ x, 64 ≤ (hold 64 8191 x).toNat ∧ (hold 64 8191 x).toNat ≤ 8191 := fun x => by
    have := hold_bounds (lo := 64) (hi := 8191) (by decide) x
    omega
  exact ⟨ith _, slope _⟩

theorem track_moves {s : State} {a : TrackAcc} (h : Safety.PowerLoopInRange s → a.spaceCount ≤ Config.trackSamples
    ∧ a.peakCount < Config.trackSamples ∧ (a.ib = none → a.spaceCount = 0) ∧ (a.ip = none → a.peakCount = 0)) :
    Moves s { s with plp := { s.plp with track := a } } :=
  power_moves rfl fun hs => ⟨hs.1, hs.2.1, hs.2.2.1, hs.2.2.2.1, h hs⟩

theorem completeTracking_moves (key : Option Key) (a : TrackAcc) (s : State) : Moves s (completeTracking key a s) := by
  have emptied : Moves s { s with plp := { s.plp with track := TrackAcc.empty } } :=
    track_moves fun _ => ⟨Nat.zero_le _, Nat.zero_lt_succ _, fun _ => rfl, fun _ => rfl⟩
  simp only [completeTracking]
  split
  · exact emptied.trans (countEvent_moves ..)
  refine Moves.trans emptied ?_
  obtain ⟨ith, slope⟩ := trackUpdate_bounds s.plp.diode (diodeLine s.plp.diode s.plp.temp) a.meanSpace a.meanPeak (a.ib.getD 0)
    (a.ip.getD 0)
  have tracked : ∀ u : State, ∀ i s : Nat, i ≤ 2047 → 64 ≤ s ∧ s ≤ 8191 →
      Moves u { u with plp := { u.plp with diode := { u.plp.diode with ithRef := i, sRef := s } } } := by
    intro u i s hi hs
    refine power_moves rfl fun ⟨h1, h2, h3, h4⟩ => ⟨?_, h2, h3, h4⟩
    simp only [Diode.inRange, decide_eq_true_eq] at h1 ⊢
    exact ⟨hi, hs.1, hs.2, h1.2.2.2⟩
  have noted : ∀ (p : Prop) [Decidable p] (v : State), Moves v (if p then v.withNotices ({ · with diodeTrackLimit := true }) else v) := by
    intro p _ v
    split
    · exact withNotices_moves _ _
    · exact .refl
  split
  · exact ((tracked _ _ _ ith slope).trans (noted _ _)).trans (recompute_moves _ _)
  · exact (tracked _ _ _ ith slope).trans (noted _ _)

/-- A sample at or below the trip level leaves the accumulation within its counts; the 32nd peak sample completes it (R159). -/
theorem addPeak_counts {s : State} (h : Safety.PowerLoopInRange s) (m code : Nat) (more : (s.plp.track.addPeak m code).peakCount ≠ Config.trackSamples) :
    (s.plp.track.addPeak m code).spaceCount ≤ Config.trackSamples ∧ (s.plp.track.addPeak m code).peakCount < Config.trackSamples
      ∧ ((s.plp.track.addPeak m code).ib = none → (s.plp.track.addPeak m code).spaceCount = 0)
      ∧ ((s.plp.track.addPeak m code).ip = none → (s.plp.track.addPeak m code).peakCount = 0) := by
  obtain ⟨-, -, -, -, space, peak, noSpace, -⟩ := h
  simp only [TrackAcc.addPeak] at more ⊢
  split at more <;> [skip; split at more] <;> simp_all [TrackAcc.empty] <;> omega

theorem addSpace_counts {s : State} (h : Safety.PowerLoopInRange s) (m code : Nat) :
    (s.plp.track.addSpace m code).spaceCount ≤ Config.trackSamples ∧ (s.plp.track.addSpace m code).peakCount < Config.trackSamples
      ∧ ((s.plp.track.addSpace m code).ib = none → (s.plp.track.addSpace m code).spaceCount = 0)
      ∧ ((s.plp.track.addSpace m code).ip = none → (s.plp.track.addSpace m code).peakCount = 0) := by
  obtain ⟨-, -, -, -, space, peak, noSpace, noPeak⟩ := h
  simp only [TrackAcc.addSpace]
  split
  · next hib => exact ⟨by simp [noSpace hib], peak, nofun, noPeak⟩
  · next ib hib =>
    split
    · exact ⟨by simp, by simp [TrackAcc.empty], nofun, fun _ => rfl⟩
    · split
      · exact ⟨space, peak, noSpace, noPeak⟩
      · next short => exact ⟨by simp at short space ⊢; omega, peak, by simp [hib], noPeak⟩

theorem withPgn_moves (s : State) {g : Pgn} (hp : g.presented = s.pgn.presented) (hw : g.waiting = s.pgn.waiting) :
    Moves s { s with pgn := g } := generator_moves hp hw

theorem takeOffered_moves (o : OfferedSample) (reading : Nat) (s : State) : Moves s (takeOffered o reading s) := by
  have gone : Moves s { s with lsc := { s.lsc with offered := none } } := laser_moves s _ s.wgd
  simp only [takeOffered]
  split
  · exact settleCodes_moves s (gone.trans (raiseCause_moves _ _))
  · exact gone

/-- The ACTIVE write of a queue is its head, with the head's working copy. -/
theorem activeWrite_eq_some {q : Sgq} {e : Entry} {wc : WorkingCopy} :
    q.activeWrite = some (e, wc) ↔ q.queue.head? = some e ∧ e.state = .active ∧ e.copy = .strategy wc := by
  unfold Sgq.activeWrite
  cases q.queue with
  | nil => simp
  | cons x xs =>
    constructor
    · intro h
      simp only at h
      split at h
      · next ha =>
        split at h
        · next hc =>
          cases h
          exact ⟨rfl, ha, hc⟩
        · cases h
      · cases h
    · rintro ⟨hx, ha, hc⟩
      cases hx
      simp [ha, hc]

/-- The working copy of the ACTIVE write with its correction or tally changed within range. -/
theorem activeCopy_inRange {s : State} {e : Entry} {wc : WorkingCopy} (ha : s.sgq.activeWrite = some (e, wc))
    (h : Safety.RecordsInRange s) {running : Int} {tally : Nat} (hr : corrInRange wc.running = true → corrInRange running = true)
    (ht : wc.tally ≤ Config.maxOnTime → tally ≤ Config.maxOnTime) :
    Safety.copyInRange (.strategy { wc with running := running, tally := tally }) = true := by
  obtain ⟨hhead, -, hcopy⟩ := activeWrite_eq_some.1 ha
  have := copyInRange_of_mem h (List.mem_of_head? hhead)
  simp only [hcopy, Safety.copyInRange, Bool.and_eq_true, decide_eq_true_eq] at this ⊢
  obtain ⟨⟨⟨strat, running⟩, initial⟩, tally⟩ := this
  exact ⟨⟨⟨strat, hr running⟩, initial⟩, ht tally⟩

theorem correctionUpdate_moves {s : State} {e : Entry} {wc : WorkingCopy} (sum : Nat) (ha : s.sgq.activeWrite = some (e, wc)) :
    Moves s (correctionUpdate wc sum s) := by
  have corrected : ∀ limit : Bool, Moves s (s.withHead fun e =>
      { e with
        copy := .strategy { wc with
          running := hold (-Config.maxCorr) Config.maxCorr (wc.running + correctionStep sum wc.strat.dt s.cpt.settings.gain) }
        warnings := { e.warnings with corrLimit := e.warnings.corrLimit || limit } }) := fun limit =>
    withHead_moves (fun _ => rfl) fun h _ _ => activeCopy_inRange ha h
      (fun _ => by simpa [corrInRange] using hold_bounds (by decide) _) id
  have noted : ∀ (b : Prop) [Decidable b] (v : State), Moves v (if b then countEvent .corrLimit (some wc.key) 1 v else v) := by
    intro b _ v
    split
    · exact countEvent_moves ..
    · exact .refl
  simp only [correctionUpdate]
  split
  · exact ((corrected _).trans (noted _ _)).trans (recompute_moves _ _)
  · exact (corrected _).trans (noted _ _)

/-! ### The pulse generator -/

theorem warnShape_moves (s : State) : Moves s (warnShape s) := withHead_moves_of_copy (fun _ => rfl) fun _ => rfl

theorem countTimes_moves (ev : CounterEvent) (key : Option Key) (n : Nat) (s : State) : Moves s (countTimes ev key n s) := by
  induction n generalizing s with
  | zero => exact .refl
  | succ n ih => exact (countEvent_moves ..).trans (ih _)

theorem reportCollisions_moves (wc : WorkingCopy) (shape : Bool) (n : Nat) (s : State) : Moves s (reportCollisions wc shape n s) := by
  refine Moves.trans ?_ (countTimes_moves _ _ _ _)
  split
  · exact warnShape_moves s
  · exact .refl

theorem addPulse_moves (wc : WorkingCopy) (rise : Int) (width : Nat) (s : State) : Moves s (addPulse wc rise width s) := by
  refine Moves.trans ?_ (reportCollisions_moves _ _ _ _)
  exact withPgn_moves s rfl rfl

theorem buildTrain_moves (wc : WorkingCopy) (start : Int) (n : Nat) (s : State) : Moves s (buildTrain wc start n s) := by
  refine Moves.trans ?_ (reportCollisions_moves _ _ _ _)
  exact withPgn_moves s rfl rfl

theorem openLong_moves (wc : WorkingCopy) (start : Int) (s : State) : Moves s (openLong wc start s) := by
  refine Moves.trans (Moves.trans ?_ (reportCollisions_moves _ _ _ _)) (countEvent_moves ..)
  exact withPgn_moves s rfl rfl

theorem closeLong_moves (wc : WorkingCopy) (start : Int) (n : Nat) (s : State) : Moves s (closeLong wc start n s) := by
  refine Moves.trans (addPulse_moves wc (start + 32 * ((n : Int) - 1)) wc.strat.tl s) ?_
  exact withPgn_moves _ rfl rfl

theorem growMark_moves (wc : WorkingCopy) (i m : Nat) (s : State) : Moves s (growMark wc i m s) := by
  unfold growMark
  split
  · exact .refl
  · split
    · exact openLong_moves wc _ s
    · exact addPulse_moves wc _ _ s

theorem endMark_moves (wc : WorkingCopy) (i n : Nat) (s : State) : Moves s (endMark wc i n s) := by
  have ended : Moves s { s with pgn := { s.pgn with lastEnd := some i } } := withPgn_moves s rfl rfl
  refine ended.trans ?_
  simp only [endMark]
  split
  · exact (warnShape_moves _).trans (countEvent_moves ..)
  · split
    · exact buildTrain_moves wc _ n _
    · exact closeLong_moves wc _ n _

theorem beginMark_codes (i : Nat) (g : Pgn) : (g.beginMark i).presented = g.presented ∧ (g.beginMark i).waiting = g.waiting := by
  obtain ⟨e, -, -, h⟩ | ⟨-, h⟩ := beginMark_cases i g <;> rw [h] <;> exact ⟨rfl, rfl⟩

theorem readT_moves (wc : WorkingCopy) (wdata : Bool) (s : State) : Moves s (readT wc wdata s) := by
  have counted : Moves s { s with pgn := { s.pgn with read := s.pgn.read + 1 } } := withPgn_moves s rfl rfl
  simp only [readT]
  split
  · split
    · refine Moves.trans ?_ (growMark_moves _ _ _ _)
      exact withPgn_moves s rfl rfl
    · exact withPgn_moves s rfl rfl
  · exact withPgn_moves s (beginMark_codes _ _).1 (beginMark_codes _ _).2
  · split
    · refine Moves.trans ?_ (endMark_moves _ _ _ _)
      exact withPgn_moves s rfl rfl
    · exact withPgn_moves s rfl rfl
  · exact withPgn_moves s rfl rfl

theorem boundary_moves (wdata : Bool) (s : State) : Moves s (boundary wdata s) := by
  obtain ⟨h, -⟩ | ⟨-, e, wc, -, ⟨-, h⟩ | ⟨-, h⟩⟩ := boundary_cases wdata s <;> rw [h]
  · exact withPgn_moves s rfl rfl
  · exact readT_moves wc wdata s

theorem boundaries_moves (wdata : Bool) (n : Nat) (s : State) : Moves s (boundaries wdata n s) := by
  induction n generalizing s with
  | zero => exact .refl
  | succ n ih => exact (boundary_moves wdata s).trans (ih _)

/-! ### The tick -/

theorem tickQueue_moves (s : State) : Moves s (tickQueue s) := by
  simp only [tickQueue]
  refine Moves.trans ?_ (countEvent_moves ..)
  split
  · next e wc ha =>
    refine Moves.trans ?_ (countEvent_moves ..)
    exact withHead_moves (fun _ => rfl) fun h _ _ => activeCopy_inRange ha h id fun _ => Nat.min_le_left _ _
  · exact .refl

theorem tickTimers_moves (s : State) : Moves s (tickTimers s) := by
  refine Moves.trans (laser_moves s { s.lsc with settle := s.lsc.settle.map (· - 1) } s.wgd.tick) ?_
  refine Moves.trans (pickup_moves_of_counts (k :=
    { s.pkp with
      jumpTimer := s.pkp.jumpTimer.map (· - 1), wobMarks := s.pkp.wobMarks + s.pkp.tickMarks, halfPassed := false
      fjStrobe := false }) rfl rfl rfl (by simp) id fun h => ⟨h, id⟩) ?_
  exact power_moves (p := { s.plp with tempTicks := s.plp.tempTicks + 1 }) rfl id

/-! ### The laser and the gate -/

theorem lsc_moves (s : State) (l : Lsc) : Moves s { s with lsc := l } := laser_moves s l s.wgd

theorem wgd_moves (s : State) (w : Wgd) : Moves s { s with wgd := w } := laser_moves s s.lsc w

theorem serveLaserOn_served (p : List Byte) (s : State) : Served 80 s (serveLaserOn p s) := by
  unfold serveLaserOn
  split
  · simp
  split
  · simp
  split
  · simp
  split
  · simp
  exact answerStatus_served _ (settleCodes_moves s (lsc_moves s _))

theorem serveLaserOff_served (p : List Byte) (s : State) : Served 81 s (serveLaserOff p s) := by
  have off : Served 81 s (answerStatus 81 .ok (settleCodes s (laserToOff s))) :=
    answerStatus_served _ (settleCodes_moves s (lsc_moves s _))
  unfold serveLaserOff
  split
  · simp
  · split
    · exact off
    · simp
  · split
    · exact off
    · simp
  · simp
  · exact off

theorem serveHoldClear_served (p : List Byte) (s : State) : Served 82 s (serveHoldClear p s) := by
  unfold serveHoldClear
  split
  · split
    · simp
    · split
      · exact answerStatus_served _ (settleCodes_moves s (lsc_moves s _))
      · exact answerStatus_served _ (settleCodes_moves s (lsc_moves s _))
  · split
    · simp
    · split
      · simp
      · exact answerStatus_served _ (lsc_moves s _)
  · simp
  · simp
  · simp

theorem serveSupplyAck_served (p : List Byte) (s : State) : Served 83 s (serveSupplyAck p s) := by
  unfold serveSupplyAck
  split
  · simp
  · exact answerStatus_served _ (wgd_moves s _)

theorem keepSample_moves (o : Option OfferedSample) (s : State) : Moves s (keepSample o s) := by
  obtain ⟨-, h⟩ | ⟨o, -, h⟩ := keepSample_cases o s <;> rw [h]
  exact lsc_moves s _

theorem enterWrite_moves (s : State) : Moves s (enterWrite s) := by
  have head : Moves s (s.withHead ({ · with state := .active })) := withHead_moves_of_copy (fun _ => rfl) fun _ => rfl
  refine Moves.trans (head.trans (closeWritePeriod_moves _)) ?_
  refine Moves.trans (withPgn_moves _ (g := { (closeWritePeriod (s.withHead ({ · with state := .active }))).pgn with level := .space })
    rfl rfl) ?_
  exact laser_moves _ _ _

theorem observeGate_moves (s : State) (b : Bool) : Moves s (s.observeGate b) := lines_moves s _

theorem serveQueueAbort_served (p : List Byte) (s : State) : Served 97 s (serveQueueAbort p s) := by
  unfold serveQueueAbort
  refine answer_served _ _ (settleCodes_moves s (Moves.trans ?_ (flush_moves _ _)))
  split
  · exact leaveWrite_moves _ _
  · exact .refl

theorem closeEntry_moves {s : State} {e : Entry} {wc : WorkingCopy} (he : e ∈ s.sgq.queue) (hc : e.copy = .strategy wc) :
    Moves s (closeEntry e wc s) := by
  simp only [closeEntry]
  refine Moves.trans ?_ (finishEntry_moves _ _ _)
  have written := fullWriteBack_moves wc e.warnings.corrLimit s ⟨e, he, hc⟩
  have noted : ∀ (b : Bool) (f : Notices → Notices) (v : State), Moves v (if b = true then v.withNotices f else v) := by
    intro b f v
    cases b
    · exact .refl
    · exact withNotices_moves _ _
  have counted : ∀ (b : Bool) (ev : CounterEvent) (v : State), Moves v (if b = true then countEvent ev (some wc.key) 1 v else v) := by
    intro b ev v
    cases b
    · exact .refl
    · exact countEvent_moves ..
  exact (written.trans (noted _ _ _)).trans (counted _ _ _)

/-! ### The port -/

theorem serveNoticesRead_served (p : List Byte) (s : State) : Served 130 s (serveNoticesRead p s) :=
  answer_served _ _ (withNotices_moves _ _)

theorem act_moves (s : State) (a : List Counter) : Moves s { s with act := a } := report_moves rfl rfl

theorem serveCounterSet_served (p : List Byte) (s : State) : Served 112 s (serveCounterSet p s) := by
  unfold serveCounterSet
  split
  · simp
  split
  · simp
  split
  · simp
  exact answerStatus_served _ (act_moves s _)

theorem serveCounterRead_served (p : List Byte) (s : State) : Served 113 s (serveCounterRead p s) := by
  unfold serveCounterRead
  split
  · simp
  exact answer_served _ _ (act_moves s _)

theorem hold_toNat {lo hi : Nat} (h : lo ≤ hi) (x : Int) : lo ≤ (hold lo hi x).toNat ∧ (hold lo hi x).toNat ≤ hi := by
  have := hold_bounds (Int.ofNat_le.2 h) x
  omega

/-- Settings offered and held, or kept, are in range (R197). -/
theorem select_inRange {s : State} (n : Nat) (p : List Byte) (h : Safety.SettingsInRange s) (c : Cpt)
    (hc : c.settings = Settings.select n (offeredSettings p) s.cpt.settings) : Safety.SettingsInRange { s with cpt := c } := by
  have pick : ∀ {α : Type} (P : α → Prop) (b : Bool) (x y : α), P x → P y → P (if b = true then x else y) := by
    intro α P b x y hx hy
    cases b
    · exact hy
    · exact hx
  obtain ⟨h1, h2, h3, h4, h5, h6, h7, h8, h9, h10, h11⟩ := h
  simp only [Safety.SettingsInRange, hc, Settings.select]
  refine ⟨pick (· ≤ 15) _ _ _ (hold_toNat (lo := 0) (hi := 15) (by decide) _).2 h1,
    pick (fun x => 2 ≤ x ∧ x ≤ 8) _ _ _ (hold_toNat (lo := 2) (hi := 8) (by decide) _) h2,
    pick (· ≤ 3) _ _ _ (hold_toNat (lo := 0) (hi := 3) (by decide) _).2 h3,
    pick (· ≤ 160) _ _ _ (hold_toNat (lo := 0) (hi := 160) (by decide) _).2 h4,
    pick (fun x => 1 ≤ x ∧ x ≤ 16) _ _ _ (hold_toNat (lo := 1) (hi := 16) (by decide) _) h5,
    pick (fun x => 2 ≤ x ∧ x ≤ 30) _ _ _ (hold_toNat (lo := 2) (hi := 30) (by decide) _) h6,
    pick (· ≤ 3) _ _ _ (hold_toNat (lo := 0) (hi := 3) (by decide) _).2 h7,
    pick (fun x => 1 ≤ x ∧ x ≤ 20) _ _ _ (hold_toNat (lo := 1) (hi := 20) (by decide) _) h8,
    pick (fun x => -160 ≤ x ∧ x ≤ 400) _ _ _ (hold_bounds (lo := -160) (hi := 400) (by decide) _) h9,
    pick (· ≤ 63) _ _ _ (hold_toNat (lo := 0) (hi := 63) (by decide) _).2 h10,
    pick (· ≤ 255) _ _ _ (u8_le p 14) h11⟩

theorem serveSettings_served (p : List Byte) (s : State) : Served 128 s (serveSettings p s) := by
  simp only [serveSettings]
  split
  · simp
  refine answer_served _ _ (Moves.trans ?_ (recompute_moves _ _))
  exact (Move.settings _ fun h => select_inRange (u16 p 0) p h _ rfl).moves

/-! ### Resets -/

/-- The blocks beside the two tables go through SOFT_RESET block by block, with the port idle. -/
theorem softReset_blocks_moves (l : Lines) {u : State} (idle : u.cpt.port = .idle) :
    Moves u { u with
      rse := Rse.reset, sgq := Sgq.reset, flk := Flk.reset, pkp := u.pkp.softReset, pgn := u.pgn.closed, plp := u.plp.softReset
      lsc := Lsc.reset, wgd := { u.wgd with keepalive := none, tickTaken := false }, lines := l } := by
  have queue : Moves u { u with rse := Rse.reset, sgq := Sgq.reset } :=
    .tail (.single (.engine Rse.reset
        (fun p => ⟨by simp [Safety.servedCode, idle, Rse.reset, Safety.hostLookup], fun _ => rfl, Nat.zero_le _, nofun, p.quiet, p.reads⟩)
        fun _ _ => rfl))
      (.queue Sgq.reset (List.nil_sublist _) (fun _ => rfl) nofun)
  have pickup : Moves u { u with rse := Rse.reset, sgq := Sgq.reset, flk := Flk.reset, pkp := u.pkp.softReset } :=
    .tail (queue.tail (.link Flk.reset fun _ => reset_linkHolds)) (.pickup u.pkp.softReset none fun ⟨h1, _, _, h4, h5, _, _⟩ =>
      ⟨h1, Nat.zero_le _, rfl, h4, h5, ⟨nofun, nofun⟩, nofun⟩)
  have generator : Moves u { u with
      rse := Rse.reset, sgq := Sgq.reset, flk := Flk.reset, pkp := u.pkp.softReset, pgn := u.pgn.closed } :=
    pickup.tail (.generator u.pgn.closed fun _ => ⟨by simp [Pgn.closed, Pgn.reset, Safety.codesWithin, CodeSet.zero], rfl⟩)
  have power : Moves u { u with
      rse := Rse.reset, sgq := Sgq.reset, flk := Flk.reset, pkp := u.pkp.softReset, pgn := u.pgn.closed, plp := u.plp.softReset } :=
    generator.trans (power_moves (p := u.plp.softReset) rfl fun ⟨h1, h2, h3, _⟩ =>
      ⟨h1, h2, h3, Nat.zero_lt_succ _, Nat.zero_le _, Nat.zero_lt_succ _, fun _ => rfl, fun _ => rfl⟩)
  exact .tail (power.tail (.laser Lsc.reset { u.wgd with keepalive := none, tickTaken := false })) (.lines l)

theorem serveSoftReset_served (found : FoundLines) (p : List Byte) (s : State) (idle : s.cpt.port = .idle) :
    Served 132 s (serveSoftReset found p s) :=
  answerStatus_served _ ((((softReset_tables_moves s).trans (softReset_blocks_moves (foundLines found) idle)).tail .silence).trans
    (report_moves rfl rfl))

/-! ### The events of the part -/

/-- One event, or a part of one: a move, a change at the port, an event that ends with the arbiter's choice, or a reset from outside. -/
inductive Event (s : State) : State → Prop
  | move {t : State} (m : Move s t) : Event s t
  | port (c : Cpt) (hs : c.settings = s.cpt.settings) (h : PortServes s → PortServes { s with cpt := c }) : Event s { s with cpt := c }
  | arbitrated (c : Cpt) (r : Rse) (u : State) (hs : c.settings = s.cpt.settings)
      (h : PortServes s → PortServes { s with cpt := c, rse := r }) (m : Moves { s with cpt := c, rse := r } u) : Event s (arbiter u)
  | hardReset (c : Cpt) (w : Wgd) (l : Lines) (hs : c.settings = Settings.default)
      (h : PortServes { s with cpt := c, rse := Rse.reset }) :
      Event s { State.reset with wgd := w, pgn := s.pgn.closed, cpt := c, lines := l, pending := s.pending }

/-- A row of events. -/
abbrev Events : State → State → Prop := Relation.ReflTransGen fun s t => Event s t

theorem Moves.events {s t : State} (m : Moves s t) : Events s t := Relation.ReflTransGen.mono (fun _ _ h => Event.move h) _ _ m

theorem Events.trans {s t u : State} (h : Events s t) (h' : Events t u) : Events s u := Relation.ReflTransGen.trans h h'

theorem freePlace_frame (i : Nat) (s : State) : ∃ ps ms, freePlace i s = { s with stb := ps, mst := ms } := by
  unfold freePlace
  split <;> exact ⟨_, _, rfl⟩

theorem superseded_eq (k : Key) (s : State) : superseded k s = s ∨ ∃ j, usableRecord s.stb k = some j ∧ superseded k s = leaveService j s := by
  unfold superseded
  split
  · next j hj => exact .inr ⟨j, hj, rfl⟩
  · exact .inl rfl

/-- A promotion changes the tables alone. -/
theorem promoted_frame (k : Key) (i : Nat) (f : Record → Record) (s : State) :
    ∃ ps ms, (superseded k s).withRecord i f = { s with stb := ps, mst := ms } := by
  obtain e | ⟨j, -, e⟩ := superseded_eq k s <;> rw [e]
  · exact ⟨_, _, rfl⟩
  obtain h | h | ⟨f, h, -⟩ := leaveService_eq j s <;> rw [h]
  · exact ⟨_, _, rfl⟩
  · obtain ⟨ps, ms, h⟩ := freePlace_frame j s
    exact ⟨_, _, by rw [h]; rfl⟩
  · exact ⟨_, _, rfl⟩

/-- No move gives or takes a response. -/
theorem Move.port {s t : State} (m : Move s t) : t.cpt.port = s.cpt.port := by
  cases m with
  | report c a h => exact congrArg (·.2.1) h
  | free i =>
    obtain ⟨ps, ms, e⟩ := freePlace_frame i s
    rw [e]
  | promote i r =>
    obtain ⟨ps, ms, e⟩ := promoted_frame r.key i ({ · with state := .active }) s
    rw [e]
  | _ => rfl

theorem Moves.port {s t : State} (m : Moves s t) : t.cpt.port = s.cpt.port :=
  m.keep (P := fun u => u.cpt.port = s.cpt.port) (fun _ _ h hu => h.port.trans hu) rfl

/-- An idle port serves no lookup, holds no busy reply and is not being emptied. -/
theorem PortServes.of_idle {s : State} (h : PortServes s) (idle : s.cpt.port = .idle) :
    Safety.hostLookup s.rse = none ∧ s.cpt.busyReply = none ∧ ∀ r ∈ s.cpt.reading, r.acts ≠ .response := by
  refine ⟨?_, h.quiet idle, fun r hr acts => ?_⟩
  · have := h.served
    simpa [Safety.servedCode, idle] using this.symm
  · obtain ⟨ready, -⟩ := h.reads r hr acts
    rw [idle] at ready
    cases ready

theorem answer_events (code : Byte) (st : Status) (p : List Byte) {s : State} (idle : s.cpt.port = .idle) : Events s (answer code st p s) := by
  refine .single (.port { s.cpt with port := .responseReady { status := st, code, payload := p } } rfl fun h => ?_)
  obtain ⟨none, -, reads⟩ := h.of_idle idle
  exact ⟨by simp [Safety.servedCode, none], h.fresh, h.count, h.behind, nofun, fun r hr acts => absurd acts (reads r hr)⟩

theorem Served.events {code : Byte} {s t : State} (idle : s.cpt.port = .idle) (h : Served code s t) : Events s t := by
  cases h with
  | reply st p => exact answer_events code st p idle
  | done u p m => exact m.events.trans (answer_events code .ok p (m.port.trans idle))
  | joined r hr =>
    refine .single (.arbitrated { s.cpt with port := .serving code } { s.rse with waiting := some r, waitCount := 0 } _ rfl
      (fun h => ?_) .refl)
    obtain ⟨none, -, reads⟩ := h.of_idle idle
    refine ⟨by simp [Safety.servedCode, Safety.hostLookup, hr], nofun, Nat.zero_le _, fun _ => ?_, nofun,
      fun r hr acts => absurd acts (reads r hr)⟩
    cases hf : s.rse.inFlight with
    | idle => exact .inl rfl
    | segment | gone => exact .inr ⟨by unfold Safety.segmentInFlight; simp only [hf], Nat.zero_le _⟩
    | host q => cases hw : s.rse.waiting <;> simp [Safety.hostLookup, hf, hw] at none

theorem endWrite_events (b : Byte) (body : List Byte) {s t : State} (h : Events s t) : Events s (endWrite b body t) :=
  h.tail (.port _ rfl fun p => ⟨p.served, p.fresh, p.count, p.behind, p.quiet, nofun⟩)

/-- A request that a port not IDLE drops leaves its code in the busy reply (R190). -/
theorem dropped_events (code b : Byte) (body : List Byte) {s : State} (busy : s.cpt.port ≠ .idle) :
    Events s (endWrite b body { s with cpt := { s.cpt with busyReply := some code } }) :=
  .single (.port
    { s.cpt with busyReply := some code, reading := none, writing := none, spiOut := b :: List.replicate body.length 0 } rfl
    fun p => ⟨p.served, p.fresh, p.count, p.behind, fun idle => absurd idle busy, nofun⟩)

/-- A request write is a row of events when what takes it is. -/
theorem transaction_events (code : Byte) (w : HostWrite) {take : List Byte → State → State} (s : State)
    (h : ∀ b body, Events s (endWrite b body (take body s))) : Events s (transaction code w take s) := by
  obtain ⟨-, e⟩ | ⟨body, b, -, e⟩ | e := transaction_cases code w take s <;> rw [e]
  · exact .single (.port { s.cpt with reading := none, writing := some { code, statusByte := s.cpt.statusByte } } rfl
      fun p => ⟨p.served, p.fresh, p.count, p.behind, p.quiet, nofun⟩)
  · exact h b body

/-- A request is a row of events when the idle port serves it. -/
theorem request_events (code : Byte) (len : Nat) (w : HostWrite) {serve : List Byte → State → State} (s : State)
    (h : ∀ p, s.cpt.port = .idle → Served code s (serve p s)) : Events s (request code len w serve s) := by
  refine transaction_events code w s fun b body => ?_
  unfold takeRequest
  split
  · next idle =>
    refine endWrite_events b body ?_
    split
    · exact (h _ idle).events idle
    · exact answer_events code .badLength [] idle
  · next busy => exact dropped_events code b body busy

theorem lookupDone_rse (s : State) : (lookupDone s).rse =
    { s.rse with inFlight := .idle, waitCount := if s.rse.waiting.isSome then s.rse.waitCount + 1 else s.rse.waitCount } := rfl

/-- A segment lookup ends: nothing is left in flight until the arbiter chooses (R39). -/
theorem lookupDone_events {s u : State} (h : Safety.segmentInFlight s.rse = true) (m : Moves (lookupDone s) u) : Events s (arbiter u) := by
  refine .single (.arbitrated s.cpt (lookupDone s).rse u rfl (fun p => ⟨?_, fun none => ?_, ?_, fun _ => .inl rfl, p.quiet, p.reads⟩) m)
  · refine p.served.trans (congrArg _ ?_)
    unfold Safety.segmentInFlight at h
    cases hw : s.rse.waiting with
    | some q => simp [Safety.hostLookup, lookupDone_rse, hw]
    | none => cases hf : s.rse.inFlight <;> simp [Safety.hostLookup, lookupDone_rse, hw, hf] at h ⊢
  · have none : s.rse.waiting = .none := none
    simpa [lookupDone_rse, none] using p.fresh none
  · have := p.count
    have idle : s.rse.inFlight ≠ .idle := fun idle => by simp [Safety.segmentInFlight, idle] at h
    rw [lookupDone_rse]
    simp only
    split
    · next waits =>
      have := (p.behind waits).resolve_left idle
      omega
    · exact this

/-- The completion of a host lookup: its answer, and the arbiter's choice (R36). -/
theorem hostDone_events (code : Byte) (p : List Byte) {s u : State} {q : HostLookup} (m : Moves s u) (h : u.rse.inFlight = .host q) :
    Events s (hostDone code p u) := by
  refine m.events.trans (.single (.arbitrated { u.cpt with port := .responseReady { status := .ok, code, payload := p } }
    { u.rse with inFlight := .idle } _ rfl (fun h' => ?_) .refl))
  have none : u.rse.waiting = none := by
    by_contra some
    have := (h'.behind (Option.isSome_iff_ne_none.2 some)).resolve_left (by simp [h])
    simp [Safety.segmentInFlight, h] at this
  have serving : Safety.servedCode u.cpt = .some (Safety.lookupCode q) := by
    rw [h'.served]; simp [Safety.hostLookup, none, h]
  refine ⟨by simp [Safety.servedCode, Safety.hostLookup, none], h'.fresh, h'.count, fun _ => .inl rfl, nofun, fun r hr acts => ?_⟩
  obtain ⟨ready, -⟩ := h'.reads r hr acts
  simp [Safety.servedCode, ready] at serving

theorem serveMediaRead_served (p : List Byte) (s : State) : Served 21 s (serveMediaRead p s) := by
  unfold serveMediaRead
  split <;> simp

/-- The release of a read that acts on what the port holds. -/
theorem releaseRead_events {s : State} {r : FixedRead} (n : Nat)
    (h : PortServes s → r.acts = .response → s.cpt.port = .responseReady r.frame ∧ s.cpt.busyReply = none) :
    Events s { s with cpt := releaseRead r n s.cpt } := by
  refine .single (.port _ ?_ fun p => ?_)
  · unfold releaseRead
    simp only
    split
    · split <;> rfl
    · rfl
  · have same : PortServes { s with cpt := { s.cpt with reading := none, writing := none, spiOut := r.out n } } :=
      ⟨p.served, p.fresh, p.count, p.behind, p.quiet, nofun⟩
    unfold releaseRead
    simp only
    split
    · split
      · exact ⟨p.served, p.fresh, p.count, p.behind, fun _ => rfl, nofun⟩
      · next acts =>
        obtain ⟨ready, quiet⟩ := h p acts
        have none := p.served
        simp only [Safety.servedCode, ready] at none
        exact ⟨by rw [← none]; rfl, p.fresh, p.count, p.behind, fun _ => quiet, nofun⟩
      · exact same
    · exact same

/-- A read that its first byte fixes, or that is taken whole, acts on what the port holds. -/
theorem fixRead_acts (c : Cpt) (h : c.fixRead.acts = .response) : c.port = .responseReady c.fixRead.frame ∧ c.busyReply = none := by
  unfold Cpt.fixRead at h ⊢
  split at h
  · cases h
  · next hb hp => exact ⟨hp, hb⟩
  · cases h
  · cases h

theorem responseRead_events (phase : ReadPhase) (s : State) : ∃ t, exec (.responseRead phase) s = .next t ∧ Events s t := by
  simp only [exec, execResponseRead]
  split
  · refine ⟨_, rfl, .single (.port _ rfl fun p => ⟨p.served, p.fresh, p.count, p.behind, p.quiet, fun r hr acts => ?_⟩)⟩
    cases hr
    exact fixRead_acts s.cpt acts
  · split
    · next r hr => exact ⟨_, rfl, releaseRead_events _ fun p acts => p.reads r hr acts⟩
    · exact ⟨_, rfl, .refl⟩
  · split
    · exact ⟨_, rfl, .refl⟩
    · exact ⟨_, rfl, releaseRead_events _ fun _ => fixRead_acts s.cpt⟩

/-! ### Every command -/

/-- Every command answers a next state, which a row of events leads to. -/
theorem exec_events (c : Instr) (s : State) : ∃ t, exec c s = .next t ∧ Events s t := by
  have requested : ∀ (code : Byte) (len : Nat) (w : HostWrite) (serve : List Byte → State → State), (∀ p, Served code s (serve p s)) →
      ∃ t, Host.Outcome.next (φ := Fault) (ρ := Refusal) (request code len w serve s) = .next t ∧ Events s t :=
    fun code len w serve h => ⟨_, rfl, request_events code len w s fun p _ => h p⟩
  have moved : ∀ {u : State}, Moves s u → ∃ t, Host.Outcome.next (φ := Fault) (ρ := Refusal) u = .next t ∧ Events s t :=
    fun h => ⟨_, rfl, h.events⟩
  have settled : ∀ {u : State}, Moves s u →
      ∃ t, Host.Outcome.next (φ := Fault) (ρ := Refusal) (settleCodes s u) = .next t ∧ Events s t :=
    fun h => moved (settleCodes_moves s h)
  have still : ∃ t, Host.Outcome.next (φ := Fault) (ρ := Refusal) s = .next t ∧ Events s t := ⟨s, rfl, .refl⟩
  have pgn : ∀ (g : Pgn), g.presented = s.pgn.presented → g.waiting = s.pgn.waiting → Moves s { s with pgn := g } :=
    fun g hp hw => generator_moves hp hw
  cases c with
  | mediaInstall w => exact requested _ _ w _ (serveMediaInstall_served · s)
  | mediaAmend w => exact requested _ _ w _ (serveMediaAmend_served · s)
  | mediaMount w => exact requested _ _ w _ (serveMediaMount_served · s)
  | mediaUnmount w => exact requested _ _ w _ (serveMediaUnmount_served · s)
  | mediaRetire w => exact requested _ _ w _ (serveMediaRetire_served · s)
  | mediaRead w => exact requested _ _ w _ (serveMediaRead_served · s)
  | recInstall w => exact requested _ _ w _ (serveRecInstall_served · s)
  | recAmend w => exact requested _ _ w _ (serveRecAmend_served · s)
  | recPromote w => exact requested _ _ w _ (serveRecPromote_served · s)
  | recRetire w => exact requested _ _ w _ (serveRecRetire_served · s)
  | recRetireMatch w => exact requested _ _ w _ (serveRecRetireMatch_served · s)
  | recRead w => exact requested _ _ w _ (serveRecRead_served · s)
  | recFind w => exact requested _ _ w _ (serveRecFind_served · s)
  | recScan w => exact requested _ _ w _ (serveRecScan_served · s)
  | diodeSet w => exact requested _ _ w _ (serveDiodeSet_served · s)
  | diodeRead w => exact requested _ _ w _ fun p => answer_served_ok _ _ s
  | limitsSet w => exact requested _ _ w _ (serveLimitsSet_served · s)
  | zoneMap w => exact requested _ _ w _ (serveZoneMap_served · s)
  | speedMap w => exact requested _ _ w _ (serveSpeedMap_served · s)
  | pickupRead w => exact requested _ _ w _ fun p => answer_served_ok _ _ s
  | laserOn w => exact requested _ _ w _ (serveLaserOn_served · s)
  | laserOff w => exact requested _ _ w _ (serveLaserOff_served · s)
  | holdClear w => exact requested _ _ w _ (serveHoldClear_served · s)
  | supplyAck w => exact requested _ _ w _ (serveSupplyAck_served · s)
  | queueRead w => exact requested _ _ w _ fun p => answer_served_ok _ _ s
  | queueAbort w => exact requested _ _ w _ (serveQueueAbort_served · s)
  | counterSet w => exact requested _ _ w _ (serveCounterSet_served · s)
  | counterRead w => exact requested _ _ w _ (serveCounterRead_served · s)
  | settings w => exact requested _ _ w _ (serveSettings_served · s)
  | status w => exact requested _ _ w _ fun p => answer_served_ok _ _ s
  | noticesRead w => exact requested _ _ w _ (serveNoticesRead_served · s)
  | ident w => exact requested _ _ w _ fun p => answer_served_ok _ _ s
  | softReset r => exact ⟨_, rfl, request_events _ _ r.write s (serveSoftReset_served r.found · s)⟩
  | unknownRequest code w =>
    refine ⟨_, rfl, transaction_events code w s fun b body => ?_⟩
    split
    · next idle => exact endWrite_events b body (answer_events code .unknownRequest [] idle)
    · next busy => exact dropped_events code b body busy
  | responseRead phase => exact responseRead_events phase s
  | powerOnReset f =>
    exact ⟨_, rfl, .single (.hardReset Cpt.reset State.reset.wgd (foundLines f) rfl
      ⟨rfl, fun _ => rfl, Nat.zero_le _, nofun, fun _ => rfl, nofun⟩)⟩
  | pinReset f =>
    exact ⟨_, rfl, .single (.hardReset { Cpt.reset with notices := Notices.afterReset .pin, lastReset := .pin }
      { keepalive := none, tickTaken := false, supplyWarn := s.wgd.supplyWarn } (foundLines f) rfl
      ⟨rfl, fun _ => rfl, Nat.zero_le _, nofun, fun _ => rfl, nofun⟩)⟩
  | seg b1 b2 b3 b4 => exact moved (receive_moves _ s)
  | cancel b1 => exact moved (receive_moves _ s)
  | endMsg b1 => exact moved (receive_moves _ s)
  | linkMessageDiscarded m => exact moved (receive_moves _ s)
  | resyncIdleByte => exact moved (receiveByte_moves s 0)
  | segmentLookupCompletion =>
    simp only [exec, execSegmentLookupCompletion]
    split
    · next hf =>
      have segment : Safety.segmentInFlight s.rse = true := by simp [Safety.segmentInFlight, hf]
      split
      · exact ⟨_, rfl, (lookupDone_events segment (completeSegment_moves _ _)).trans (settleCodes_moves s .refl).events⟩
      · exact ⟨_, rfl, (lookupDone_events segment .refl).trans (settleCodes_moves s .refl).events⟩
    · next hf => exact ⟨_, rfl, lookupDone_events (by simp [Safety.segmentInFlight, hf]) .refl⟩
    · exact still
  | recFindCompletion =>
    simp only [exec, execRecFindCompletion]
    split
    · next hf => exact ⟨_, rfl, hostDone_events _ _ .refl hf⟩
    · exact still
  | recScanCompletion =>
    simp only [exec, execRecScanCompletion]
    split
    · next hf => exact ⟨_, rfl, hostDone_events _ _ .refl hf⟩
    · exact still
  | recRetireMatchCompletion =>
    simp only [exec, execRecRetireMatchCompletion]
    split
    · next hf => exact ⟨_, rfl, hostDone_events _ _ (matchesRetired_moves _ s) ((congrArg Rse.inFlight (matchesRetired_rse _ s)).trans hf)⟩
    · exact still
  | wgateRise =>
    simp only [exec, execWgateRise]
    have observed := observeGate_moves s true
    split
    · exact moved observed
    · exact moved observed
    · split
      · exact settled (observed.trans (enterWrite_moves _))
      · exact settled (observed.trans (raiseCause_moves _ _))
    · exact settled (observed.trans (raiseCause_moves _ _))
    · exact settled (observed.trans (raiseCause_moves _ _))
  | wgateFall =>
    simp only [exec, execWgateFall]
    have observed := observeGate_moves s false
    split
    · refine settled (Moves.trans (observed.trans ?_) (leaveWrite_moves _ _))
      exact withHead_moves_of_copy (fun _ => rfl) fun _ => rfl
    · exact moved observed
  | writeBack =>
    simp only [exec, execWriteBack]
    split
    · next e rest hq =>
      split
      · split
        · next wc hc =>
          exact settled ((closeEntry_moves (by rw [hq]; exact List.mem_cons_self) hc).trans (goOn_moves _))
        · exact settled ((finishEntry_moves _ _ s).trans (goOn_moves _))
      · exact still
    · exact still
  | msTick => exact moved ((tickQueue_moves s).trans (tickTimers_moves _))
  | keepaliveExpiry =>
    simp only [exec, execKeepaliveExpiry]
    split
    · split
      · exact settled (raiseCause_moves _ s)
      · split
        · exact settled ((wgd_moves s _).trans (raiseCause_moves _ _))
        · exact still
    · exact still
  | keepStrobe =>
    simp only [exec, execKeepStrobe]
    split
    · split
      · exact settled (raiseCause_moves _ s)
      · exact moved (wgd_moves s _)
    · exact still
  | settleExpiry =>
    simp only [exec, execSettleExpiry]
    split
    · exact settled ((lsc_moves s _).trans (judgeAgain_moves _))
    · exact still
  | ldtripAssert =>
    exact moved ((settleCodes_moves s ((lines_moves s _).trans (raiseCause_moves _ _))).trans (keepSample_moves _ _))
  | ldwarnAssert => exact moved (((lines_moves s { s.lines with ldwarn := true }).trans (wgd_moves _ _)).trans (withNotices_moves _ _))
  | temperatureSample reading =>
    simp only [exec, execTemperatureSample]
    split
    · exact moved (takeTemperature_moves reading s)
    · exact still
  | markRead wdata count => exact moved (boundaries_moves wdata count s)
  | markStart =>
    simp only [exec, execMarkStart]
    split
    · exact still
    · split
      · refine moved ((Move.generator _ fun ⟨hp, hw⟩ => ⟨?_, rfl⟩).moves)
        cases hq : s.pgn.waiting with
        | none => simpa [hq] using hp
        | some c => rw [hq] at hw; simpa [hq] using hw
      · exact still
  | spaceSample =>
    simp only [exec, execSpaceSample]
    split
    · next later _ _ _ _ _ =>
      have taken := pgn { s.pgn with spaces := later, held := none } rfl rfl
      split
      · exact still
      · split
        · exact settled (taken.trans (raiseCause_moves _ _))
        · exact moved (taken.trans (track_moves (s := { s with pgn := { s.pgn with spaces := later, held := none } })
            fun h => addSpace_counts (s := s) h _ _))
    · split
      · exact moved (takeOffered_moves _ _ s)
      · exact still
    · exact still
  | peakSample reading =>
    simp only [exec, execPeakSample]
    split
    · next later _ _ _ =>
      have taken := pgn { s.pgn with peaks := later } rfl rfl
      split
      · exact still
      · split
        · exact settled (taken.trans (raiseCause_moves _ _))
        · split
          · exact moved (taken.trans (completeTracking_moves _ _ _))
          · next more =>
            exact moved (taken.trans (track_moves (s := { s with pgn := { s.pgn with peaks := later } })
              fun h => addPeak_counts (s := s) h _ _ more))
    · split
      · split
        · exact moved (takeOffered_moves _ _ s)
        · exact still
      · exact still
    · exact still
  | returnSample reading =>
    simp only [exec, execReturnSample]
    split
    · next e wc p later hlaser ha hreturns =>
      have taken := pgn { s.pgn with returns := later } rfl rfl
      split
      · exact still
      · split
        · have emptied := taken.trans (power_moves (p := { s.plp with returns := ReturnAcc.empty }) rfl
            fun ⟨h1, h2, h3, _, h5⟩ => ⟨h1, h2, h3, Nat.zero_lt_succ _, h5⟩)
          exact moved (emptied.trans (correctionUpdate_moves (s := { s with
            pgn := { s.pgn with returns := later }, plp := { s.plp with returns := ReturnAcc.empty } }) _ ha))
        · next more =>
          refine moved (taken.trans (power_moves (p :=
            { s.plp with returns := { sum := s.plp.returns.sum + reading, count := s.plp.returns.count + 1 } }) rfl
            fun ⟨h1, h2, h3, h4, h5⟩ => ⟨h1, h2, h3, ?_, h5⟩))
          simp at more h4 ⊢
          omega
    · exact still
  | sledStep sla slb shome =>
    have observed := lines_moves s { s.lines with sla := sla, slb := slb, shome := shome }
    refine moved (observed.trans ?_)
    split
    · exact .refl
    · exact stepOutward_moves _
    · exact stepInward_moves _ _
    · exact positionLost_moves _
  | wobPulse =>
    exact moved (pickup_moves_of_counts rfl rfl rfl rfl id fun _ => ⟨Nat.min_le_left _ _, id⟩)
  | measurementCompletion =>
    simp only [exec, execMeasurementCompletion]
    split
    · next k hk => exact settled ((complete_moves hk).trans (judgeAgain_moves _))
    · exact still
  | fokRise flay =>
    simp only [exec, execFokRise]
    have observed := lines_moves s { s.lines with fok := true, flay := flay }
    split
    · next hf =>
      refine settled (Moves.trans (observed.trans ?_) (judgeAgain_moves _))
      exact focus_moves (s := { s with lines := { s.lines with fok := true, flay := flay } }) (by simp [hf, Safety.jumping]) rfl
    · split
      · exact settled ((observed.trans (endJump_moves _ _ rfl)).trans (judgeAgain_moves _))
      · exact moved observed
    · exact moved observed
  | fokFall =>
    simp only [exec, execFokFall]
    have observed := lines_moves s { s.lines with fok := false }
    split
    · next hf => exact settled (observed.trans (loseFocus_moves _ (by simp [hf, Safety.jumping])))
    · exact moved observed
  | flayChange flay =>
    simp only [exec, execFlayChange]
    have observed := lines_moves s { s.lines with flay := flay }
    split
    · next hf =>
      split
      · exact settled (observed.trans (loseFocus_moves _ (by simp [hf, Safety.jumping])))
      · exact moved observed
    · exact moved observed
  | jumpTimerExpiry =>
    simp only [exec, execJumpTimerExpiry]
    split
    · refine moved (pickup_moves fun ⟨h1, h2, h3, h4, h5, _, _⟩ => ⟨h1, h2, h3, h4, h5, by simp [Safety.jumping], by simp⟩)
    · have ended := endJump_moves .unknown s rfl
      split
      · split
        · exact settled (ended.trans ((endEntry_moves _ _ _).trans (goOn_moves _)))
        · exact settled (ended.trans (judgeAgain_moves _))
      · exact moved ended
    · exact still
  | ldwarnDeassert => exact moved (lines_moves s _)
  | ldtripDeassert => exact moved (lines_moves s _)
  | linkBytePeriod rx =>
    refine moved ?_
    split
    · exact (transmitByte_moves s).trans (receiveByte_moves _ _)
    · exact transmitByte_moves s
  | outputLevelChange =>
    simp only [exec, execOutputLevelChange]
    split
    · exact still
    · split
      · exact moved (pgn _ rfl rfl)
      · exact still
  | spaceMidpointReading reading =>
    simp only [exec, execSpaceMidpointReading]
    split
    · split
      · exact moved (pgn _ rfl rfl)
      · exact still
    · split
      · exact moved (pgn _ rfl rfl)
      · exact still

end Sys2Proof.Machine
end

section
/-! SUPPORT. What every step keeps, from the moves: an invariant that each `Move` keeps is kept by every step. -/

namespace Sys2Proof.Machine

open Sys2Proof.Stated

/-! ### From moves to steps -/

/-- A state that a reset from outside leaves. -/
def IsReset (t : State) : Prop :=
  ∃ (s : State) (c : Cpt) (w : Wgd) (l : Lines), c.settings = Settings.default
    ∧ t = { State.reset with wgd := w, pgn := s.pgn.closed, cpt := c, lines := l, pending := s.pending }

/-- What the moves keep, what port and engine do not enter and what a reset brings about, a row of events keeps. -/
theorem Events.keep {P : State → Prop} (hmove : ∀ s t, Move s t → P s → P t)
    (hport : ∀ s c r, c.settings = s.cpt.settings → P s → P { s with cpt := c, rse := r }) (hreset : ∀ t, IsReset t → P t)
    {s t : State} (m : Events s t) (hs : P s) : P t := by
  induction m with
  | refl => exact hs
  | tail _ last ih =>
    cases last with
    | move m => exact hmove _ _ m ih
    | port c e => exact hport _ c _ e ih
    | arbitrated c r u e _ m => exact (arbiter_moves u).keep hmove (m.keep hmove (hport _ c r e ih))
    | hardReset c w l e => exact hreset _ ⟨_, c, w, l, e, rfl⟩

/-- What a command keeps whose waiting queue does not matter, a step keeps. -/
theorem step_keeps {P : State → Prop} (hexec : ∀ c s t, exec c s = .next t → P s → P t)
    (hpending : ∀ s is, P s → P { s with pending := is }) (s t : State) (h : P s) (ht : step s = .next t) : P t := by
  cases hq : s.pending with
  | nil =>
    rw [stepIdlesOnEmptyQueue s hq] at ht
    cases ht
    exact h
  | cons c rest =>
    have taken : step s = exec c { s with pending := rest } := by simp only [step, hq]
    exact hexec c _ t (taken.symm.trans ht) (hpending s rest h)

/-- What rows of events keep, a command keeps. -/
theorem exec_keeps {P : State → Prop} (hevents : ∀ s t, Events s t → P s → P t) (c : Instr) (s t : State) (ht : exec c s = .next t)
    (h : P s) : P t := by
  obtain ⟨u, hu, events⟩ := exec_events c s
  rw [hu] at ht
  cases ht
  exact hevents s _ events h

/-- An invariant that the moves keep, that port, engine and waiting commands do not enter and that a reset brings about. -/
theorem invariant {P : State → Prop} (hmove : ∀ s t, Move s t → P s → P t)
    (hport : ∀ s c r, c.settings = s.cpt.settings → P s → P { s with cpt := c, rse := r }) (hreset : ∀ t, IsReset t → P t)
    (hpending : ∀ s is, P s → P { s with pending := is }) (s t : State) (h : P s) (ht : step s = .next t) : P t :=
  step_keeps (exec_keeps fun _ _ events hs => events.keep hmove hport hreset hs) hpending s t h ht

/-- What freeing and tame changes keep, superseding keeps. -/
theorem superseded_keeps {P : State → Prop} (hfree : ∀ s i, P s → P (freePlace i s))
    (hplace : ∀ s i f, (∀ p, s.stb[i]? = some p → Tame s p (f p)) → P s → P (s.withPlace i f)) (k : Key) (s : State) (h : P s) :
    P (superseded k s) := by
  obtain e | ⟨j, -, e⟩ := superseded_eq k s <;> rw [e]
  · exact h
  obtain e | e | ⟨f, e, tame⟩ := leaveService_eq j s <;> rw [e]
  · exact h
  · exact hfree s _ h
  · exact hplace s _ f tame h

/-! ### The waiting commands, the link, the settings, pickup and power loop, and the codes -/

theorem move_keeps_pending (is : List Instr) (s t : State) (m : Move s t) (h : s.pending = is) : t.pending = is := by
  cases m with
  | free i =>
    obtain ⟨ps, ms, e⟩ := freePlace_frame i s
    rw [e]; exact h
  | promote i r =>
    obtain ⟨ps, ms, e⟩ := promoted_frame r.key i ({ · with state := .active }) s
    rw [e]; exact h
  | _ => exact h

theorem events_keep_pending {s t : State} (h : Events s t) : t.pending = s.pending := by
  induction h with
  | refl => rfl
  | tail _ last ih =>
    cases last with
    | move m => exact move_keeps_pending s.pending _ _ m ih
    | arbitrated c r u _ _ m => exact (arbiter_moves u).keep (move_keeps_pending _) (m.keep (move_keeps_pending _) ih)
    | _ => exact ih

/-- Settles O3: every command is a row of events, and none touches the queue of waiting commands. -/
theorem everyCommandAnswersNext : Obligations.EveryCommandAnswersNext := by
  intro c s
  obtain ⟨t, ht, events⟩ := exec_events c s
  exact ⟨t, ht, events_keep_pending events⟩

theorem move_keeps_link (s t : State) (m : Move s t) (h : Safety.LinkHolds s) : Safety.LinkHolds t := by
  cases m with
  | link k keep => exact keep h
  | free i =>
    obtain ⟨ps, ms, e⟩ := freePlace_frame i s
    rw [e]; exact h
  | promote i r =>
    obtain ⟨ps, ms, e⟩ := promoted_frame r.key i ({ · with state := .active }) s
    rw [e]; exact h
  | _ => exact h

/-- Settles O13: of the moves only that of the link changes the queues of messages. -/
theorem stepKeepsLink : Obligations.StepKeepsLink :=
  invariant move_keeps_link (fun _ _ _ _ h => h) (fun _ ⟨_, _, _, _, _, e⟩ => e ▸ reset_linkHolds) fun _ _ h => h

/-- Settings, pickup and power loop in range (O15). -/
def UnitsInRange (s : State) : Prop := Safety.SettingsInRange s ∧ Safety.PickupInRange s ∧ Safety.PowerLoopInRange s

theorem reset_units (t : State) (h : IsReset t) : UnitsInRange t := by
  obtain ⟨s, c, w, l, hc, rfl⟩ := h
  refine ⟨?_, reset_pickupInRange, reset_powerLoopInRange⟩
  simp only [Safety.SettingsInRange, hc]
  exact reset_settingsInRange

theorem move_keeps_units (s t : State) (m : Move s t) (h : UnitsInRange s) : UnitsInRange t := by
  obtain ⟨settings, pickup, power⟩ := h
  cases m with
  | report c a e =>
    have same : c.settings = s.cpt.settings := congrArg (·.1) e
    exact ⟨by simpa only [Safety.SettingsInRange, same] using settings, pickup, power⟩
  | settings c keep => exact ⟨keep settings, pickup, power⟩
  | pickup k r keep => exact ⟨settings, keep pickup, power⟩
  | power p keep => exact ⟨settings, pickup, keep power⟩
  | queue q hb hc hr =>
    obtain ⟨sled, wobble, measured, zones, windows, jump, requester⟩ := pickup
    exact ⟨settings, ⟨sled, wobble, measured, zones, windows, jump, fun h => requester (hr h)⟩, power⟩
  | free i =>
    obtain ⟨ps, ms, e⟩ := freePlace_frame i s
    rw [e]; exact ⟨settings, pickup, power⟩
  | promote i r =>
    obtain ⟨ps, ms, e⟩ := promoted_frame r.key i ({ · with state := .active }) s
    rw [e]; exact ⟨settings, pickup, power⟩
  | _ => exact ⟨settings, pickup, power⟩

/-- Settles O15: a move that sets a setting or a value of pickup and power loop keeps it in range. -/
theorem stepKeepsUnitsInRange : Obligations.StepKeepsUnitsInRange :=
  invariant (P := UnitsInRange) move_keeps_units (fun _ _ _ e h => ⟨by simpa only [Safety.SettingsInRange, e] using h.1, h.2⟩) (reset_units) fun _ _ h => h

theorem move_keeps_codes (s t : State) (m : Move s t) (h : Safety.CodesBounded s) : Safety.CodesBounded t := by
  cases m with
  | generator g keep => exact keep h
  | power p _ keep => exact keep h
  | free i =>
    obtain ⟨ps, ms, e⟩ := freePlace_frame i s
    rw [e]; exact h
  | promote i r =>
    obtain ⟨ps, ms, e⟩ := promoted_frame r.key i ({ · with state := .active }) s
    rw [e]; exact h
  | _ => exact h

/-- Settles O16: codes are presented by a computation, which bounds them (`computeCodes_bounded`), or handed over. -/
theorem stepKeepsCodesBounded : Obligations.StepKeepsCodesBounded :=
  invariant move_keeps_codes (fun _ _ _ _ h => h) (fun _ ⟨_, _, _, _, _, e⟩ => e ▸ ⟨rfl, rfl⟩) fun _ _ h => h

/-! ### Credits -/

/-- The credits depend on the badges, and fewer of them stay within the allotments. -/
theorem credits_of_badges {s t : State} (hb : (t.sgq.queue.map Entry.badge).Sublist (s.sgq.queue.map Entry.badge))
    (h : Safety.QueueWithinCredits s) : Safety.QueueWithinCredits t := by
  obtain ⟨positions, tags, fits, w, r, st⟩ := h
  have part : ∀ {α : Type} (f : Nat × Nat × SegKind × CreditClass → α) (g : Entry → α), (∀ e, f e.badge = g e) →
      (t.sgq.queue.map g).Sublist (s.sgq.queue.map g) := by
    intro α f g hg
    have := hb.map f
    simpa [List.map_map, Function.comp_def, hg] using this
  have charged : ∀ c, t.sgq.occupied c ≤ s.sgq.occupied c := by
    intro c
    have := (part (·.2.2.2) (·.cls) fun _ => rfl).countP_le (p := fun x => decide (x = c))
    simpa only [Sgq.occupied, ← List.countP_eq_length_filter, List.countP_map, Function.comp_def] using this
  refine ⟨positions.sublist (part (·.1) _ fun _ => rfl), tags.sublist (part (·.2.1) _ fun _ => rfl), ?_, (charged _).trans w,
    (charged _).trans r, (charged _).trans st⟩
  have allowed : (s.sgq.queue.map Entry.badge).all (fun b => decide (b.1 < 6 ∧ b.2.1 < 16) && b.2.2.2.admits b.2.2.1) = true := by
    rw [List.all_map]; exact fits
  have := List.all_eq_true.2 fun b hb' => List.all_eq_true.1 allowed b (hb.subset hb')
  rwa [List.all_map] at this

theorem move_keeps_credits (s t : State) (m : Move s t) (h : Safety.QueueWithinCredits s) : Safety.QueueWithinCredits t := by
  cases m with
  | queue q hb => exact credits_of_badges hb h
  | intake e keep => exact keep h
  | free i =>
    obtain ⟨ps, ms, e⟩ := freePlace_frame i s
    rw [e]; exact h
  | promote i r =>
    obtain ⟨ps, ms, e⟩ := promoted_frame r.key i ({ · with state := .active }) s
    rw [e]; exact h
  | _ => exact h

/-- Settles O10: an entry never changes its position, tag, kind and class, and only intake adds one. -/
theorem stepKeepsCredits : Obligations.StepKeepsCredits :=
  invariant move_keeps_credits (fun _ _ _ _ h => h) (fun _ ⟨_, _, _, _, _, e⟩ => e ▸ ⟨.nil, .nil, rfl, Nat.zero_le _, Nat.zero_le _, Nat.zero_le _⟩) fun _ _ h => h

/-! ### The media table -/

/-- A slot whose record count alone changes, an empty one only to the empty one. -/
theorem mediaTable_withSlot {s : State} (i : Nat) (f : Nat → Nat)
    (he : ∀ m, s.mst[i]? = some m → m.state = .free → f m.records = m.records) (h : Safety.MediaTableHolds s) :
    Safety.MediaTableHolds (s.withSlot i fun m => { m with records := f m.records }) := by
  obtain ⟨len, range, mounted, names⟩ := h
  cases hm : s.mst[i]? with
  | none =>
    have : s.mst.modify i (fun m => { m with records := f m.records }) = s.mst := List.modify_eq_self (by simpa using hm)
    simpa only [Safety.MediaTableHolds, State.withSlot, this] using ⟨len, range, mounted, names⟩
  | some m =>
    obtain ⟨front, back, hl, -, cut⟩ := modify_cut hm
    have inRange : Safety.slotInRange m = true → Safety.slotInRange { m with records := f m.records } = true := by
      intro hr
      by_cases hf : m.state = .free
      · rwa [he m hm hf]
      · simpa [Safety.slotInRange, hf] using hr
    simp only [Safety.MediaTableHolds, State.withSlot, cut]
    rw [hl] at len range mounted names
    refine ⟨by simpa using len, ?_, ?_, ?_⟩
    · simp only [List.all_append, List.all_cons, Bool.and_eq_true] at range ⊢
      exact ⟨range.1, inRange range.2.1, range.2.2⟩
    · simpa [List.countP_append, List.countP_cons] using mounted
    · simpa [List.filter_append, List.filter_cons, apply_ite] using names

theorem mediaTable_freePlace (s : State) (i : Nat) (h : Safety.MediaTableHolds s) : Safety.MediaTableHolds (freePlace i s) := by
  unfold freePlace
  split
  · next r _ =>
    refine mediaTable_withSlot r.key.media (· - 1) (fun m hm hf => ?_) h
    obtain ⟨-, range, -⟩ := h
    have := List.all_eq_true.1 range m (List.mem_of_getElem? hm)
    simp only [Safety.slotInRange, hf, if_true, decide_eq_true_eq] at this
    rw [this]; rfl
  · exact h

theorem move_keeps_mediaTable (s t : State) (m : Move s t) (h : Safety.MediaTableHolds s) : Safety.MediaTableHolds t := by
  cases m with
  | free i => exact mediaTable_freePlace s i h
  | install i r _ hm =>
    refine mediaTable_withSlot (s := s.withPlace i _) r.key.media (· + 1) (fun m hm' hf => ?_) h
    simp [show s.mst[r.key.media]? = some m from hm', hf] at hm
  | promote i r =>
    exact superseded_keeps (P := Safety.MediaTableHolds) mediaTable_freePlace (fun _ _ _ _ h => h) r.key s h
  | tables ps ms keep => exact keep h
  | _ => exact h

/-- Settles O5: the slots change by the requests of the slots and by their record counts. -/
theorem stepKeepsMediaTable : Obligations.StepKeepsMediaTable :=
  invariant move_keeps_mediaTable (fun _ _ _ _ h => h) (fun _ ⟨_, _, _, _, _, e⟩ => e ▸ reset_mediaTableHolds) fun _ _ h => h

/-! ### Records in range -/

/-- Records, generations and slots in range are a matter of each place and each slot. -/
theorem recordsInRange_iff (s : State) : Safety.RecordsInRange s ↔
    s.stb.length = 96 ∧ (∀ p ∈ s.stb, p.gen ≤ 255 ∧ ∀ r ∈ p.held, Safety.recordInRange r = true)
      ∧ s.sgq.queue.all (fun e => Safety.copyInRange e.copy) = true ∧ s.mst.all Safety.slotInRange = true := by
  simp only [Safety.RecordsInRange, Safety.held, List.all_eq_true, decide_eq_true_eq, List.mem_filterMap, forall_exists_index, and_imp,
    Option.mem_def]
  constructor
  · rintro ⟨len, gens, records, copies, slots⟩
    exact ⟨len, fun p hp => ⟨gens p hp, fun r hr => records r p hp hr⟩, copies, slots⟩
  · rintro ⟨len, places, copies, slots⟩
    exact ⟨len, fun p hp => (places p hp).1, fun r p hp hr => (places p hp).2 r hr, copies, slots⟩

/-- A place changed within the ranges. -/
theorem recordsInRange_withPlace {s : State} (i : Nat) {f : Place → Place} (h : Safety.RecordsInRange s)
    (hf : ∀ p, s.stb[i]? = some p → p.gen ≤ 255 → (f p).gen ≤ 255 ∧ ∀ r ∈ (f p).held, Safety.recordInRange r = true) :
    Safety.RecordsInRange (s.withPlace i f) := by
  rw [recordsInRange_iff] at h ⊢
  obtain ⟨len, places, copies, slots⟩ := h
  refine ⟨by simpa using len, fun q hq => ?_, copies, slots⟩
  obtain ⟨j, hj⟩ := List.getElem?_of_mem hq
  rw [withPlace_stb, List.getElem?_modify] at hj
  obtain ⟨p, hp, rfl⟩ := Option.map_eq_some_iff.1 hj
  have member := places p (List.mem_of_getElem? hp)
  split
  · next e => exact hf p (e ▸ hp) member.1
  · exact member

theorem recordsInRange_withSlot {s : State} (i : Nat) (f : Nat → Nat)
    (he : ∀ m, s.mst[i]? = some m → m.state = .free → f m.records = m.records) (h : Safety.RecordsInRange s) :
    Safety.RecordsInRange (s.withSlot i fun m => { m with records := f m.records }) := by
  obtain ⟨len, gens, records, copies, slots⟩ := h
  refine ⟨len, gens, records, copies, List.all_eq_true.2 fun n hn => ?_⟩
  obtain ⟨j, hj⟩ := List.getElem?_of_mem hn
  simp only [State.withSlot, List.getElem?_modify] at hj
  obtain ⟨m, hm, rfl⟩ := Option.map_eq_some_iff.1 hj
  have inRange := List.all_eq_true.1 slots m (List.mem_of_getElem? hm)
  split
  · next e =>
    by_cases hf : m.state = .free
    · rwa [he m (e ▸ hm) hf]
    · simpa [Safety.slotInRange, hf] using inRange
  · exact inRange

theorem recordsInRange_freePlace (s : State) (i : Nat) (h : Safety.RecordsInRange s) : Safety.RecordsInRange (freePlace i s) := by
  unfold freePlace
  split
  · next r _ =>
    refine recordsInRange_withSlot (s := s.withPlace i _) r.key.media (· - 1) (fun m hm hf => ?_)
      (recordsInRange_withPlace i h fun p _ hg => ⟨hg, nofun⟩)
    obtain ⟨-, -, -, -, slots⟩ := h
    have := List.all_eq_true.1 slots m (List.mem_of_getElem? hm)
    simp only [Safety.slotInRange, hf, if_true, decide_eq_true_eq] at this
    rw [this]; rfl
  · exact h

theorem recordsInRange_tame (s : State) (i : Nat) (f : Place → Place) (tame : ∀ p, s.stb[i]? = some p → Tame s p (f p))
    (h : Safety.RecordsInRange s) : Safety.RecordsInRange (s.withPlace i f) :=
  recordsInRange_withPlace i h fun p hp hg => ⟨(tame p hp).gen hg, (tame p hp).range h⟩

theorem move_keeps_records (s t : State) (m : Move s t) (h : Safety.RecordsInRange s) : Safety.RecordsInRange t := by
  cases m with
  | queue q _ hc =>
    have copies := hc h
    obtain ⟨len, gens, records, -, slots⟩ := h
    exact ⟨len, gens, records, copies, slots⟩
  | intake e _ hc =>
    obtain ⟨len, gens, records, copies, slots⟩ := h
    exact ⟨len, gens, records, by simp only [List.all_append, copies]; simpa using hc, slots⟩
  | place i f tame => exact recordsInRange_tame s i f tame h
  | free i => exact recordsInRange_freePlace s i h
  | install i r _ hm hr =>
    refine recordsInRange_withSlot (s := s.withPlace i _) r.key.media (· + 1) (fun m hm' hf => ?_)
      (recordsInRange_withPlace i h fun p _ _ => ⟨by simp only []; omega, fun q hq => ?_⟩)
    · simp [show s.mst[r.key.media]? = some m from hm', hf] at hm
    · cases hq; exact hr h
  | promote i r =>
    have kept := superseded_keeps recordsInRange_freePlace recordsInRange_tame r.key s h
    refine recordsInRange_withPlace i kept fun p hp hg => ⟨hg, fun q hq => ?_⟩
    obtain ⟨r0, hr0, rfl⟩ := Option.map_eq_some_iff.1 hq
    have inRange := recordInRange_of_record kept (List.mem_of_getElem? hp) hr0
    exact recordInRange_update inRange _ (recordInRange_onTime inRange) (recordInRange_corr inRange)
  | tables ps ms _ keep => exact keep h
  | _ => exact h

/-- Settles O6: each move that writes a record, a working copy or a slot writes one within its ranges. -/
theorem stepKeepsRecordsInRange : Obligations.StepKeepsRecordsInRange :=
  invariant move_keeps_records (fun _ _ _ _ h => h) (fun _ ⟨_, _, _, _, _, e⟩ => e ▸ reset_recordsInRange) fun _ _ h => h

/-! ### Record counts -/

/-- The keys of the records held. -/
def heldKeys (ps : List Place) : List Key := ps.filterMap fun p => p.held.map (·.key)

theorem held_keys (ps : List Place) : (Safety.held ps).map (·.key) = heldKeys ps := by simp [Safety.held, heldKeys, List.map_filterMap]

/-- The record counts depend on the keys of the records held alone. -/
theorem countsAgree_iff (s : State) : Safety.CountsAgree s ↔
    (∀ i m, s.mst[i]? = some m → m.records = (heldKeys s.stb).countP (·.media = i))
      ∧ (∀ k ∈ heldKeys s.stb, ∃ m, s.mst[k.media]? = some m ∧ m.state ≠ .free)
      ∧ ∀ m ∈ s.mst, m.state = .free → m = Slot.empty := by
  have keys : ∀ i, (Safety.held s.stb).countP (·.key.media = i) = (heldKeys s.stb).countP (·.media = i) := fun i => by
    rw [← held_keys, List.countP_map]; rfl
  simp only [Safety.CountsAgree, keys, ← held_keys, List.all_eq_true, decide_eq_true_eq, List.mem_map, forall_exists_index, and_imp,
    forall_apply_eq_imp_iff₂, Option.any_eq_true]
  refine and_congr ⟨fun h i m hm => ?_, fun h i hi => ?_⟩ Iff.rfl
  · obtain ⟨hi, rfl⟩ := List.getElem?_eq_some_iff.1 hm
    simpa [hi] using h i hi
  · simpa [hi] using h i s.mst[i] (List.getElem?_eq_getElem hi)

theorem heldKeys_modify {ps : List Place} {i : Nat} {p : Place} (hp : ps[i]? = some p) :
    ∃ front back, heldKeys ps = front ++ (p.held.map (·.key)).toList ++ back
      ∧ ∀ f : Place → Place, heldKeys (ps.modify i f) = front ++ ((f p).held.map (·.key)).toList ++ back := by
  obtain ⟨front, back, rfl, -, cut⟩ := modify_cut hp
  have cons : ∀ q : Place, heldKeys (q :: back) = (q.held.map (·.key)).toList ++ heldKeys back := by
    intro q
    cases hq : q.held <;> simp [heldKeys, hq]
  refine ⟨heldKeys front, heldKeys back, ?_, fun f => ?_⟩
  · rw [heldKeys, List.filterMap_append, List.append_assoc, ← cons]; rfl
  · rw [cut, heldKeys, List.filterMap_append, List.append_assoc, ← cons]; rfl

theorem countsAgree_tame (s : State) (i : Nat) (f : Place → Place) (tame : ∀ p, s.stb[i]? = some p → Tame s p (f p))
    (h : Safety.CountsAgree s) : Safety.CountsAgree (s.withPlace i f) := by
  have same : heldKeys (s.withPlace i f).stb = heldKeys s.stb := by
    cases hp : s.stb[i]? with
    | none => rw [withPlace_stb, List.modify_eq_self (by simpa using hp)]
    | some p =>
      obtain ⟨front, back, before, after⟩ := heldKeys_modify hp
      rw [withPlace_stb, after, before, (tame p hp).key]
  rw [countsAgree_iff] at h ⊢
  rw [same]
  exact h

theorem countsAgree_freePlace (s : State) (i : Nat) (h : Safety.CountsAgree s) : Safety.CountsAgree (freePlace i s) := by
  unfold freePlace
  split
  next r hr =>
    obtain ⟨p, hp, held⟩ := Option.bind_eq_some_iff.1 hr
    obtain ⟨front, back, before, after⟩ := heldKeys_modify hp
    rw [countsAgree_iff] at h ⊢
    obtain ⟨counts, named, empty⟩ := h
    have now := after ({ · with held := none })
    simp only [State.withSlot, withPlace_stb, withPlace_mst, now]
    rw [before] at counts named
    simp only [held, Option.map_some, Option.map_none, Option.toList_some, Option.toList_none, List.append_nil] at counts named ⊢
    refine ⟨fun j m hm => ?_, fun k hk => ?_, fun m hm hf => ?_⟩
    · rw [List.getElem?_modify] at hm
      obtain ⟨m0, hm0, rfl⟩ := Option.map_eq_some_iff.1 hm
      have := counts j m0 hm0
      by_cases e : r.key.media = j <;> simp [e, List.countP_append] at this ⊢ <;> omega
    · obtain ⟨m, hm, hf⟩ := named k (by simp at hk ⊢; tauto)
      rw [List.getElem?_modify, hm]
      exact ⟨_, rfl, by split <;> exact hf⟩
    · obtain ⟨j, hj⟩ := List.getElem?_of_mem hm
      rw [List.getElem?_modify] at hj
      obtain ⟨m0, hm0, rfl⟩ := Option.map_eq_some_iff.1 hj
      have was := empty m0 (List.mem_of_getElem? hm0)
      by_cases e : r.key.media = j
      · simp only [e, if_true] at hf ⊢
        rw [was hf]; rfl
      · simp only [e, if_false] at hf ⊢
        exact was hf
  next => exact h

theorem countsAgree_placeRecord {s : State} {i : Nat} {r : Record} (hi : s.record i = none ∧ i < s.stb.length)
    (hm : (s.mst[r.key.media]?).any (·.state ≠ .free) = true) (h : Safety.CountsAgree s) : Safety.CountsAgree (placeRecord i r s) := by
  obtain ⟨none, bound⟩ := hi
  have hp := List.getElem?_eq_getElem bound
  have held : s.stb[i].held = .none := by simpa [State.record, hp] using none
  obtain ⟨front, back, before, after⟩ := heldKeys_modify hp
  rw [countsAgree_iff] at h ⊢
  obtain ⟨counts, named, empty⟩ := h
  have now := after fun p => { gen := (p.gen + 1) % 256, held := some r }
  simp only [placeRecord, State.withSlot, withPlace_stb, withPlace_mst, now]
  rw [before] at counts named
  simp only [held, Option.map_some, Option.map_none, Option.toList_some, Option.toList_none, List.append_nil] at counts named ⊢
  refine ⟨fun j m hm' => ?_, fun k hk => ?_, fun m hm' hf => ?_⟩
  · rw [List.getElem?_modify] at hm'
    obtain ⟨m0, hm0, rfl⟩ := Option.map_eq_some_iff.1 hm'
    have := counts j m0 hm0
    by_cases e : r.key.media = j <;> simp [e, List.countP_append] at this ⊢ <;> omega
  · have : ∃ m, s.mst[k.media]? = some m ∧ m.state ≠ .free := by
      by_cases e : k = r.key
      · obtain ⟨m, hm0, hf⟩ := (Option.any_eq_true _ _).1 hm
        exact ⟨m, e ▸ hm0, by simpa using hf⟩
      · exact named k (by simp at hk ⊢; tauto)
    obtain ⟨m, hm0, hf⟩ := this
    rw [List.getElem?_modify, hm0]
    exact ⟨_, rfl, by split <;> exact hf⟩
  · obtain ⟨j, hj⟩ := List.getElem?_of_mem hm'
    rw [List.getElem?_modify] at hj
    obtain ⟨m0, hm0, rfl⟩ := Option.map_eq_some_iff.1 hj
    by_cases e : r.key.media = j
    · simp only [e, if_true] at hf hm
      simp [hm0, hf] at hm
    · simp only [e, if_false] at hf ⊢
      exact empty m0 (List.mem_of_getElem? hm0) hf

theorem move_keeps_counts (s t : State) (m : Move s t) (h : Safety.CountsAgree s) : Safety.CountsAgree t := by
  cases m with
  | place i f tame => exact countsAgree_tame s i f tame h
  | free i => exact countsAgree_freePlace s i h
  | install i r hi hm => exact countsAgree_placeRecord hi hm h
  | promote i r =>
    have kept := superseded_keeps countsAgree_freePlace countsAgree_tame r.key s h
    rw [countsAgree_iff] at kept ⊢
    suffices same : heldKeys ((superseded r.key s).withRecord i ({ · with state := .active })).stb = heldKeys (superseded r.key s).stb by
      rw [same]; exact kept
    cases hp : (superseded r.key s).stb[i]? with
    | none => rw [State.withRecord, withPlace_stb, List.modify_eq_self (by simpa using hp)]
    | some p =>
      obtain ⟨front, back, before, after⟩ := heldKeys_modify hp
      rw [State.withRecord, withPlace_stb, after, before, Option.map_map]; rfl
  | tables ps ms _ _ keep => exact keep h
  | _ => exact h

/-- Settles O7: a record joins and leaves the table with its slot's count, and no other change touches its key. -/
theorem stepKeepsRecordCounts : Obligations.StepKeepsRecordCounts :=
  invariant move_keeps_counts (fun _ _ _ _ h => h) (fun _ ⟨_, _, _, _, _, e⟩ => e ▸ reset_countsAgree) fun _ _ h => h

/-! ### Key limits -/

/-- No two places hold a record of one key that `ok` counts. -/
def Single (ok : Record → Bool) (s : State) : Prop :=
  ∀ i j r q, s.record i = some r → s.record j = some q → ok r = true → ok q = true → r.key = q.key → i = j

theorem nodup_iff_single (ok : Record → Bool) (s : State) : (((Safety.held s.stb).filter ok).map (·.key)).Nodup ↔ Single ok s := by
  unfold Safety.held
  rw [List.Nodup, List.pairwise_map, List.pairwise_filter, List.pairwise_filterMap, List.pairwise_iff_getElem]
  have at_ : ∀ i (hi : i < s.stb.length), s.record i = s.stb[i].held := fun i hi => by simp [State.record, hi]
  have within : ∀ i r, s.record i = some r → i < s.stb.length := by
    intro i r hr
    obtain ⟨p, hp, -⟩ := Option.bind_eq_some_iff.1 hr
    exact (List.getElem?_eq_some_iff.1 hp).1
  constructor
  · intro h i j r q hi hj hr hq hk
    have bi := within i r hi
    have bj := within j q hj
    rw [at_ i bi] at hi
    rw [at_ j bj] at hj
    rcases Nat.lt_trichotomy i j with lt | e | gt
    · exact absurd hk (h i j bi bj lt r hi q hj hr hq)
    · exact e
    · exact absurd hk.symm (h j i bj bi gt q hj r hi hq hr)
  · intro h i j bi bj lt r hi q hj hr hq hk
    exact absurd (h i j r q ((at_ i bi).trans hi) ((at_ j bj).trans hj) hr hq hk) (Nat.ne_of_lt lt)

theorem keysLimited_iff (s : State) : Safety.KeysLimited s ↔ Single Record.usable s ∧ Single (fun r => decide (r.state = .provisional)) s :=
  and_congr (nodup_iff_single _ s) (nodup_iff_single _ s)

/-- Records that come to count in no limit, or to the same key as before in their place. -/
theorem Single.of_places {ok : Record → Bool} {s t : State} (h : Single ok s)
    (hp : ∀ i r, t.record i = some r → ok r = true → ∃ q, s.record i = some q ∧ ok q = true ∧ q.key = r.key) : Single ok t := by
  intro i j r q hi hj hr hq hk
  obtain ⟨r', hi', hr', kr⟩ := hp i r hi hr
  obtain ⟨q', hj', hq', kq⟩ := hp j q hj hq
  exact h i j r' q' hi' hj' hr' hq' (kr.trans (hk.trans kq.symm))

theorem record_withPlace (s : State) (i j : Nat) (f : Place → Place) :
    (s.withPlace i f).record j = if i = j then (s.stb[j]?).bind fun p => (f p).held else s.record j := by
  simp only [State.record, withPlace_stb, List.getElem?_modify]
  split
  · cases s.stb[j]? <;> simp [*]
  · simp [*]

theorem single_tame {ok : Record → Bool} {s : State} {i : Nat} {f : Place → Place}
    (hf : ∀ p, s.stb[i]? = some p → ((f p).held.filter ok).map (·.key) = none ∨ ((f p).held.filter ok).map (·.key) = (p.held.filter ok).map (·.key))
    (h : Single ok s) : Single ok (s.withPlace i f) := by
  refine h.of_places fun j r hr hok => ?_
  rw [record_withPlace] at hr
  split at hr
  · next e =>
    subst e
    obtain ⟨p, hp, hr⟩ := Option.bind_eq_some_iff.1 hr
    have key : ((f p).held.filter ok).map (·.key) = some r.key := by rw [hr, Option.filter_some, if_pos hok]; rfl
    obtain gone | same := hf p hp
    · rw [gone] at key; cases key
    · rw [same] at key
      obtain ⟨q, hq, hk⟩ := Option.map_eq_some_iff.1 key
      obtain ⟨held, okq⟩ := Option.filter_eq_some_iff.1 hq
      exact ⟨q, by simpa [State.record, hp] using held, okq, hk⟩
  · exact ⟨r, hr, hok, rfl⟩

theorem keysLimited_tame (s : State) (i : Nat) (f : Place → Place) (tame : ∀ p, s.stb[i]? = some p → Tame s p (f p))
    (h : Safety.KeysLimited s) : Safety.KeysLimited (s.withPlace i f) := by
  rw [keysLimited_iff] at h ⊢
  exact ⟨single_tame (fun p hp => (tame p hp).usable) h.1, single_tame (fun p hp => (tame p hp).provisional) h.2⟩

theorem keysLimited_freePlace (s : State) (i : Nat) (h : Safety.KeysLimited s) : Safety.KeysLimited (freePlace i s) := by
  rw [keysLimited_iff] at h ⊢
  have left : ∀ j r, (freePlace i s).record j = some r → s.record j = some r := fun j r hr => by
    rw [record_freePlace] at hr
    split at hr
    · cases hr
    · exact hr
  exact ⟨h.1.of_places fun j r hr hok => ⟨r, left j r hr, hok, rfl⟩, h.2.of_places fun j r hr hok => ⟨r, left j r hr, hok, rfl⟩⟩

/-- A search that finds nothing. -/
theorem findRecord_none {s : State} {k : Key} {ok : Record → Bool} (h : findRecord s.stb k ok = none) {j : Nat} {r : Record}
    (hr : s.record j = some r) (hk : r.key = k) : ok r = false := by
  obtain ⟨p, hp, held⟩ := Option.bind_eq_some_iff.1 hr
  have := List.findIdx?_eq_none_iff.1 h p (List.mem_of_getElem? hp)
  simpa [held, hk] using this

/-- One more counted record in place `i`, of a key that no other counted record has. -/
theorem Single.add {ok : Record → Bool} {s t : State} {i : Nat} {r : Record} (h : Single ok s) (hi : t.record i = some r)
    (hj : ∀ j, j ≠ i → t.record j = s.record j)
    (alone : ok r = true → ∀ j q, j ≠ i → s.record j = some q → ok q = true → q.key ≠ r.key) : Single ok t := by
  intro a b ra rb ha hb oka okb hk
  by_cases ea : a = i <;> by_cases eb : b = i
  · exact ea.trans eb.symm
  · subst ea
    rw [hi] at ha
    cases ha
    rw [hj b eb] at hb
    exact absurd hk.symm (alone oka b rb eb hb okb)
  · subst eb
    rw [hi] at hb
    cases hb
    rw [hj a ea] at ha
    exact absurd hk (alone okb a ra ea ha oka)
  · rw [hj a ea] at ha
    rw [hj b eb] at hb
    exact h a b ra rb ha hb oka okb hk

theorem record_placeRecord {s : State} {i : Nat} (hi : i < s.stb.length) (r : Record) (j : Nat) :
    (placeRecord i r s).record j = if i = j then some r else s.record j := by
  have slots : (placeRecord i r s).record j = (s.withPlace i fun p => { gen := (p.gen + 1) % 256, held := some r }).record j := rfl
  rw [slots, record_withPlace]
  split
  · next e => subst e; simp [hi]
  · rfl

theorem keysLimited_placeRecord {s : State} {i : Nat} {r : Record} (hi : s.record i = none ∧ i < s.stb.length)
    (hu : r.usable = true → usableRecord s.stb r.key = none) (hp : r.state = .provisional → provisionalRecord s.stb r.key = none)
    (h : Safety.KeysLimited s) : Safety.KeysLimited (placeRecord i r s) := by
  rw [keysLimited_iff] at h ⊢
  have here := record_placeRecord hi.2 r i
  rw [if_pos rfl] at here
  have there : ∀ j, j ≠ i → (placeRecord i r s).record j = s.record j := fun j hj => by
    rw [record_placeRecord hi.2, if_neg (Ne.symm hj)]
  refine ⟨h.1.add here there fun ok j q _ hq okq hk => ?_, h.2.add here there fun ok j q _ hq okq hk => ?_⟩
  · exact Bool.false_ne_true ((findRecord_none (hu ok) hq hk).symm.trans okq)
  · exact Bool.false_ne_true ((findRecord_none (hp (of_decide_eq_true ok)) hq hk).symm.trans okq)

/-- The working record of a key that leaves service is the only one, and none is left. -/
theorem superseded_usable {s : State} {k : Key} (h : Single Record.usable s) {j : Nat} {q : Record}
    (hq : (superseded k s).record j = some q) (hk : q.key = k) : q.usable = false := by
  cases found : usableRecord s.stb k with
  | none =>
    simp only [superseded, found] at hq
    exact findRecord_none found hq hk
  | some i =>
    obtain ⟨p, hp, test⟩ := findIdx?_spec found
    obtain ⟨w, held, hw⟩ := (Option.any_eq_true _ _).1 test
    simp only [Bool.and_eq_true, decide_eq_true_eq] at hw
    have hi : s.record i = some w := by simp [State.record, hp, held]
    simp only [superseded, found, record_leaveService] at hq
    split at hq
    · next e =>
      subst e
      rw [hi, Option.bind_some, Record.outOfService] at hq
      split at hq
      · next retiring => simp [Record.usable, retiring] at hw
      · split at hq
        · cases hq
        · cases hq; rfl
    · next e =>
      by_contra hu
      exact e (h i j w q hi hq hw.2 (by simpa using hu) (hw.1.trans hk.symm))

theorem keysLimited_promoted {s : State} {i : Nat} {r : Record} (hr : s.record i = some r) (hp : r.state = .provisional)
    (h : Safety.KeysLimited s) : Safety.KeysLimited ((superseded r.key s).withRecord i ({ · with state := .active })) := by
  have kept := superseded_keeps keysLimited_freePlace keysLimited_tame r.key s h
  rw [keysLimited_iff] at h kept ⊢
  have candidate : (superseded r.key s).record i = some r := by
    obtain e | ⟨j, found, e⟩ := superseded_eq r.key s <;> rw [e]
    · exact hr
    · rw [record_leaveService]
      split
      · next e =>
        obtain ⟨p, hp', test⟩ := findIdx?_spec found
        subst e
        have held : p.held = some r := by simpa [State.record, hp'] using hr
        simp [held, Record.usable, hp] at test
      · exact hr
  refine ⟨kept.1.add (i := i) (r := { r with state := .active }) ?_ ?_ ?_, kept.2.of_places fun j q hq okq => ?_⟩
  · rw [record_withRecord, if_pos rfl, candidate]; rfl
  · intro j hj
    rw [record_withRecord, if_neg (Ne.symm hj)]
  · intro _ j q _ hq okq hk
    exact Bool.false_ne_true ((superseded_usable h.1 hq hk).symm.trans okq)
  · rw [record_withRecord] at hq
    split at hq
    · next e =>
      subst e
      rw [candidate] at hq
      cases hq
      simp at okq
    · exact ⟨q, hq, okq, rfl⟩

theorem move_keeps_limits (s t : State) (m : Move s t) (h : Safety.KeysLimited s) : Safety.KeysLimited t := by
  cases m with
  | place i f tame => exact keysLimited_tame s i f tame h
  | free i => exact keysLimited_freePlace s i h
  | install i r hi _ _ hu hp => exact keysLimited_placeRecord hi hu hp h
  | promote i r hr hp => exact keysLimited_promoted hr hp h
  | tables ps ms _ _ _ keep => exact keep h
  | _ => exact h

/-- Settles O8: a record comes to count in a limit only at an install, past the check for duplicates, and at a promotion, as the working record
of the key leaves service. -/
theorem stepKeepsKeyLimits : Obligations.StepKeepsKeyLimits :=
  invariant move_keeps_limits (fun _ _ _ _ h => h) (fun _ ⟨_, _, _, _, _, e⟩ => e ▸ reset_keysLimited) fun _ _ h => h

end Sys2Proof.Machine
end

section
/-! SUPPORT. The port: what every step keeps of it, and the statements of how requests and response reads pass it. -/

namespace Sys2Proof.Machine

open Sys2Proof.Stated

/-! ### The port serves the engine's host lookup -/

theorem portHolds_iff (s : State) : Safety.PortHolds s ↔ PortServes s ∧ NoneLeft s.rse := by
  constructor
  · rintro ⟨served, fresh, count, behind, quiet, reads⟩
    refine ⟨⟨served, fresh, by omega, fun w => .inr ⟨behind w, count⟩, quiet, reads⟩, fun idle => ?_⟩
    by_contra waits
    have := behind (Option.isSome_iff_ne_none.2 waits)
    simp [Safety.segmentInFlight, idle] at this
  · rintro ⟨h, left⟩
    have behind : s.rse.waiting.isSome = true → Safety.segmentInFlight s.rse = true ∧ s.rse.waitCount ≤ 1 := fun w =>
      (h.behind w).resolve_left fun idle => by simp [left idle] at w
    refine ⟨h.served, h.fresh, ?_, fun w => (behind w).1, h.quiet, h.reads⟩
    cases hw : s.rse.waiting with
    | none => rw [h.fresh hw]; exact Nat.zero_le _
    | some q => exact (behind (by simp [hw])).2

theorem move_keeps_portServes (s t : State) (m : Move s t) (h : PortServes s) : PortServes t := by
  cases m with
  | report c a e =>
    obtain ⟨-, port, busy, reading⟩ : c.settings = _ ∧ c.port = _ ∧ c.busyReply = _ ∧ c.reading = _ := by
      simpa only [Cpt.kept, Prod.mk.injEq] using e
    obtain ⟨served, fresh, count, behind, quiet, reads⟩ := h
    refine ⟨?_, fresh, count, behind, ?_, ?_⟩
    · simpa only [Safety.servedCode, port] using served
    · simpa only [port, busy] using quiet
    · simpa only [port, busy, reading] using reads
  | silence => exact ⟨h.served, h.fresh, h.count, h.behind, fun _ => rfl, nofun⟩
  | settings n => exact ⟨h.served, h.fresh, h.count, h.behind, h.quiet, h.reads⟩
  | engine r keep => exact keep h
  | free i =>
    obtain ⟨ps, ms, e⟩ := freePlace_frame i s
    rw [e]; exact ⟨h.served, h.fresh, h.count, h.behind, h.quiet, h.reads⟩
  | promote i r =>
    obtain ⟨ps, ms, e⟩ := promoted_frame r.key i ({ · with state := .active }) s
    rw [e]; exact ⟨h.served, h.fresh, h.count, h.behind, h.quiet, h.reads⟩
  | _ => exact ⟨h.served, h.fresh, h.count, h.behind, h.quiet, h.reads⟩

theorem move_keeps_noneLeft (s t : State) (m : Move s t) (h : NoneLeft s.rse) : NoneLeft t.rse := by
  cases m with
  | engine r _ keep => exact keep h
  | free i =>
    obtain ⟨ps, ms, e⟩ := freePlace_frame i s
    rw [e]; exact h
  | promote i r =>
    obtain ⟨ps, ms, e⟩ := promoted_frame r.key i ({ · with state := .active }) s
    rw [e]; exact h
  | _ => exact h

theorem events_keep_port (s t : State) (h : Events s t) (hs : Safety.PortHolds s) : Safety.PortHolds t := by
  rw [portHolds_iff] at hs ⊢
  induction h with
  | refl => exact hs
  | tail _ last ih =>
    cases last with
    | move m => exact ⟨move_keeps_portServes _ _ m ih.1, move_keeps_noneLeft _ _ m ih.2⟩
    | port c _ keep => exact ⟨keep ih.1, ih.2⟩
    | arbitrated c r u _ keep m =>
      exact ⟨(arbiter_moves u).keep move_keeps_portServes (m.keep move_keeps_portServes (keep ih.1)), arbiter_noneLeft u⟩
    | hardReset c w l _ h => exact ⟨⟨h.served, h.fresh, h.count, h.behind, h.quiet, h.reads⟩, fun _ => rfl⟩

/-- Settles O14: between the parts of an event the port serves the engine's lookup, and the arbiter leaves none waiting for an idle engine. -/
theorem stepKeepsPort : Obligations.StepKeepsPort :=
  step_keeps (exec_keeps events_keep_port) fun _ _ h => h

/-! ### Requests -/

/-- Every row of the request table is a request of its code and length, which its serving function takes. -/
theorem request_of_row (found : FoundLines) : ∀ row ∈ requests found, ∃ serve : List Byte → State → State,
    (∀ w s, exec (row.2.2 w) s = .next (request row.1 row.2.1 w serve s))
      ∧ ∀ p s, s.cpt.port = .idle → Served row.1 s (serve p s) := by
  have ok : ∀ {code : Byte} {s : State} (payload : List Byte), Served code s (answer code .ok payload s) := fun p => answer_served_ok _ p _
  simp only [requests, List.forall_mem_cons]
  refine ⟨⟨_, fun _ _ => rfl, fun p s _ => serveMediaInstall_served p s⟩, ⟨_, fun _ _ => rfl, fun p s _ => serveMediaAmend_served p s⟩,
    ⟨_, fun _ _ => rfl, fun p s _ => serveMediaMount_served p s⟩, ⟨_, fun _ _ => rfl, fun p s _ => serveMediaUnmount_served p s⟩,
    ⟨_, fun _ _ => rfl, fun p s _ => serveMediaRetire_served p s⟩, ⟨_, fun _ _ => rfl, fun p s _ => serveMediaRead_served p s⟩,
    ⟨_, fun _ _ => rfl, fun p s _ => serveRecInstall_served p s⟩, ⟨_, fun _ _ => rfl, fun p s _ => serveRecAmend_served p s⟩,
    ⟨_, fun _ _ => rfl, fun p s _ => serveRecPromote_served p s⟩, ⟨_, fun _ _ => rfl, fun p s _ => serveRecRetire_served p s⟩,
    ⟨_, fun _ _ => rfl, fun p s _ => serveRecRetireMatch_served p s⟩, ⟨_, fun _ _ => rfl, fun p s _ => serveRecRead_served p s⟩,
    ⟨_, fun _ _ => rfl, fun p s _ => serveRecFind_served p s⟩, ⟨_, fun _ _ => rfl, fun p s _ => serveRecScan_served p s⟩,
    ⟨_, fun _ _ => rfl, fun p s _ => serveDiodeSet_served p s⟩, ⟨_, fun _ _ => rfl, fun _ _ _ => ok _⟩,
    ⟨_, fun _ _ => rfl, fun p s _ => serveLimitsSet_served p s⟩, ⟨_, fun _ _ => rfl, fun p s _ => serveZoneMap_served p s⟩,
    ⟨_, fun _ _ => rfl, fun p s _ => serveSpeedMap_served p s⟩, ⟨_, fun _ _ => rfl, fun _ _ _ => ok _⟩,
    ⟨_, fun _ _ => rfl, fun p s _ => serveLaserOn_served p s⟩, ⟨_, fun _ _ => rfl, fun p s _ => serveLaserOff_served p s⟩,
    ⟨_, fun _ _ => rfl, fun p s _ => serveHoldClear_served p s⟩, ⟨_, fun _ _ => rfl, fun p s _ => serveSupplyAck_served p s⟩,
    ⟨_, fun _ _ => rfl, fun _ _ _ => ok _⟩, ⟨_, fun _ _ => rfl, fun p s _ => serveQueueAbort_served p s⟩,
    ⟨_, fun _ _ => rfl, fun p s _ => serveCounterSet_served p s⟩, ⟨_, fun _ _ => rfl, fun p s _ => serveCounterRead_served p s⟩,
    ⟨_, fun _ _ => rfl, fun p s _ => serveSettings_served p s⟩, ⟨_, fun _ _ => rfl, fun _ _ _ => ok _⟩,
    ⟨_, fun _ _ => rfl, fun p s _ => serveNoticesRead_served p s⟩, ⟨_, fun _ _ => rfl, fun _ _ _ => ok _⟩,
    ⟨_, fun _ _ => rfl, fun p s idle => serveSoftReset_served found p s idle⟩, nofun⟩

/-- A request is a transaction, and so is an unknown one. -/
theorem transaction_of_request {found : FoundLines} {code : Byte} {c : HostWrite → Instr}
    (h : (∃ len, (code, len, c) ∈ requests found) ∨ c = .unknownRequest code) :
    ∃ take : List Byte → State → State, ∀ w s, exec (c w) s = .next (transaction code w take s) := by
  obtain ⟨len, h⟩ | rfl := h
  · obtain ⟨serve, exec_eq, -⟩ := request_of_row found _ h
    exact ⟨takeRequest code len serve, exec_eq⟩
  · exact ⟨_, fun _ _ => rfl⟩

/-- The frame of R189: its length field tells its payload's length, which is that of its code. -/
theorem lengthFits_iff (body : List Byte) (len : Nat) :
    lengthFits body len = true ↔ 2 ≤ body.length ∧ u16 body 0 = body.length - 2 ∧ u16 body 0 = len := decide_eq_true_iff

/-- Settles O20: each request is a transaction whose whole is taken by the port, and a first byte fixes what its release sends. -/
theorem requestsPassThePort : Obligations.RequestsPassThePort := by
  refine ⟨fun found code c h s => ?_, fun found code len c h body s => ?_, fun code body s => ⟨fun busy => ?_, fun idle => ?_⟩⟩
  · obtain ⟨take, exec_eq⟩ := transaction_of_request h
    refine ⟨exec_eq .firstByte s, fun body b begun => ⟨_, exec_eq (.whole body) s, ?_⟩, fun body other => ?_⟩
    · rw [exec_eq, transaction, begun]
      simp only [if_true]
      rfl
    · rw [exec_eq, transaction]
      cases hw : s.cpt.writing with
      | none => rfl
      | some f =>
        have : f.code ≠ code := fun e => other f.statusByte (by rw [hw, ← e])
        simp only [this, if_false]
  · obtain ⟨serve, exec_eq, -⟩ := request_of_row found _ h
    refine ⟨fun busy => ?_, fun idle misfit => ?_⟩
    · rw [exec_eq, request, transaction, takeRequest_busy code len serve body s busy]; rfl
    · rw [exec_eq, request, transaction, takeRequest_badLength code len serve body s idle
        (by rw [← Bool.not_eq_true, lengthFits_iff]; exact misfit)]
      rfl
  · simp only [exec, execUnknownRequest, transaction, busy, if_false]; rfl
  · simp only [exec, execUnknownRequest, transaction, idle, if_true]; rfl

/-- Settles O21: what the idle port serves is an answer that changes nothing else, an OK, or a lookup that joins the wait list. -/
theorem refusedRequestsChangeNothing : Obligations.RefusedRequestsChangeNothing := by
  intro found code len c h body s t f idle ht hf hst
  obtain ⟨serve, exec_eq, served⟩ := request_of_row found _ h
  have taken : t = endWrite s.cpt.statusByte body (takeRequest code len serve body s) := by
    rw [exec_eq] at ht
    cases ht
    rfl
  have outcome : Served code s (takeRequest code len serve body s) := by
    unfold takeRequest
    simp only [idle, if_true]
    split
    · exact served _ s idle
    · simp
  subst taken
  generalize takeRequest code len serve body s = u at outcome hf ⊢
  cases outcome with
  | reply st p plain =>
    cases hf
    exact ⟨rfl, plain hst⟩
  | done v p => cases hf; exact absurd rfl hst
  | joined r => simp [endWrite, joinWaitList] at hf

/-! ### Response reads -/

theorem complete_iff (r : FixedRead) (n : Nat) : r.complete n = true ↔ 5 + r.frame.payload.length ≤ n := by
  have length : r.frame.bytes.length = 4 + r.frame.payload.length := by simp [Frame.bytes, putU8, putU16]; omega
  rw [FixedRead.complete, decide_eq_true_iff, length]
  omega

/-- A response read is fixed from the port as it stands. -/
theorem fixRead_eq (c : Cpt) : c.fixRead = { statusByte := c.statusByte, frame := waitingFrame c, acts := waitingActs c } := by
  unfold Cpt.fixRead waitingFrame waitingActs
  cases c.busyReply with
  | some code => rfl
  | none => cases c.port <;> rfl

/-- The release of a response read empties what it has delivered whole. -/
theorem releaseRead_eq (r : FixedRead) (n : Nat) (c : Cpt) : releaseRead r n c =
    { c with
      reading := none, writing := none, spiOut := r.out n
      busyReply := if 5 + r.frame.payload.length ≤ n ∧ r.acts = .busyReply then none else c.busyReply
      port := if 5 + r.frame.payload.length ≤ n ∧ r.acts = .response then .idle else c.port } := by
  unfold releaseRead
  by_cases whole : 5 + r.frame.payload.length ≤ n
  · simp only [complete_iff, whole, if_true, true_and]
    cases r.acts <;> rfl
  · simp only [complete_iff, whole, if_false, false_and]

/-- A complete read of the waiting frame empties the busy reply, or else the response. -/
theorem release_waiting (c : Cpt) :
    (if waitingActs c = .busyReply then none else c.busyReply) = none
      ∧ (if waitingActs c = .response then PortState.idle else c.port) = afterRead c := by
  unfold waitingActs afterRead
  cases hb : c.busyReply with
  | some code => simp
  | none => cases c.port <;> simp

/-- Settles O22: a read is fixed from the port, and its release acts on what was fixed. -/
theorem responseReadsDeliver : Obligations.ResponseReadsDeliver := by
  refine ⟨fun s n positive => ?_, fun s => ?_, fun s r n begun => ?_, fun s n absent => ?_, fun s => rfl⟩
  · have clocked : n ≠ 0 := by omega
    simp only [exec, execResponseRead, clocked, if_false, releaseRead_eq, fixRead_eq, FixedRead.out]
    obtain ⟨busy, port⟩ := release_waiting s.cpt
    by_cases whole : 5 + (waitingFrame s.cpt).payload.length ≤ n
    · simp only [whole, true_and, busy, port, if_true]
    · simp only [whole, false_and, if_false]
  · simp only [exec, execResponseRead, fixRead_eq]
  · simp only [exec, execResponseRead, begun, releaseRead_eq, FixedRead.out]
  · simp only [exec, execResponseRead, absent]

end Sys2Proof.Machine
end

section
/-! SUPPORT. The layouts of R207: sets, settings, images and filters written and read, and the requests that carry them. -/

namespace Sys2Proof.Machine

open Sys2Proof.Stated

/-! ### Sets as fields -/

theorem bit_succ (k : Nat) (b : Bool) : bit (k + 1) b = 2 * bit k b := by cases b <;> simp [bit, pow_succ, Nat.mul_comm]

/-- The weight of a set: its first member, and the others at twice their weights. -/
theorem sum_mapIdx_bit_cons {α : Type} (g : Nat → α → Bool) (a : α) (l : List α) :
    ((a :: l).mapIdx fun k a => bit k (g k a)).sum = (g 0 a).toNat + 2 * (l.mapIdx fun k a => bit k (g (k + 1) a)).sum := by
  have double : (l.mapIdx fun k a => bit (k + 1) (g (k + 1) a)).sum = 2 * (l.mapIdx fun k a => bit k (g (k + 1) a)).sum := by
    have := List.sum_map_mul_left (l.mapIdx fun k a => bit k (g (k + 1) a)) id 2
    rw [List.map_id] at this
    rw [← this]
    congr 1
    refine List.ext_getElem? fun i => ?_
    cases h : l[i]? <;> simp [h, bit_succ]
  rw [List.mapIdx_cons, List.sum_cons, double, show bit 0 (g 0 a) = (g 0 a).toNat by cases g 0 a <;> rfl]

/-- Members that a list names by their places, at their weights. -/
theorem testBit_mapIdx_bit {α : Type} (g : Nat → α → Bool) (l : List α) (i : Nat) :
    ((l.mapIdx fun k a => bit k (g k a)).sum).testBit i = (l[i]?).any (g i) := by
  induction l generalizing g i with
  | nil => simp
  | cons a l ih =>
    rw [sum_mapIdx_bit_cons]
    cases i with
    | zero =>
      rw [Nat.testBit_zero]
      cases h : g 0 a <;> simp [h]
    | succ i =>
      rw [Nat.testBit_succ, List.getElem?_cons_succ, ← ih fun k => g (k + 1)]
      congr 1
      have := Bool.toNat_le (g 0 a)
      omega

theorem setCode_eq (l : List Bool) : setCode l = (l.mapIdx fun k b => bit k b).sum := rfl

theorem setCode_lt (l : List Bool) : setCode l < 2 ^ l.length := by
  have bound : ∀ g : Nat → Bool → Bool, (l.mapIdx fun k b => bit k (g k b)).sum < 2 ^ l.length := by
    induction l with
    | nil => simp
    | cons a l ih =>
      intro g
      have := ih fun k => g (k + 1)
      have := Bool.toNat_le (g 0 a)
      rw [sum_mapIdx_bit_cons, List.length_cons, pow_succ]
      omega
  exact bound fun _ b => b

/-! ### Settings (R197) -/

theorem hold_nat (lo hi x : Nat) (h : lo ≤ hi) : (hold lo hi x).toNat = max lo (min hi x) := by
  unfold hold
  omega

/-- Holding moves a value exactly when it lies outside. -/
theorem hold_ne_iff {lo hi x : Int} (h : lo ≤ hi) : hold lo hi x ≠ x ↔ x < lo ∨ hi < x := by
  unfold hold
  omega

theorem outOfRange_eq (p : List Byte) : outOfRange p = (List.range 13).map (offeredOutside p) := by
  have byte : ∀ (lo hi x : Nat), lo ≤ hi → (decide (hold (lo : Int) hi x ≠ x) = decide (x < lo ∨ hi < x)) := fun lo hi x h =>
    decide_eq_decide.2 (by rw [hold_ne_iff (by omega)]; omega)
  have upper : ∀ (hi x : Nat), decide (hold 0 (hi : Int) x ≠ x) = decide (hi < x) := fun hi x =>
    decide_eq_decide.2 (by rw [hold_ne_iff (by omega)]; omega)
  have temp : decide (hold Config.minTemp Config.maxTemp (s16 p 11) ≠ s16 p 11) = decide (s16 p 11 < -160 ∨ 400 < s16 p 11) :=
    decide_eq_decide.2 (hold_ne_iff (by decide))
  exact congrArg₂ List.cons (upper 15 _) <| congrArg₂ List.cons (byte 2 8 _ (by decide)) <| congrArg₂ List.cons (upper 3 _) <|
    congrArg₂ List.cons (upper 160 _) <| congrArg₂ List.cons (byte 1 16 _ (by decide)) <| congrArg₂ List.cons (upper 1 _) <|
    congrArg₂ List.cons (byte 2 30 _ (by decide)) <| congrArg₂ List.cons (upper 3 _) <|
    congrArg₂ List.cons (byte 1 20 _ (by decide)) <| congrArg₂ List.cons temp <| congrArg₂ List.cons (upper 63 _) rfl

theorem heldSet_testBit (p : List Byte) (sel k : Nat) : (heldSet sel p).testBit k = (sel.testBit k && offeredOutside p k) := by
  rw [heldSet, testBit_mapIdx_bit (fun k out => out && member sel k), outOfRange_eq]
  by_cases h : k < 13
  · simp [h, member, Bool.and_comm]
  · obtain ⟨j, rfl⟩ := Nat.exists_eq_add_of_le' (Nat.le_of_not_lt h)
    have none : offeredOutside p (j + 13) = false := rfl
    simp [none]

/-- Settles O26: each setting is selected by its member, and holding a value within `lo..hi` is taking the nearest value of the range. -/
theorem settingsAreHeld : Obligations.SettingsAreHeld := by
  intro p o hp
  refine ⟨?_, heldSet_testBit p (u16 p 0)⟩
  have within : ∀ (lo hi x : Nat), lo ≤ hi → (hold (lo : Int) hi x).toNat = max lo (min hi x) := hold_nat
  have below : ∀ (hi x : Nat), (hold 0 (hi : Int) x).toNat = min hi x := fun hi x => by
    simpa using within 0 hi x (Nat.zero_le _)
  have window : decide (u8 p 7 ≠ 0) = decide (1 ≤ u8 p 7) := decide_eq_decide.2 Nat.one_le_iff_ne_zero.symm
  have offered : offeredSettings p =
      { gain := min 15 (u8 p 2), deriveSpan := max 2 (min 8 (u8 p 3)), borrowDistance := min 3 (u8 p 4), deriveWarn := min 160 (u8 p 5)
        keepPeriod := max 1 (min 16 (u8 p 6)), windowMode := decide (1 ≤ u8 p 7), jumpTimeout := max 2 (min 30 (u8 p 8))
        jumpRetries := min 3 (u8 p 9), settleTime := max 1 (min 20 (u8 p 10)), hotLimit := max (-160) (min 400 (s16 p 11))
        tripMargin := min 63 (u8 p 13), guardBand := u8 p 14, enables := BitVec.ofNat 13 (u16 p 15) } := by
    rw [offeredSettings, Settings.mk.injEq]
    exact ⟨below 15 _, within 2 8 _ (by decide), below 3 _, below 160 _, within 1 16 _ (by decide), window, within 2 30 _ (by decide),
      below 3 _, within 1 20 _ (by decide), rfl, below 63 _, rfl, rfl⟩
  rw [offered]
  rfl

/-! ### Quantities written and read -/

theorem toNat_byte {n : Nat} (h : n ≤ 255) : (BitVec.ofNat 8 n).toNat = n := by
  rw [BitVec.toNat_ofNat]
  omega

section
variable {p : List Byte} {i : Nat}

theorem u8_of_getElem? {b : Byte} (h : p[i]? = some b) : u8 p i = b.toNat := by simp [u8, h]

theorem u8_at {n : Nat} (h : p[i]? = some (BitVec.ofNat 8 n)) (hn : n ≤ 255) : u8 p i = n := by rw [u8_of_getElem? h, toNat_byte hn]

theorem u16_at {n : Nat} (h0 : p[i]? = some (BitVec.ofNat 8 (n / 256))) (h1 : p[i + 1]? = some (BitVec.ofNat 8 n)) (hn : n ≤ 65535) :
    u16 p i = n := by
  rw [u16, u8_of_getElem? h0, u8_of_getElem? h1, BitVec.toNat_ofNat, BitVec.toNat_ofNat]
  omega

theorem u24_at {n : Nat} (h0 : p[i]? = some (BitVec.ofNat 8 (n / 65536))) (h1 : p[i + 1]? = some (BitVec.ofNat 8 (n / 256)))
    (h2 : p[i + 2]? = some (BitVec.ofNat 8 n)) (hn : n ≤ 16777215) : u24 p i = n := by
  rw [u24, u16, u8_of_getElem? h0, u8_of_getElem? h1, u8_of_getElem? h2]
  simp only [BitVec.toNat_ofNat]
  omega

theorem s8_at {z : Int} (h : p[i]? = some (BitVec.ofNat 8 (z % 256).toNat)) (hz : -128 ≤ z ∧ z ≤ 127) : s8 p i = z := by
  rw [s8, u8_at h (by omega)]
  split <;> omega

theorem s16_at {z : Int} (h0 : p[i]? = some (BitVec.ofNat 8 ((z % 65536).toNat / 256)))
    (h1 : p[i + 1]? = some (BitVec.ofNat 8 (z % 65536).toNat)) (hz : -32768 ≤ z ∧ z ≤ 32767) : s16 p i = z := by
  rw [s16, u16_at h0 h1 (by omega)]
  split <;> omega

end

/-! ### The record image (R17) -/

theorem putU8_recState (st : RecState) : putU8 st.toNat = match st with
    | .provisional => [1]
    | .active => [2]
    | .suspect => [3]
    | .retiring => [4] := by cases st <;> rfl

theorem recordImage_eq (gen : Nat) (r : Record) : recordImage gen r = imageBytes gen r := by
  unfold recordImage imageBytes putKey putShape putOverrides
  rw [putU8_recState, show putOverride = fun o => putU8 o.len ++ putS8 o.lead ++ putS8 o.cool from rfl]
  simp only [List.append_assoc] <;> rfl

theorem flatMap_putOverride_length (os : List Override) : (os.flatMap putOverride).length = 3 * os.length := by
  induction os with
  | nil => rfl
  | cons o os ih => simp [ih, putOverride, putU8, putS8]; omega

theorem putOverrides_length (os : List Override) : (putOverrides os).length = 13 := by
  simp [putOverrides, putU8]

/-- The three bytes of entry `k` of a list of at most four. -/
theorem putOverrides_getElem? {os : List Override} (h : os.length ≤ 4) {k : Nat} (hk : k < os.length) {j : Nat} (hj : j < 3) :
    (putOverrides os)[1 + (3 * k + j)]? = (putOverride os[k])[j]? := by
  have entries : ∀ (os : List Override) (k : Nat) (hk : k < os.length), (os.flatMap putOverride)[3 * k + j]? = (putOverride os[k])[j]? := by
    intro os
    induction os with
    | nil => exact fun k hk => absurd hk (Nat.not_lt_zero k)
    | cons o os ih =>
      intro k hk
      cases k with
      | zero =>
        rw [List.flatMap_cons, Nat.mul_zero, Nat.zero_add, List.getElem?_append_left (by simpa [putOverride, putU8, putS8] using hj)]
        rfl
      | succ k =>
        have := ih k (by simpa using hk)
        have three : (putOverride o).length = 3 := rfl
        rw [List.flatMap_cons, List.getElem?_append_right (by omega)]
        rw [show 3 * (k + 1) + j - (putOverride o).length = 3 * k + j by omega]
        simpa using this
  have len := flatMap_putOverride_length os
  rw [putOverrides, putU8, List.getElem?_append_right (by simp), ← entries os k hk, List.getElem?_take,
    if_pos (by simp; omega), List.getElem?_append_left (by simp only [List.length_singleton]; omega)]
  simp

theorem overrideInRange_iff (o : Override) : o.inRange = true ↔
    2 ≤ o.len ∧ o.len ≤ 8 ∧ -8 ≤ o.lead ∧ o.lead ≤ 7 ∧ -8 ≤ o.cool ∧ o.cool ≤ 7 := decide_eq_true_iff

/-- A record image in three parts: the fifteen bytes before the override list, the list, and the bytes behind it. -/
theorem imageBytes_parts (gen : Nat) (r : Record) : imageBytes gen r =
    (putKey r.key ++ putShape r.strat) ++ (putOverrides r.strat.overrides ++ (putU8 r.strat.dt ++ putS16 r.corr ++ putU24 r.onTime
      ++ putU24 r.ageThreshold ++ putU8 r.state.toNat ++ putU8 gen ++ putU8 r.pins)) := by
  simp only [imageBytes, List.append_assoc]

theorem getElem?_front {a b : List Byte} {i : Nat} {x : Byte} (h : a[i]? = some x) : (a ++ b)[i]? = some x := by
  rw [List.getElem?_append_left (List.getElem?_eq_some_iff.1 h).1, h]

theorem getElem?_behind {a b : List Byte} {n i : Nat} {x : Byte} (ha : a.length = n) (h : b[i]? = some x) : (a ++ b)[n + i]? = some x := by
  rw [List.getElem?_append_right (by omega), ← h]
  congr 1
  omega

theorem strategy_eq {st : Strategy} {pp ps pc tf tm tl tc dt : Nat} {dT : Int} {os : List Override} (hpp : pp = st.pp) (hps : ps = st.ps)
    (hpc : pc = st.pc) (hdT : dT = st.dT) (htf : tf = st.tf) (htm : tm = st.tm) (htl : tl = st.tl) (htc : tc = st.tc)
    (hos : os = st.overrides) (hdt : dt = st.dt) :
    { pp, ps, pc, dT, tf, tm, tl, tc, overrides := os, dt : Strategy } = st := by
  subst_vars
  rfl

theorem key_eq {k : Key} {media layer zone speed : Nat} (hm : media = k.media) (hl : layer = k.layer) (hz : zone = k.zone)
    (hs : speed = k.speed) : { media, layer, zone, speed : Key } = k := by
  subst_vars
  rfl

theorem override_eq {o : Override} {len : Nat} {lead cool : Int} (hn : len = o.len) (hl : lead = o.lead) (hc : cool = o.cool) :
    { len, lead, cool : Override } = o := by
  subst_vars
  rfl

section
variable (gen : Nat) (r : Record)

/-- The first fifteen bytes of an image: the key, the powers and the shape. -/
def imageFront : List Byte :=
  [BitVec.ofNat 8 r.key.media, BitVec.ofNat 8 r.key.layer, BitVec.ofNat 8 r.key.zone, BitVec.ofNat 8 r.key.speed,
    BitVec.ofNat 8 (r.strat.pp / 256), BitVec.ofNat 8 r.strat.pp, BitVec.ofNat 8 (r.strat.ps / 256), BitVec.ofNat 8 r.strat.ps,
    BitVec.ofNat 8 (r.strat.pc / 256), BitVec.ofNat 8 r.strat.pc, BitVec.ofNat 8 (r.strat.dT % 256).toNat, BitVec.ofNat 8 r.strat.tf,
    BitVec.ofNat 8 r.strat.tm, BitVec.ofNat 8 r.strat.tl, BitVec.ofNat 8 r.strat.tc]

/-- The twelve bytes of an image behind the override list. -/
def imageBack : List Byte :=
  [BitVec.ofNat 8 r.strat.dt, BitVec.ofNat 8 ((r.corr % 65536).toNat / 256), BitVec.ofNat 8 (r.corr % 65536).toNat,
    BitVec.ofNat 8 (r.onTime / 65536), BitVec.ofNat 8 (r.onTime / 256), BitVec.ofNat 8 r.onTime, BitVec.ofNat 8 (r.ageThreshold / 65536),
    BitVec.ofNat 8 (r.ageThreshold / 256), BitVec.ofNat 8 r.ageThreshold, BitVec.ofNat 8 r.state.toNat, BitVec.ofNat 8 gen,
    BitVec.ofNat 8 r.pins]

theorem imageBytes_eq : imageBytes gen r = imageFront r ++ (putOverrides r.strat.overrides ++ imageBack gen r) := imageBytes_parts gen r

variable {gen r}

theorem image_front {i : Nat} {x : Byte} (h : (imageFront r)[i]? = some x) : (imageBytes gen r)[i]? = some x := by
  rw [imageBytes_eq]
  exact getElem?_front h

theorem image_middle {i : Nat} {x : Byte} (h : (putOverrides r.strat.overrides)[i]? = some x) : (imageBytes gen r)[15 + i]? = some x := by
  rw [imageBytes_eq]
  exact getElem?_behind rfl (getElem?_front h)

theorem image_back (i : Nat) {x : Byte} (h : (imageBack gen r)[i]? = some x) : (imageBytes gen r)[28 + i]? = some x := by
  rw [imageBytes_eq, show 28 + i = 15 + (13 + i) by omega]
  exact getElem?_behind rfl (getElem?_behind (putOverrides_length r.strat.overrides) h)

theorem image_overrides (h : overridesInRange r.strat.overrides.length r.strat.overrides = true) :
    u8 (imageBytes gen r) 15 = r.strat.overrides.length
      ∧ (List.range (min r.strat.overrides.length 4)).map (fun k => readOverride (imageBytes gen r) (16 + 3 * k)) = r.strat.overrides := by
  obtain ⟨hcount, hentries⟩ := Bool.and_eq_true_iff.1 h
  have four := of_decide_eq_true hcount
  refine ⟨u8_at (image_middle (i := 0) rfl) (by omega), List.ext_getElem (by simp [four]) fun k hk hk' => ?_⟩
  obtain ⟨hlen0, hlen, hlead0, hlead, hcool0, hcool⟩ := (overrideInRange_iff _).1 (List.all_eq_true.1 hentries _ (List.getElem_mem hk'))
  have entry : ∀ (j : Nat) (x : Byte), j < 3 → (putOverride r.strat.overrides[k])[j]? = some x →
      (imageBytes gen r)[16 + 3 * k + j]? = some x := fun j x hj h => by
    rw [← putOverrides_getElem? four hk' hj] at h
    rw [show 16 + 3 * k + j = 15 + (1 + (3 * k + j)) by omega]
    exact image_middle h
  rw [List.getElem_map, List.getElem_range, readOverride]
  exact override_eq (u8_at (entry 0 _ (by decide) rfl) (by omega)) (s8_at (entry 1 _ (by decide) rfl) (by omega))
    (s8_at (entry 2 _ (by decide) rfl) (by omega))

theorem image_key (h : r.key.media ≤ 7 ∧ r.key.layer ≤ 3 ∧ r.key.zone ≤ 23 ∧ r.key.speed ≤ 3) : readKey (imageBytes gen r) 0 = r.key :=
  key_eq (u8_at (image_front rfl) (by omega)) (u8_at (image_front rfl) (by omega)) (u8_at (image_front rfl) (by omega))
    (u8_at (image_front rfl) (by omega))

theorem image_strategy (h : Safety.strategyInRange r.strat = true) : (readImage (imageBytes gen r) 0).strat = r.strat := by
  obtain ⟨hpowers, hshape, hover, hdt, -, -⟩ := (strategyInRange_iff r.strat).1 h
  obtain ⟨hpp0, hpp, hps, hpc⟩ := of_decide_eq_true hpowers
  obtain ⟨hdT0, hdT, htf0, htf, htm0, htm, htl0, htl, htc⟩ := of_decide_eq_true hshape
  obtain ⟨count, entries⟩ := image_overrides (gen := gen) hover
  simp only [readImage, Nat.zero_add, count]
  have small : Config.maxPower = 1200 := rfl
  exact strategy_eq (u16_at (image_front rfl) (image_front rfl) (by omega)) (u16_at (image_front rfl) (image_front rfl) (by omega))
    (u16_at (image_front rfl) (image_front rfl) (by omega)) (s8_at (image_front rfl) (by omega)) (u8_at (image_front rfl) (by omega))
    (u8_at (image_front rfl) (by omega)) (u8_at (image_front rfl) (by omega)) (u8_at (image_front rfl) (by omega)) entries
    (u8_at (image_back 0 rfl) hdt)

theorem image_round_trip (hg : gen ≤ 255) (hr : Safety.recordInRange r = true) (hp : r.pins ≤ 6) :
    (imageBytes gen r).length = 40
      ∧ readImage (imageBytes gen r) 0
          = { key := r.key, strat := r.strat, overrideCount := r.strat.overrides.length, corr := r.corr, ageThreshold := r.ageThreshold }
      ∧ u24 (imageBytes gen r) 31 = r.onTime ∧ u8 (imageBytes gen r) 38 = gen ∧ u8 (imageBytes gen r) 39 = r.pins := by
  obtain ⟨hkey, hstrat, hcorr, hon, hage⟩ := (recordInRange_iff r).1 hr
  obtain ⟨-, -, hover, -⟩ := (strategyInRange_iff r.strat).1 hstrat
  obtain ⟨hcorr0, hcorr1⟩ := of_decide_eq_true hcorr
  have limit : Config.maxCorr = 160 := rfl
  refine ⟨by rw [imageBytes_eq]; simp [imageFront, imageBack, putOverrides_length], ?_, ?_, ?_, ?_⟩
  · refine (Image.mk.injEq ..).mpr ⟨image_key hkey, image_strategy hstrat, (image_overrides hover).1,
      s16_at (image_back 1 rfl) (image_back 2 rfl) (by omega), u24_at (image_back 6 rfl) (image_back 7 rfl) (image_back 8 rfl) hage⟩
  · exact u24_at (image_back 3 rfl) (image_back 4 rfl) (image_back 5 rfl) hon
  · exact u8_at (image_back 10 rfl) hg
  · exact u8_at (image_back 11 rfl) (by omega)

end

end Sys2Proof.Machine
end

section
/-! SUPPORT. The layouts of R207, continued: filters, quantities and codes, and the read requests that write them. -/

namespace Sys2Proof.Machine

open Sys2Proof.Stated

/-! ### Key filters (R18) -/

theorem readFilterField_put {o : Option Nat} {top : Nat} (ht : top ≤ 254) (h : o.all (· ≤ top) = true) :
    readFilterField (o.getD 255 % 256) top = some o := by
  cases o with
  | none => rfl
  | some n =>
    have hn : n ≤ top := by simpa using h
    rw [Option.getD_some, Nat.mod_eq_of_lt (by omega), readFilterField, if_neg (by omega), if_pos hn]

theorem readFilterZone_put {lo hi : Nat} (h : lo ≤ hi ∧ hi ≤ 23) : readFilterZone (lo % 256) (hi % 256) = some (some (lo, hi)) := by
  rw [Nat.mod_eq_of_lt (by omega), Nat.mod_eq_of_lt (by omega), readFilterZone, if_neg (by omega), if_pos h]

theorem readFilter_filterBytes {f : KeyFilter} (hm : f.media.all (· ≤ 7) = true) (hl : f.layer.all (· ≤ 3) = true)
    (hz : f.zone.all (fun z => decide (z.1 ≤ z.2 ∧ z.2 ≤ 23)) = true) (hs : f.speed.all (· ≤ 3) = true) :
    readFilter (filterBytes f) 0 = some f := by
  have media := readFilterField_put (by decide) hm
  have layer := readFilterField_put (by decide) hl
  have speed := readFilterField_put (by decide) hs
  obtain ⟨fm, fl, fz, fs⟩ := f
  cases fz with
  | none =>
    have zone : readFilterZone 255 255 = some none := rfl
    simp_all [readFilter, filterBytes, u8, putU8]
  | some z =>
    obtain ⟨lo, hi⟩ := z
    have zone := readFilterZone_put (of_decide_eq_true hz)
    simp_all [readFilter, filterBytes, u8, putU8]

/-! ### Quantities (R207) -/

theorem s8_eq_toInt (p : List Byte) (i : Nat) : s8 p i = (p.getD i 0).toInt := by
  rw [s8, u8, BitVec.toInt_eq_toNat_cond]
  have := (p.getD i 0).isLt
  split <;> split <;> omega

theorem s16_eq_toInt (p : List Byte) (i : Nat) : s16 p i = (p.getD i 0 ++ p.getD (i + 1) 0 : BitVec 16).toInt := by
  have low := (p.getD (i + 1) 0).isLt
  have whole : (p.getD i 0 ++ p.getD (i + 1) 0 : BitVec 16).toNat = u16 p i := by
    rw [BitVec.toNat_append, ← Nat.shiftLeft_add_eq_or_of_lt low, Nat.shiftLeft_eq]
    rfl
  rw [s16, BitVec.toInt_eq_toNat_cond, whole]
  split <;> split <;> omega

theorem putS8_eq (z : Int) : putS8 z = [BitVec.ofInt 8 z] := by
  rw [putS8, putU8]
  refine congrArg (fun b => [b]) (BitVec.eq_of_toNat_eq ?_)
  rw [BitVec.toNat_ofNat, BitVec.toNat_ofInt]
  omega

theorem putS16_eq (z : Int) : putS16 z = [(BitVec.ofInt 16 z).extractLsb' 8 8, (BitVec.ofInt 16 z).extractLsb' 0 8] := by
  have value : (BitVec.ofInt 16 z).toNat = (z % 65536).toNat := by rw [BitVec.toNat_ofInt]; rfl
  refine congrArg₂ (fun a b => [a, b]) (BitVec.eq_of_toNat_eq ?_) (BitVec.eq_of_toNat_eq ?_)
  · rw [BitVec.toNat_ofNat, BitVec.extractLsb'_toNat, value, Nat.shiftRight_eq_div_pow]
  · rw [BitVec.toNat_ofNat, BitVec.extractLsb'_toNat, value, Nat.shiftRight_zero]

theorem putU48_eq (n : Nat) : putU48 n = [5, 4, 3, 2, 1, 0].map fun k => BitVec.ofNat 8 (n / 256 ^ k) := by
  simp [putU48, putU24, putU16, putU8, Nat.div_div_eq_div_mul]

/-! ### Codes of named values (R207) -/

theorem ofCode?_eq (n : Nat) :
    CounterEvent.ofCode? n = (if n = 0 then some none else if n ≤ 15 then (counterEvents[n - 1]?).map some else none) := by
  by_cases h : n ≤ 15
  · interval_cases n <;> rfl
  · obtain ⟨m, rfl⟩ := Nat.exists_eq_add_of_le' (Nat.lt_of_not_le h)
    rw [if_neg (by omega), if_neg (by omega)]
    rfl

theorem causes_toNat (c : HoldCauses) : c.toNat = setCode [c.keepExpired, c.keepEarly, c.gateEarly, c.overpower, c.supplyTrip] := by
  simp [setCode, HoldCauses.toNat, bit]
  omega

theorem warnings_toNat (w : Warnings) :
    w.toNat = setCode [w.suspectSource, w.shape, w.clamped, w.overdrive, w.corrLimit, w.staleWriteback] := by
  simp [setCode, Warnings.toNat, bit]
  omega

/-- Settles O24: each layout is written byte by byte in its order and read back field by field. -/
theorem imagesRoundTrip : Obligations.ImagesRoundTrip := by
  refine ⟨fun gen r hg hr hp => ?_, fun f hm hl hz hs => readFilter_filterBytes hm hl hz hs, fun p i => ?_, fun n z => ?_, fun f => rfl, ?_,
    fun n => ?_, causes_toNat, warnings_toNat⟩
  · rw [recordImage_eq]
    exact image_round_trip hg hr hp
  · refine ⟨rfl, ?_, ?_, ?_, s8_eq_toInt p i, s16_eq_toInt p i⟩
    · simp only [u16, u8, Nat.add_zero, Nat.mul_comm]
    · simp only [u24, u16, u8, Nat.add_zero]
      ring
    · rw [u48, Nat.mul_comm]
  · refine ⟨by simp [putU8], by simp [putU16, putU8], by simp [putU24, putU16, putU8], putU48_eq n, putS8_eq z, putS16_eq z⟩
  · decide
  · refine ⟨?_, ?_, ofCode?_eq n⟩ <;> match n with
      | 0 | 1 | 2 | 3 => rfl
      | n + 4 => rfl

end Sys2Proof.Machine
end

section
/-! SUPPORT. The requests that read and those of the settings, the notices and the counters: their answers byte by byte. -/

namespace Sys2Proof.Machine

open Sys2Proof.Stated

/-- A request frame taken by the idle port is served (R188, R189). -/
theorem exec_frame {c : HostWrite → Instr} {code : Byte} {len : Nat} {serve : List Byte → State → State} {p : List Byte} {s : State}
    (h : ∀ w s, exec (c w) s = .next (request code len w serve s)) (idle : s.cpt.port = .idle) (hp : p.length = len) (hl : len < 65536) :
    exec (c (frame p)) s = .next (clocked (frame p) s (serve p s)) := by
  subst hp
  rw [h, request_frame code serve p s idle hl]

/-! ### Settings, notices and counters -/

theorem setCode_thirteen (b0 b1 b2 b3 b4 b5 b6 b7 b8 b9 b10 b11 b12 : Bool) :
    setCode [b0, b1, b2, b3, b4, b5, b6, b7, b8, b9, b10, b11, b12]
      = bit 0 b0 + bit 1 b1 + bit 2 b2 + bit 3 b3 + bit 4 b4 + bit 5 b5 + bit 6 b6 + bit 7 b7 + bit 8 b8 + bit 9 b9 + bit 10 b10
        + bit 11 b11 + bit 12 b12 := by
  rw [setCode_eq]
  simp only [List.mapIdx_cons, List.mapIdx_nil, List.sum_cons, List.sum_nil, Nat.reduceAdd]
  omega

theorem kinds_toNat (n : Notices) : n.kinds.toNat = kindSet n := by
  rw [Notices.kinds, ← setCode_thirteen, BitVec.toNat_ofNat]
  exact Nat.mod_eq_of_lt (setCode_lt _)

theorem noticesPayload_eq (n : Notices) (enables : BitVec 13) : noticesPayload n enables = noticesAnswer n enables := by
  have wrap : putU8 ((n.counterWrap.map (·.toNat)).getD 0) = match n.counterWrap with
      | some w => putU8 w.toNat
      | none => [0] := by cases n.counterWrap <;> rfl
  have reset : putU8 ((n.reset.map (·.toNat)).getD 0) = match n.reset with
      | some .pin => [1]
      | some .command => [2]
      | _ => [0] := by
    cases n.reset with
    | none => rfl
    | some c => cases c <;> rfl
  rw [noticesPayload, kinds_toNat, wrap, reset]
  rfl

theorem counterEvents_idxOf (ev : CounterEvent) : counterEvents.idxOf ev + 1 = ev.toNat := by cases ev <;> rfl

theorem putU32_eq (n : Nat) : putU32 n = putU8 (n / 16777216) ++ putU24 n := by
  simp [putU32, putU24, putU16, putU8, Nat.div_div_eq_div_mul]

theorem putFilter_eq (f : KeyFilter) : putFilter f = filterBytes f := by
  obtain ⟨media, layer, zone, speed⟩ := f
  cases zone <;> rfl

theorem counterImage_eq (c : Counter) : c.image = counterAnswer c := by
  have event : putU8 ((c.event.map (·.toNat)).getD 0) = match c.event with
      | some ev => putU8 (counterEvents.idxOf ev + 1)
      | none => [0] := by
    cases c.event with
    | none => rfl
    | some ev => exact congrArg putU8 (counterEvents_idxOf ev).symm
  rw [Counter.image, event, putU32_eq, putFilter_eq, counterAnswer]
  simp only [List.append_assoc] <;> rfl

/-! ### Key filters that are refused -/

theorem readFilterField_isSome (n top : Nat) : (readFilterField n top).isSome = decide (n ≤ top ∨ n = 255) := by
  unfold readFilterField
  split <;> [skip; split] <;> simp <;> omega

theorem readFilterZone_isSome (lo hi : Nat) :
    (readFilterZone lo hi).isSome = decide (lo ≤ hi ∧ hi ≤ 23 ∨ lo = 255 ∧ hi = 255) := by
  unfold readFilterZone
  split <;> [skip; split] <;> simp <;> omega

/-- A filter is read exactly when its fields lie within their bounds (R18). -/
theorem readFilter_isSome (p : List Byte) (i : Nat) : (readFilter p i).isSome = filterFits p i := by
  have bind : ∀ {α β : Type} (o : Option α) (f : α → Option β), (o.bind f).isSome = o.any fun a => (f a).isSome := by
    intro α β o f
    cases o <;> rfl
  simp only [readFilter, filterFits, ← readFilterField_isSome, ← readFilterZone_isSome, Nat.add_zero]
  cases readFilterField (u8 p i) 7 <;> cases readFilterField (u8 p (i + 1)) 3 <;> cases readFilterZone (u8 p (i + 2)) (u8 p (i + 3))
    <;> cases readFilterField (u8 p (i + 4)) 3 <;> rfl

theorem ofCode?_eq_none {n : Nat} (h : 15 < n) : CounterEvent.ofCode? n = none := by
  rw [ofCode?_eq, if_neg (by omega), if_neg (by omega)]

/-- Settles O25: each request taken by the idle port is served, and its answer is written in the order of the layout. -/
theorem settingsNoticesAndCounters : Obligations.SettingsNoticesAndCounters := by
  intro s idle
  refine ⟨fun p hp sel => ?_, fun p hp sel => ?_, ?_, fun p ev f hp hk hev hf => ?_, fun p hp bad => ?_, fun b hb => ?_, fun b hb => ?_⟩
  · rw [exec_frame (c := .settings) (fun _ _ => rfl) idle hp (by decide), serveSettings, if_neg (by omega)]
    rfl
  · rw [exec_frame (c := .settings) (fun _ _ => rfl) idle hp (by decide), serveSettings, if_pos sel]
    rfl
  · rw [exec_frame (c := .noticesRead) (fun _ _ => rfl) idle rfl (by decide), serveNoticesRead, noticesPayload_eq]
    rfl
  · rw [exec_frame (c := .counterSet) (fun _ _ => rfl) idle hp (by decide), serveCounterSet, if_neg (by omega)]
    simp only [hev, hf]
    rfl
  · rw [exec_frame (c := .counterSet) (fun _ _ => rfl) idle hp (by decide)]
    refine congrArg (fun t => Host.Outcome.next (clocked (frame p) s t)) ?_
    unfold serveCounterSet
    split
    · rfl
    · next number =>
      split
      · rfl
      · next ev hev =>
        obtain h | h | h := bad
        · exact absurd h number
        · rw [ofCode?_eq_none h] at hev; cases hev
        · rw [← readFilter_isSome] at h
          cases hf : readFilter p 2 with
          | none => rfl
          | some f => simp [hf] at h
  · rw [exec_frame (c := .counterRead) (fun _ _ => rfl) idle rfl (by decide), serveCounterRead,
      if_pos (show 15 < u8 [b] 0 from hb)]
    rfl
  · rw [exec_frame (c := .counterRead) (fun _ _ => rfl) idle rfl (by decide), serveCounterRead, if_neg (by simpa [u8] using hb)]
    simp only [funext counterImage_eq]
    rfl

end Sys2Proof.Machine
end

section
/-! SUPPORT. Refusals by the first check that fails, the requests that only read, and what SOFT_RESET leaves. -/

namespace Sys2Proof.Machine

open Sys2Proof.Stated

/-! ### Checks in order -/

@[simp] theorem firstRefusal_nil : firstRefusal [] = none := rfl

@[simp] theorem firstRefusal_cons (b : Bool) (st : Status) (rest : List (Bool × Status)) :
    firstRefusal ((b, st) :: rest) = if b = true then firstRefusal rest else some st := by
  cases b <;> rfl

/-- The checks of a handle come before those of the request that names it (R16). -/
theorem withHandle_refused {code : Byte} {i gen : Nat} {admits : Record → Bool} {more : List (Bool × Status)} {st : Status}
    {work : Record → State → State} {s : State} (len : s.stb.length = 96)
    (h : firstRefusal (handleChecks s i gen admits ++ more) = some st)
    (hw : ∀ r, s.stb[i]? = some { gen, held := some r } → firstRefusal ((admits r, .state) :: more) = some st →
      work r s = answerStatus code st s) :
    withHandle code i gen work s = answerStatus code st s := by
  simp only [handleChecks, List.cons_append, List.nil_append, firstRefusal_cons, State.record] at h
  unfold withHandle
  cases hp : s.stb[i]? with
  | none =>
    have outside : ¬ i ≤ 95 := by
      rw [List.getElem?_eq_none_iff] at hp
      omega
    simp only [outside, decide_false, Bool.false_eq_true, if_false, Option.some.injEq] at h
    subst h
    rfl
  | some p =>
    have inside : i ≤ 95 := by
      have := (List.getElem?_eq_some_iff.1 hp).1
      omega
    obtain ⟨g, held⟩ := p
    cases held with
    | none =>
      simp [hp, inside] at h
      subst h
      rfl
    | some r =>
      by_cases hg : g = gen
      · subst hg
        simpa using hw r hp (by simpa [hp, inside] using h)
      · simp [hp, inside, hg] at h
        subst h
        simp [hg]

/-- A handle that passes its checks names its record. -/
theorem withHandle_held {code : Byte} {i gen : Nat} {work : Record → State → State} {s : State} {r : Record}
    (h : s.stb[i]? = some { gen, held := some r }) : withHandle code i gen work s = work r s := by
  simp [withHandle, h]

/-! ### The requests that read -/

theorem layers_image {layers : List LayerSettings} (h : layers.length ≤ 4) :
    (layers.flatMap putLayer ++ List.replicate 24 0).take 24
      = (List.range 4).flatMap fun k => match layers[k]? with
          | some l => putU8 l.readPower ++ putU16 l.ceiling ++ putU24 l.ageDefault
          | none => [0, 0, 0, 0, 0, 0] := by
  match layers, h with
  | [], _ => rfl
  | [_], _ => rfl
  | [_, _], _ => rfl
  | [_, _, _], _ => rfl
  | [_, _, _, _], _ => rfl

theorem putFocus_eq (f : FocusState) : putFocus f = focusAnswer f := by cases f <;> rfl

theorem occupied_eq (q : Sgq) (c : CreditClass) : q.occupied c = q.queue.countP (·.cls = c) := by
  rw [Sgq.occupied, List.countP_eq_length_filter]

theorem entryImage_eq (e : Entry) : entryImage e = entryAnswer e := by
  unfold entryImage entryAnswer
  cases e.captured <;> rfl

theorem diodePayload_eq (s : State) : serveDiodeRead [] s = answer 49 .ok (diodeAnswer s) s := by
  simp only [serveDiodeRead, putDiode, putCodes, Plp.temp]
  unfold diodeAnswer
  cases s.plp.limits <;> simp only [List.append_assoc] <;> rfl

theorem pickupPayload_eq (s : State) : servePickupRead [] s = answer 66 .ok (pickupAnswer s) s := by
  have zone : putOpt (if s.pkp.valid then some (zoneOf s.pkp.zoneMap s.pkp.sled) else none)
      = if s.pkp.valid = true then putU8 (s.pkp.zoneMap.countP (· ≤ s.pkp.sled)) else [255] := by
    cases s.pkp.valid
    · rfl
    · simp [putOpt, zoneOf, List.countP_eq_length_filter]
  unfold servePickupRead pickupAnswer
  simp only [← zone, putFocus_eq]
  cases s.pkp.measurement <;> simp only [List.append_assoc] <;> rfl

theorem queuePayload_eq (s : State) : serveQueueRead [] s = answer 96 .ok (queueAnswer s) s := by
  simp only [serveQueueRead, queueAnswer, occupancyImage, occupied_eq, funext entryImage_eq]

theorem laserGroup_eq (s : State) :
    laserGroup s = putU8 s.lsc.laser.toNat ++ putU8 s.lsc.causes.toNat
      ++ (match s.lsc.ret with
        | some .lit => [1]
        | some .dark => [2]
        | none => [0])
      ++ putBool s.wgd.supplyWarn ++ putBool s.lines.ldwarn ++ putBool s.lines.ldtrip
      ++ (match s.wgd.keepalive with
        | some k => [1, BitVec.ofNat 8 k.count, BitVec.ofNat 8 k.k]
        | none => [0, 0, 0]) := by
  unfold laserGroup
  cases s.wgd.keepalive <;> cases s.lsc.ret with
  | none => simp only [List.append_assoc] <;> rfl
  | some r => cases r <;> simp only [List.append_assoc] <;> rfl

theorem tableGroup_eq (s : State) :
    tableGroup s = putOpt (s.mst.findIdx? (·.state = .mounted)) ++ putU8 (s.mst.countP (·.state = .free))
      ++ putU8 (s.stb.countP (·.held = none)) ++ putU8 ((Safety.held s.stb).countP (·.state = .retiring)) := by
  have retiring : s.stb.countP (fun p => p.held.any fun r => decide (r.state = .retiring))
      = (Safety.held s.stb).countP (·.state = .retiring) := by
    induction s.stb with
    | nil => rfl
    | cons p ps ih =>
      rw [List.countP_cons, ih]
      cases hp : p.held <;> simp [Safety.held, List.countP_cons, hp]
  have free : s.stb.countP (·.held.isNone) = s.stb.countP (·.held = none) := List.countP_congr fun p _ => by simp
  rw [tableGroup, retiring, free, State.mountedIndex]

theorem queueGroup_eq (s : State) :
    queueGroup s = putU8 (s.sgq.queue.countP (·.cls = .w)) ++ putU8 (s.sgq.queue.countP (·.cls = .r))
      ++ putU8 (s.sgq.queue.countP (·.cls = .s))
      ++ (match s.sgq.queue with
        | e :: _ => putU8 e.state.toNat
        | [] => [255])
      ++ putBool (decide (s.flk.side = .resync)) ++ putU8 s.flk.out.length := by
  unfold queueGroup
  simp only [occupied_eq]
  cases s.sgq.queue <;> cases s.flk.side <;> rfl

theorem statusPayload_eq (s : State) : serveStatus [] s = answer 129 .ok (statusAnswer s) s := by
  rw [serveStatus, laserGroup_eq, tableGroup_eq, queueGroup_eq, restGroup, kinds_toNat, putFocus_eq]
  unfold statusAnswer
  simp only [List.append_assoc] <;> rfl

/-- Settles O23: each request is served by the idle port, reads its block and writes the answer of its layout. -/
theorem readRequestsChangeNothing : Obligations.ReadRequestsChangeNothing := by
  intro s idle
  refine ⟨fun len i hi => ?_, fun len i gen st h => ?_, fun i m hm hl => ?_, fun i gen r hr => ?_, ?_, ?_, ?_, ?_, ?_⟩
  · rw [exec_frame (c := .mediaRead) (fun _ _ => rfl) idle rfl (by decide), serveMediaRead,
      show s.mst[u8 [i] 0]? = none from List.getElem?_eq_none (len ▸ hi)]
    rfl
  · rw [exec_frame (c := .recRead) (fun _ _ => rfl) idle rfl (by decide), serveRecRead]
    refine congrArg (fun t => Host.Outcome.next (clocked (frame [i, gen]) s t)) ?_
    refine withHandle_refused (admits := fun _ => true) (more := []) len ((List.append_nil _).symm ▸ h) fun r hr refusal => ?_
    simp at refusal
  · rw [exec_frame (c := .mediaRead) (fun _ _ => rfl) idle rfl (by decide), serveMediaRead, show s.mst[u8 [i] 0]? = some m from hm]
    simp only [Slot.image, layers_image hl]
    rfl
  · rw [exec_frame (c := .recRead) (fun _ _ => rfl) idle rfl (by decide), serveRecRead, recordImage_eq]
    exact congrArg (fun t => Host.Outcome.next (clocked (frame [i, gen]) s t)) (withHandle_held hr)
  · rw [exec_frame (c := .ident) (fun _ _ => rfl) idle rfl (by decide)]
    rfl
  · rw [exec_frame (c := .diodeRead) (fun _ _ => rfl) idle rfl (by decide), diodePayload_eq]
    rfl
  · rw [exec_frame (c := .pickupRead) (fun _ _ => rfl) idle rfl (by decide), pickupPayload_eq]
    rfl
  · rw [exec_frame (c := .queueRead) (fun _ _ => rfl) idle rfl (by decide), queuePayload_eq]
    rfl
  · rw [exec_frame (c := .status) (fun _ _ => rfl) idle rfl (by decide), statusPayload_eq]
    rfl

/-! ### SOFT_RESET -/

/-- Settles O19: the request is served by the idle port, and each table keeps what its rule names. -/
theorem softResetKeepsTheTables : Obligations.SoftResetKeepsTheTables := by
  intro f s idle
  refine ⟨_, exec_frame (c := fun w => .softReset ⟨w, f⟩) (serve := serveSoftReset f) (fun _ _ => rfl) idle rfl (by decide), ?_, fun i p hp => ?_, ?_, fun i m hm => ?_,
    rfl, rfl, rfl, rfl, rfl, rfl, rfl, rfl, rfl, rfl, rfl, rfl, rfl, rfl, rfl, rfl, rfl, rfl, rfl, rfl, rfl, rfl⟩
  · exact List.length_map ..
  · refine ⟨p.softReset, ?_, rfl, fun free => ?_, fun r hr => ?_⟩
    · exact (List.getElem?_map ..).trans (congrArg (Option.map Place.softReset) hp)
    · rw [place_softReset_held, free]; rfl
    · rw [place_softReset_held, show p.held = some r from hr]; rfl
  · exact List.length_mapIdx ..
  · rw [← retiringOf_eq]
    exact (List.getElem?_mapIdx ..).trans (congrArg (Option.map (Slot.softReset s.stb i)) hm)

end Sys2Proof.Machine
end

section
/-! SUPPORT. The media requests: which check refuses, and what an accepted request leaves. -/

namespace Sys2Proof.Machine

open Sys2Proof.Stated

/-- The first place of a list that passes a test. -/
theorem findIdx?_first {α : Type} {q : α → Bool} {l : List α} {i : Nat} {a : α} (hi : l[i]? = some a) (hq : q a = true)
    (hlt : ∀ j b, j < i → l[j]? = some b → q b = false) : l.findIdx? q = some i := by
  obtain ⟨hl, rfl⟩ := List.getElem?_eq_some_iff.1 hi
  refine List.findIdx?_eq_some_iff_getElem.2 ⟨hl, hq, fun j hj => ?_⟩
  simp [hlt j _ hj (List.getElem?_eq_getElem (hj.trans hl))]

/-- A slot changed, written as the slot put in its place. -/
theorem withSlot_eq {s : State} {i : Nat} {m : Slot} (h : s.mst[i]? = some m) (f : Slot → Slot) :
    s.withSlot i f = { s with mst := s.mst.set i (f m) } := by
  rw [State.withSlot, List.modify_eq_set_getElem?, h]
  rfl

theorem layerFits_eq (l : LayerSettings) : layerFits l = l.inRange := by
  simp only [layerFits, LayerSettings.inRange, show Config.maxPower = 1200 from rfl, show Config.maxOnTime = 16777215 from rfl, and_assoc]

/-! ### MEDIA_INSTALL (R25) -/

/-- MEDIA_INSTALL past its range checks: an identity held, a FREE slot, or neither. -/
theorem serveMediaInstall_checked {p : List Byte} (s : State) (hc : 1 ≤ u8 p 6 ∧ u8 p 6 ≤ 4)
    (hl : ((List.range (u8 p 6)).all fun k => layerFits (readLayer p 7 k)) = true) :
    serveMediaInstall p s =
      match s.mst.findIdx? fun m => decide (m.state ≠ .free ∧ m.identity = BitVec.ofNat 48 (u48 p 0)) with
      | some i => answer 16 .duplicate (putU8 i ++ putU8 ((s.mst[i]?).map (·.state.toNat) |>.getD 0)) s
      | none =>
        match s.mst.findIdx? (·.state = .free) with
        | none => answerStatus 16 .full s
        | some i =>
          answer 16 .ok (putU8 i) (s.withSlot i fun _ =>
            { state := .known, identity := BitVec.ofNat 48 (u48 p 0), layers := (List.range (u8 p 6)).map (readLayer p 7), records := 0 }) := by
  have fit : ((List.range (u8 p 6)).map (readLayer p 7)).all (·.inRange) = true := by
    simpa [List.all_map, Function.comp_def, ← layerFits_eq] using hl
  simp only [serveMediaInstall, Nat.min_eq_left hc.2, fit]
  rw [if_neg (by omega), if_neg (by simp)] <;> rfl

/-- Settles O29: the checks in their order, then the slot that holds the identity, then the lowest FREE slot. -/
theorem mediaInstallTakesLowestFreeSlot : Obligations.MediaInstallTakesLowestFreeSlot := by
  intro s p idle hp
  have served := exec_frame (c := .mediaInstall) (fun _ _ => rfl) idle hp (by decide)
  refine ⟨fun st h => ?_, fun h => ?_⟩ <;> rw [served]
  · refine congrArg (fun t => Host.Outcome.next (clocked (frame p) s t)) ?_
    simp only [firstRefusal_cons, firstRefusal_nil, decide_eq_true_eq] at h
    unfold serveMediaInstall
    by_cases counted : 1 ≤ u8 p 6 ∧ u8 p 6 ≤ 4
    · rw [if_pos counted] at h
      split at h
      · cases h
      · next layers =>
        obtain rfl := Option.some.inj h
        have unfit : (((List.range (u8 p 6)).map (readLayer p 7)).all (·.inRange)) = false := by
          simpa [List.all_map, Function.comp_def, ← layerFits_eq] using layers
        simp only [Nat.min_eq_left counted.2, unfit]
        rw [if_neg (by omega), if_pos (by simp)]
        rfl
    · rw [if_neg counted] at h
      obtain rfl := Option.some.inj h
      rw [if_pos (by omega)]
      rfl
  · simp only [firstRefusal_cons, firstRefusal_nil, decide_eq_true_eq] at h
    have counted : 1 ≤ u8 p 6 ∧ u8 p 6 ≤ 4 := by
      by_contra hc
      simp [hc] at h
    have layers : ((List.range (u8 p 6)).all fun k => layerFits (readLayer p 7 k)) = true := by
      by_contra hl
      simp [counted, hl] at h
    rw [serveMediaInstall_checked s counted layers]
    refine ⟨fun i m hm => ⟨fun new free lowest => ?_, fun taken identity lowest => ?_⟩, fun full => ?_⟩
    · rw [List.findIdx?_eq_none_iff.2 fun n hn => by simpa using new n hn,
        findIdx?_first hm (by simpa using free) fun j n hj hn => by simpa using lowest j n hj hn]
      simp only [withSlot_eq hm]
      rfl
    · rw [findIdx?_first hm (by simpa using ⟨taken, identity⟩) fun j n hj hn => by simpa using lowest j n hj hn]
      simp only [hm]
      rfl
    · rw [List.findIdx?_eq_none_iff.2 fun n hn => by simpa using fun _ => (full n hn).2,
        List.findIdx?_eq_none_iff.2 fun n hn => by simpa using (full n hn).1]
      rfl

/-! ### MEDIA_RETIRE and MEDIA_AMEND (R29, R30) -/

/-- The checks of a slot come before those of the request that names it (R21). -/
theorem slotChecks_refusal {s : State} {i : Nat} {more : List (Bool × Status)} {st : Status} (len : s.mst.length = 8)
    (h : firstRefusal (slotChecks s i ++ more) = some st) :
    (s.mst[i]? = none ∧ st = .badField) ∨ ∃ m, s.mst[i]? = some m ∧
      (m.state = .free ∧ st = .notFound ∨ m.state ≠ .free ∧ firstRefusal more = some st) := by
  simp only [slotChecks, List.cons_append, List.nil_append, firstRefusal_cons, decide_eq_true_eq] at h
  cases hm : s.mst[i]? with
  | none =>
    rw [List.getElem?_eq_none_iff] at hm
    rw [if_neg (by omega)] at h
    exact .inl ⟨rfl, (Option.some.inj h).symm⟩
  | some m =>
    have := (List.getElem?_eq_some_iff.1 hm).1
    rw [if_pos (by omega)] at h
    by_cases hf : m.state = .free
    · simp [hm, hf] at h
      exact .inr ⟨m, rfl, .inl ⟨hf, h.symm⟩⟩
    · simp [hm, hf] at h
      exact .inr ⟨m, rfl, .inr ⟨hf, h⟩⟩

theorem freeOf_eq (i : Nat) (q : Place) :
    Place.freeOf i q = if q.held.any (fun r => decide (r.key.media = i)) then { q with held := none } else q := by
  unfold Place.freeOf
  cases hq : q.held with
  | none => simp
  | some r => by_cases hr : r.key.media = i <;> simp [hr]

/-- An entry past READY is one that does not wait (R30, R82). -/
theorem waits_eq (e : Entry) :
    decide (e.state = .arming ∨ e.state = .armed ∨ e.state = .active ∨ e.state = .closing) = !Safety.waits e := by
  unfold Safety.waits
  cases e.state <;> rfl

theorem any_past_eq (q : List Entry) :
    (q.any fun e => decide (e.state = .arming ∨ e.state = .armed ∨ e.state = .active ∨ e.state = .closing)) = !q.all Safety.waits := by
  simp only [waits_eq, List.not_all_eq_any_not]

theorem selectedLayers_contains (n k : Nat) : (selectedLayers n).contains k = decide (k < 4 ∧ n.testBit k = true) := by
  rw [List.contains_eq_mem]
  simp [selectedLayers, member]

/-- The checks of MEDIA_AMEND in the order of R30. -/
theorem serveMediaAmend_eq {p : List Byte} {s : State} {m : Slot} (hm : s.mst[u8 p 0]? = some m) (taken : m.state ≠ .free) :
    serveMediaAmend p s =
      if selectedLayers (u8 p 1) = [] ∨ !(selectedLayers (u8 p 1)).all (· < m.layers.length) then answerStatus 17 .badField s
      else if !(selectedLayers (u8 p 1)).all fun k => (readLayer p 2 k).inRange then answerStatus 17 .badField s
      else if m.state = .mounted ∧ s.sgq.queue.all Safety.waits = false then answerStatus 17 .inUse s
      else answerStatus 17 .ok { s with
        mst := s.mst.set (u8 p 0)
          { m with layers := m.layers.mapIdx fun k l => if k < 4 ∧ (u8 p 1).testBit k = true then readLayer p 2 k else l } } := by
  simp only [serveMediaAmend, hm, if_neg taken, any_past_eq, Bool.not_eq_true', withSlot_eq hm, selectedLayers_contains, decide_eq_true_eq]

/-- Settles O31: the slot's checks first, then those of the request, then the change. -/
theorem retiringAndAmendingASlot : Obligations.RetiringAndAmendingASlot := by
  intro s idle
  refine ⟨fun i m hm known => ?_, fun p m hp hm taken some_ fit use => ?_, fun len => ⟨fun i st h => ?_, fun p st hp => ?_⟩⟩
  · rw [exec_frame (c := .mediaRetire) (fun _ _ => rfl) idle rfl (by decide)]
    refine congrArg (fun t => Host.Outcome.next (clocked (frame [i]) s t)) ?_
    simp only [serveMediaRetire, show s.mst[u8 [i] 0]? = some m from hm, known, reduceCtorEq, if_false, funext (freeOf_eq _)]
    rfl
  · rw [exec_frame (c := .mediaAmend) (fun _ _ => rfl) idle hp (by decide), serveMediaAmend_eq hm taken]
    have chosen : ∀ k ∈ selectedLayers (u8 p 1), k < 4 ∧ (u8 p 1).testBit k = true := fun k hk => by
      simpa [selectedLayers, member] using hk
    rw [if_neg, if_neg, if_neg]
    · rfl
    · rintro ⟨mounted, past⟩
      simp [use mounted] at past
    · simpa using fun k hk => (fit k (chosen k hk).1 (chosen k hk).2).2
    · obtain ⟨k, hk, hbit⟩ := some_
      have hmem : k ∈ selectedLayers (u8 p 1) := by simp [selectedLayers, member, hk, hbit]
      rintro (none | outside)
      · simp [none] at hmem
      · obtain ⟨l, hl, hlen⟩ := by simpa using outside
        exact absurd (fit l (chosen l hl).1 (chosen l hl).2).1 (by omega)
  · rw [exec_frame (c := .mediaRetire) (fun _ _ => rfl) idle rfl (by decide)]
    refine congrArg (fun t => Host.Outcome.next (clocked (frame [i]) s t)) ?_
    obtain ⟨hm, rfl⟩ | ⟨m, hm, ⟨free, rfl⟩ | ⟨taken, h⟩⟩ := slotChecks_refusal len h
    · simp only [serveMediaRetire, show s.mst[u8 [i] 0]? = none from hm]
      rfl
    · simp only [serveMediaRetire, show s.mst[u8 [i] 0]? = some m from hm, if_pos free]
      rfl
    · by_cases mounted : m.state = .mounted
      · simp [hm, mounted] at h
        subst h
        simp only [serveMediaRetire, show s.mst[u8 [i] 0]? = some m from hm, if_neg taken, if_pos mounted]
        rfl
      · simp [hm, mounted] at h
  · intro slot chosen count h
    rw [exec_frame (c := .mediaAmend) (fun _ _ => rfl) idle hp (by decide)]
    refine congrArg (fun t => Host.Outcome.next (clocked (frame p) s t)) ?_
    obtain ⟨hm, rfl⟩ | ⟨m, hm, ⟨free, rfl⟩ | ⟨taken, h⟩⟩ := slotChecks_refusal len h
    · simp only [serveMediaAmend, hm]
      rfl
    · simp only [serveMediaAmend, hm, if_pos free]
      rfl
    · rw [serveMediaAmend_eq hm taken]
      have hcount : count = m.layers.length := by simp [count, slot, hm]
      have hchosen : chosen = selectedLayers (u8 p 1) := rfl
      simp only [firstRefusal_cons, firstRefusal_nil, hcount, hchosen, layerFits_eq] at h
      split at h
      · next named =>
        rw [if_neg (by simpa using named)]
        split at h
        · next fit =>
          rw [if_neg (by simpa using fit)]
          split at h
          · cases h
          · next use =>
            obtain rfl := Option.some.inj h
            rw [if_pos (by simpa [slot, hm] using use)]
            rfl
        · next unfit =>
          obtain rfl := Option.some.inj h
          rw [if_pos (by simpa using unfit)]
          rfl
      · next unnamed =>
        obtain rfl := Option.some.inj h
        rw [if_pos (by simpa [or_iff_not_imp_left] using unnamed)]
        rfl

end Sys2Proof.Machine
end

section
/-! SUPPORT. The record requests: which check refuses, and what an accepted request leaves. -/

namespace Sys2Proof.Machine

open Sys2Proof.Stated

/-! ### Places -/

theorem record_of_place {s : State} {i g : Nat} {r : Record} (h : s.stb[i]? = some { gen := g, held := some r }) : s.record i = some r := by
  simp [State.record, h]

theorem withPlace_congr {s : State} {i : Nat} {f g : Place → Place} (h : ∀ p, s.stb[i]? = some p → f p = g p) :
    s.withPlace i f = s.withPlace i g := by
  unfold State.withPlace
  rw [List.modify_eq_set_getElem?, List.modify_eq_set_getElem?]
  cases hp : s.stb[i]? with
  | none => rfl
  | some p => simp [h p hp]

/-- A place changed, written as the place put there. -/
theorem withPlace_eq {s : State} {i : Nat} {p : Place} (h : s.stb[i]? = some p) (f : Place → Place) :
    s.withPlace i f = { s with stb := s.stb.set i (f p) } := by
  rw [State.withPlace, List.modify_eq_set_getElem?, h]
  rfl

theorem gen_of_gens {s t : State} (h : t.gens = s.gens) (i : Nat) : (t.stb[i]?).map (·.gen) = (s.stb[i]?).map (·.gen) := by
  rw [← List.getElem?_map, ← List.getElem?_map]
  exact congrArg (·[i]?) h

/-- The count of the entries sent back (R57). -/
theorem sentBack_count (s : State) (p : Entry → Bool) :
    putU8 (s.sentBack p).length = [BitVec.ofNat 8 (s.sgq.queue.countP fun e => decide (e.state = .ready) && p e)] := by
  rw [State.sentBack, ← List.countP_eq_length_filter]
  rfl

/-- A record in service leaves it freed or RETIRING, by its pins (R66). -/
theorem leaveService_inService {s : State} {i : Nat} {r : Record} (h : s.record i = some r) (hs : r.state ≠ .retiring) :
    leaveService i s
      = if (s.record i).all (fun o => decide (o.pins = 0)) then freePlace i s else s.withRecord i ({ · with state := .retiring }) := by
  simp only [leaveService, h, if_neg hs, Option.all_some, decide_eq_true_eq]

/-- A record in service stays, with its pins, when entries re-resolve. -/
theorem Loosened.record_inService {s t : State} (h : Loosened s t) {i : Nat} {r : Record} (hr : s.record i = some r)
    (hs : r.state ≠ .retiring) : ∃ n ≤ r.pins, t.record i = some { r with pins := n } := by
  obtain ⟨-, retiring⟩ | kept := (h.2 i).2 r hr
  · exact absurd retiring hs
  · exact kept

theorem gens_leaveService (i : Nat) (s : State) : (leaveService i s).gens = s.gens := by
  unfold leaveService
  split
  · split
    · rfl
    · split <;> simp
  · rfl

/-! ### REC_RETIRE (R66) -/

/-- A record that has left service answers the outcome of its retire (R66). -/
theorem retireOutcome_leaveService {s : State} {i : Nat} {r : Record} (h : s.record i = some r) (hs : r.state ≠ .retiring) :
    (leaveService i s).retireOutcome i = if (s.record i).all (fun o => decide (o.pins = 0)) then 0 else 1 := by
  rw [State.retireOutcome, record_leaveService, if_pos rfl, h]
  by_cases hp : r.pins = 0 <;> simp [Record.outOfService, hs, hp]

/-- Settles O35: the handle's checks first, then the retire by the state of the record. -/
theorem recRetireFreesOrLeavesRetiring : Obligations.RecRetireFreesOrLeavesRetiring := by
  refine ⟨fun s i g st idle len h => ?_, fun s i g r idle hr => ⟨fun retiring => ?_, fun service => ?_⟩⟩ <;>
    rw [exec_frame (c := .recRetire) (fun _ _ => rfl) idle rfl (by decide), serveRecRetire] <;>
    refine congrArg (fun t => Host.Outcome.next (clocked (frame [i, g]) s t)) ?_
  · refine withHandle_refused (admits := fun _ => true) (more := []) len (by rw [List.append_nil]; exact h) fun r hr refusal => ?_
    simp at refusal
  · change withHandle 35 i.toNat g.toNat _ s = _
    rw [withHandle_held hr, if_pos retiring]
    rfl
  · change withHandle 35 i.toNat g.toNat _ s = _
    obtain ⟨n, -, hn⟩ := (reResolve_loosened (·.uses i.toNat) s).record_inService (record_of_place hr) service
    rw [withHandle_held hr, if_neg service]
    simp only [show u8 [i, g] 0 = i.toNat from rfl, sendBackAll, sentBack_count]
    rw [retireOutcome_leaveService hn service, leaveService_inService hn service]
    split <;> rfl

/-! ### REC_PROMOTE (R64, R65) -/

theorem findRecord_first {s : State} {j g : Nat} {q : Record} {k : Key} {ok : Record → Bool}
    (hj : s.stb[j]? = some { gen := g, held := some q }) (hq : (decide (q.key = k) && ok q) = true)
    (hlt : ∀ i < j, ∀ o ∈ s.record i, (decide (o.key = k) && ok o) = false) : findRecord s.stb k ok = some j := by
  refine findIdx?_first hj (by simpa using hq) fun i p hi hp => ?_
  cases ho : p.held with
  | none => rfl
  | some o => exact hlt i hi o (by simp [State.record, hp, ho])

/-- The candidate made ACTIVE under its advanced generation (R65). -/
theorem promote_eq {s : State} {i : Nat} {g : Nat} (h : (s.stb[i]?).map (·.gen) = some g) :
    (s.withRecord i ({ · with state := .active })).withPlace i (fun p => { p with gen := (p.gen + 1) % 256 })
      = (s.withRecord i ({ · with state := .active })).withPlace i (fun p => { p with gen := (g + 1) % 256 }) := by
  refine withPlace_congr fun p hp => ?_
  have gens := gen_of_gens (gens_withRecord s i ({ · with state := .active })) i
  rw [hp, h] at gens
  rw [show p.gen = g from Option.some.inj gens]

theorem handle_promoted {s : State} {i : Byte} {g : Byte} (h : (s.stb[i.toNat]?).map (·.gen) = some g.toNat) :
    putHandle (handleOf ((s.withRecord i.toNat ({ · with state := .active })).withPlace i.toNat
      fun p => { p with gen := (g.toNat + 1) % 256 }).stb i.toNat) = [i, g + 1] := by
  have gens := gen_of_gens (gens_withRecord s i.toNat ({ · with state := .active })) i.toNat
  rw [h] at gens
  have gen : ((((s.withRecord i.toNat ({ · with state := .active })).withPlace i.toNat
      fun p => { p with gen := (g.toNat + 1) % 256 }).stb)[i.toNat]?).map (·.gen) = some ((g.toNat + 1) % 256) := by
    rw [withPlace_stb, List.getElem?_modify]
    cases hp : (s.withRecord i.toNat ({ · with state := .active })).stb[i.toNat]? with
    | none => simp [hp] at gens
    | some p => simp
  rw [handleOf, gen]
  simp [putHandle, putU8]
  bv_omega

/-- The candidate of REC_PROMOTE, ACTIVE under its advanced generation (R65). -/
def promoted (i g : Byte) (u : State) : State :=
  (u.withRecord i.toNat ({ · with state := .active })).withPlace i.toNat fun q => { q with gen := (g.toNat + 1) % 256 }

/-- REC_PROMOTE of a PROVISIONAL record whose key has no working record (R64, R65). -/
theorem serveRecPromote_alone {s : State} {i g : Byte} {r : Record} (hr : s.stb[i.toNat]? = some { gen := g.toNat, held := some r })
    (hp : r.state = .provisional) (ho : usableRecord s.stb r.key = none) :
    serveRecPromote [i, g] s =
      let sent := fun e : Entry => e.uses i.toNat || e.approximates r.key
      answer 34 .ok [i, g + 1, 0, 0, 0, BitVec.ofNat 8 (s.sgq.queue.countP fun e => decide (e.state = .ready) && sent e)]
        (arbiter (promoted i g (reResolve sent s))) := by
  have gens : ∀ sent, ((reResolve sent s).stb[i.toNat]?).map (·.gen) = some g.toNat := fun sent => by
    rw [gen_of_gens (reResolve_loosened sent s).1, hr]
    rfl
  rw [serveRecPromote]
  change withHandle 34 i.toNat g.toNat _ s = _
  rw [withHandle_held hr, if_neg (by simp [hp]), ho]
  simp only [show u8 [i, g] 0 = i.toNat from rfl, sendBackAll, sentBack_count, promote_eq (gens _), handle_promoted (gens _)]
  rfl

/-- REC_PROMOTE of a PROVISIONAL record that replaces the working record of its key (R64, R65). -/
theorem serveRecPromote_superseding {s : State} {i g : Byte} {r : Record} {j : Nat}
    (hr : s.stb[i.toNat]? = some { gen := g.toNat, held := some r }) (hp : r.state = .provisional)
    (ho : usableRecord s.stb r.key = some j) :
    serveRecPromote [i, g] s =
      let sent := fun e : Entry => e.uses j || e.uses i.toNat || e.approximates r.key
      let t := promoted i g (leaveService j (reResolve sent s))
      answer 34 .ok ([i, g + 1] ++ putHandle (handleOf s.stb j) ++ putU8 (t.retireOutcome j)
        ++ [BitVec.ofNat 8 (s.sgq.queue.countP fun e => decide (e.state = .ready) && sent e)]) (arbiter t) := by
  have gens : ∀ sent, ((leaveService j (reResolve sent s)).stb[i.toNat]?).map (·.gen) = some g.toNat := fun sent => by
    rw [gen_of_gens (gens_leaveService j _), gen_of_gens (reResolve_loosened sent s).1, hr]
    rfl
  rw [serveRecPromote]
  change withHandle 34 i.toNat g.toNat _ s = _
  rw [withHandle_held hr, if_neg (by simp [hp]), ho]
  simp only [show u8 [i, g] 0 = i.toNat from rfl, sendBackAll, sentBack_count, promote_eq (gens _), handle_promoted (gens _)]
  rfl

/-- The place of another record is as it was before the promotion. -/
theorem retireOutcome_promoted {i g : Byte} {j : Nat} (h : j ≠ i.toNat) (u : State) :
    (promoted i g u).retireOutcome j = u.retireOutcome j := by
  have kept := record_withRecord u i.toNat j ({ · with state := .active })
  rw [if_neg (Ne.symm h)] at kept
  rw [State.retireOutcome, State.retireOutcome, ← kept, State.record, promoted, withPlace_stb, List.getElem?_modify]
  simp only [if_neg (Ne.symm h), id_map']
  rfl

/-- Settles O34: the handle's checks first, then the promotion, with and without a working record of the key. -/
theorem recPromoteReplacesTheWorkingRecord : Obligations.RecPromoteReplacesTheWorkingRecord := by
  refine ⟨fun s i g st idle len h => ?_, fun s i g r idle hr hp => ⟨fun noneWorking => ?_, fun j h q hj hk usable first => ?_⟩⟩ <;>
    rw [exec_frame (c := .recPromote) (fun _ _ => rfl) idle rfl (by decide)] <;>
    refine congrArg (fun t => Host.Outcome.next (clocked (frame [i, g]) s t)) ?_
  · rw [serveRecPromote]
    refine withHandle_refused (admits := fun r => decide (r.state = .provisional)) (more := []) len (by rw [List.append_nil]; exact h) fun r hr refusal => ?_
    by_cases provisional : r.state = .provisional
    · simp [provisional] at refusal
    · simp [provisional] at refusal
      subst refusal
      rw [if_pos provisional]
  · have absent : usableRecord s.stb r.key = none := by
      cases found : usableRecord s.stb r.key with
      | none => rfl
      | some j =>
        obtain ⟨p, hp, test⟩ := findIdx?_spec found
        obtain ⟨w, held, hw⟩ := (Option.any_eq_true _ _).1 test
        simp only [Bool.and_eq_true, decide_eq_true_eq] at hw
        have := noneWorking w (List.mem_filterMap.2 ⟨p, List.mem_of_getElem? hp, held⟩) hw.1
        simp [hw.2] at this
    rw [serveRecPromote_alone hr hp absent]
    rfl
  · have found : usableRecord s.stb r.key = some j := by
      refine findRecord_first hj (by simp [hk, usable]) fun k hlt o ho => ?_
      by_cases key : o.key = r.key
      · simp [first k hlt o ho key]
      · simp [key]
    have service : q.state ≠ .retiring := fun retiring => by simp [usable_retiring retiring] at usable
    have apart : j ≠ i.toNat := by
      rintro rfl
      obtain rfl : q = r := And.right (by simpa [hr] using hj.symm)
      simp [Record.usable, hp] at usable
    obtain ⟨n, -, hn⟩ := (reResolve_loosened (fun e : Entry => e.uses j || e.uses i.toNat || e.approximates r.key) s).record_inService
      (record_of_place hj) service
    have handle : putHandle (handleOf s.stb j) = [BitVec.ofNat 8 j, BitVec.ofNat 8 h] := by
      rw [handleOf, hj]
      rfl
    rw [serveRecPromote_superseding hr hp found]
    simp only [handle, retireOutcome_promoted apart]
    rw [retireOutcome_leaveService hn service, leaveService_inService hn service]
    split <;> rfl

end Sys2Proof.Machine
end

section
/-! SUPPORT. REC_INSTALL, REC_AMEND and the requests that join the wait list: which check refuses, and what an accepted one leaves. -/

namespace Sys2Proof.Machine

open Sys2Proof.Stated

/-! ### The requests of host lookups (R53 to R55) -/

theorem recFind_key (mode m l z sp : Byte) : readKey [mode, m, l, z, sp] 1 = ⟨m.toNat, l.toNat, z.toNat, sp.toNat⟩ := rfl

theorem recFind_mode (mode m l z sp : Byte) : u8 [mode, m, l, z, sp] 0 = mode.toNat := by
  unfold u8
  rfl

theorem byte_eq_one (b : Byte) : b.toNat = 1 ↔ b = 1 := ⟨fun h => BitVec.eq_of_toNat_eq h, fun h => congrArg BitVec.toNat h⟩

/-- Settles O36: the checks of each request in order, then the wait list. -/
theorem hostLookupsJoinTheWaitList : Obligations.HostLookupsJoinTheWaitList := by
  intro s idle
  refine ⟨fun mode m l z sp slot hmode hm hl hz hsp hslot taken layer => ?_, fun p f hp hf start => ?_, fun p f hp hf => ?_,
    fun len mode m l z sp st h => ?_, fun p hp bad => ?_, fun p hp bad => ?_⟩
  · rw [exec_frame (c := .recFind) (fun _ _ => rfl) idle rfl (by decide)]
    simp only [serveRecFind, recFind_key, recFind_mode, hslot, if_neg taken, byte_eq_one]
    rw [if_neg (by omega), if_neg (by omega), if_neg (by omega)]
    rfl
  · rw [exec_frame (c := .recScan) (fun _ _ => rfl) idle hp (by decide), serveRecScan, hf]
    simp only [if_neg (show ¬ 95 < u8 p 5 by omega)]
    rfl
  · rw [exec_frame (c := .recRetireMatch) (fun _ _ => rfl) idle hp (by decide), serveRecRetireMatch, hf]
    rfl
  · rw [exec_frame (c := .recFind) (fun _ _ => rfl) idle rfl (by decide)]
    refine congrArg (fun t => Host.Outcome.next (clocked (frame [mode, m, l, z, sp]) s t)) ?_
    simp only [firstRefusal_cons, firstRefusal_nil, decide_eq_true_eq] at h
    simp only [serveRecFind, recFind_key, recFind_mode]
    by_cases hmode : mode.toNat ≤ 1
    · by_cases key : m.toNat ≤ 7 ∧ l.toNat ≤ 3 ∧ z.toNat ≤ 23 ∧ sp.toNat ≤ 3
      · rw [if_pos hmode, if_pos key] at h
        rw [if_neg (by omega), if_neg (by omega)]
        obtain ⟨slot, hslot⟩ : ∃ slot, s.mst[m.toNat]? = some slot := ⟨_, List.getElem?_eq_getElem (by omega)⟩
        rw [hslot] at h ⊢
        by_cases free : slot.state = .free
        · simp [free] at h
          subst h
          simp only [if_pos free]
          rfl
        · by_cases layer : l.toNat < slot.layers.length
          · simp [free, layer] at h
          · simp [free, layer] at h
            subst h
            simp only [if_neg free, if_pos (Nat.le_of_not_lt layer)]
            rfl
      · rw [if_pos hmode, if_neg key] at h
        obtain rfl := Option.some.inj h
        rw [if_neg (by omega), if_pos (by omega)]
        rfl
    · rw [if_neg hmode] at h
      obtain rfl := Option.some.inj h
      rw [if_pos (by omega)]
      rfl
  · rw [exec_frame (c := .recScan) (fun _ _ => rfl) idle hp (by decide), serveRecScan]
    refine congrArg (fun t => Host.Outcome.next (clocked (frame p) s t)) ?_
    cases hf : readFilter p 0 with
    | none => rfl
    | some f =>
      have fits := readFilter_isSome p 0
      rw [hf] at fits
      simp only [if_pos (show 95 < u8 p 5 from bad.resolve_left (by simp [← fits]))]
      rfl
  · rw [exec_frame (c := .recRetireMatch) (fun _ _ => rfl) idle hp (by decide), serveRecRetireMatch]
    have unread : readFilter p 0 = none := Option.isSome_eq_false_iff.1 (by rw [readFilter_isSome, bad]) |> Option.isNone_iff_eq_none.1
    rw [unread]
    rfl

/-! ### The checks of a record image (R12) -/

theorem firstRefusal_eq_none (b : Bool) (st : Status) (rest : List (Bool × Status)) :
    firstRefusal ((b, st) :: rest) = none ↔ b = true ∧ firstRefusal rest = none := by
  cases b <;> simp

theorem powersFit_eq (st : Strategy) : powersFit st = st.powersInRange := by
  simp only [powersFit, Strategy.powersInRange, show Config.maxPower = 1200 from rfl, and_assoc]

theorem shapeFits_eq (st : Strategy) : shapeFits st = st.shapeInRange := by
  simp only [shapeFits, Strategy.shapeInRange, and_assoc]

theorem overridesFit_eq (count : Nat) (st : Strategy) : overridesFit count st = overridesInRange count st.overrides := by
  have entry : ∀ o : Override, decide ((2 ≤ o.len ∧ o.len ≤ 8) ∧ (-8 ≤ o.lead ∧ o.lead ≤ 7) ∧ (-8 ≤ o.cool ∧ o.cool ≤ 7)) = o.inRange :=
    fun o => by simp only [Override.inRange, and_assoc]
  simp only [overridesFit, overridesInRange, entry]

theorem corrFits_eq (c : Int) : corrFits c = corrInRange c := rfl

theorem powersInOrder_eq (st : Strategy) : powersInOrder st = st.powersOrdered := rfl

theorem overridesInOrder_eq (st : Strategy) : overridesInOrder st = st.overridesAscending := rfl

/-! ### REC_INSTALL (R12, R59, R60) -/

/-- The checks of REC_INSTALL on the request alone and on its slot, in their order (R12). -/
def installChecks (s : State) (p : List Byte) : List (Bool × Status) :=
  let im := readImage p 1
  let slot := s.mst[im.key.media]?
  [(decide (u8 p 0 = 1 ∨ u8 p 0 = 2), .badField),
    (decide (im.key.media ≤ 7 ∧ im.key.zone ≤ 23 ∧ im.key.speed ≤ 3 ∧ im.key.layer ≤ 3), .badField),
    (slot.any (·.state ≠ .free), .notFound), (slot.any fun m => decide (im.key.layer < m.layers.length), .badField),
    (powersFit im.strat && shapeFits im.strat && overridesFit im.overrideCount im.strat && corrFits im.corr, .badField),
    (powersInOrder im.strat, .badOrder), (overridesInOrder im.strat, .badOrder)]

/-- The state that REC_INSTALL asks for. -/
def requestedState (p : List Byte) : RecState := if u8 p 0 = 1 then .provisional else .active

theorem requested_eq {p : List Byte} (h : u8 p 0 = 1 ∨ u8 p 0 = 2) :
    (if u8 p 0 = 1 then some RecState.provisional else if u8 p 0 = 2 then some .active else none) = some (requestedState p) := by
  unfold requestedState
  obtain h | h := h <;> simp [h]

theorem serveRecInstall_refused {s : State} {p : List Byte} {st : Status} (len : s.mst.length = 8)
    (h : firstRefusal (installChecks s p) = some st) : serveRecInstall p s = answerStatus 32 st s := by
  simp only [installChecks, firstRefusal_cons, firstRefusal_nil, decide_eq_true_eq, powersFit_eq, shapeFits_eq, overridesFit_eq, corrFits_eq,
    powersInOrder_eq, overridesInOrder_eq] at h
  simp only [serveRecInstall]
  by_cases requested : u8 p 0 = 1 ∨ u8 p 0 = 2
  · rw [if_pos requested] at h
    simp only [requested_eq requested]
    by_cases key : (readImage p 1).key.media ≤ 7 ∧ (readImage p 1).key.zone ≤ 23 ∧ (readImage p 1).key.speed ≤ 3 ∧ (readImage p 1).key.layer ≤ 3
    · rw [if_pos key] at h
      rw [if_neg (by omega)]
      obtain ⟨m, hm⟩ : ∃ m, s.mst[(readImage p 1).key.media]? = some m := ⟨_, List.getElem?_eq_getElem (by omega)⟩
      simp only [hm, Option.any_some, decide_eq_true_eq] at h ⊢
      by_cases free : m.state = .free
      · simp only [free, ne_eq, not_true, if_false, Option.some.injEq] at h
        rw [if_pos free, h]
      · rw [if_pos free] at h
        rw [if_neg free]
        by_cases layer : (readImage p 1).key.layer < m.layers.length
        · rw [if_pos layer] at h
          rw [if_neg (by omega)]
          split at h
          · next ranges =>
            rw [if_neg (by simpa using ranges)]
            split at h
            · next powers =>
              rw [if_neg (by simpa using powers)]
              split at h
              · cases h
              · next overrides => rw [if_pos (by simpa using overrides), Option.some.inj h]
            · next powers => rw [if_pos (by simpa using powers), Option.some.inj h]
          · next ranges => rw [if_pos (by rw [Bool.not_eq_true']; exact Bool.eq_false_iff.2 ranges), Option.some.inj h]
        · rw [if_neg layer] at h
          rw [if_pos (by omega), Option.some.inj h]
    · rw [if_neg key] at h
      rw [if_pos (by omega), Option.some.inj h]
  · rw [if_neg requested] at h
    rw [if_neg (by omega), if_neg (by omega), Option.some.inj h]

/-- The record that REC_INSTALL places (R12). -/
def installed (s : State) (p : List Byte) : Record :=
  let im := readImage p 1
  { key := im.key, strat := im.strat, corr := im.corr, onTime := 0, ageThreshold := s.ageDefault im.key, state := requestedState p
    pins := 0 }

/-- REC_INSTALL past its checks: a record in the way, a FREE place, or neither. -/
theorem serveRecInstall_checked {s : State} {p : List Byte} (h : firstRefusal (installChecks s p) = none) :
    serveRecInstall p s =
      match duplicateOf s.stb (readImage p 1).key (requestedState p) with
      | some j => answer 32 .duplicate (putHandle (handleOf s.stb j)) s
      | none =>
        match s.stb.findIdx? (·.held.isNone) with
        | none => answerStatus 32 .full s
        | some i =>
          let placed := placeRecord i (installed s p) s
          let back := sendBackAll (fun e => decide (requestedState p = .active) && e.approximates (readImage p 1).key) placed
          answer 32 .ok (putHandle (handleOf placed.stb i) ++ putU8 back.1) (arbiter back.2) := by
  simp only [installChecks, firstRefusal_eq_none, powersFit_eq, shapeFits_eq, overridesFit_eq, corrFits_eq, powersInOrder_eq,
    overridesInOrder_eq, decide_eq_true_eq] at h
  obtain ⟨requested, key, taken, layer, ranges, powers, overrides, -⟩ := h
  obtain ⟨m, hm, taken⟩ := (Option.any_eq_true _ _).1 taken
  simp only [hm, Option.any_some, decide_eq_true_eq] at layer taken
  simp only [serveRecInstall, requested_eq requested, hm, if_neg taken]
  rw [if_neg (by omega), if_neg (by omega), if_neg (by simpa using ranges), if_neg (by simpa using powers),
    if_neg (by simpa using overrides)] <;> rfl

/-- The record that comes in the way of an install (R13). -/
def clashes (p : List Byte) (r : Record) : Bool :=
  decide (r.key = (readImage p 1).key) && if u8 p 0 = 1 then decide (r.state = .provisional) else r.usable

theorem duplicateOf_eq (places : List Place) (p : List Byte) :
    duplicateOf places (readImage p 1).key (requestedState p) = places.findIdx? fun q => q.held.any (clashes p) := by
  unfold duplicateOf requestedState clashes
  by_cases h : u8 p 0 = 1
  · simp only [h, if_true]
    rfl
  · simp only [h, if_false, reduceCtorEq]
    rfl

theorem requestedState_of {p : List Byte} {st : RecState} (h : u8 p 0 = 1 ∧ st = .provisional ∨ u8 p 0 = 2 ∧ st = .active) :
    requestedState p = st := by
  unfold requestedState
  obtain ⟨code, rfl⟩ | ⟨code, rfl⟩ := h <;> simp [code]

theorem overridesInRange_count {st : Strategy} {count : Nat} (h : overridesInRange st.overrides.length st.overrides = true) (hc : count ≤ 4) :
    overridesInRange count st.overrides = true := by
  simp only [overridesInRange, Bool.and_eq_true, decide_eq_true_eq] at h ⊢
  exact ⟨hc, h.2⟩

/-- A record placed, written as the place and the slot put there (R3, R10, R12). -/
theorem placeRecord_eq {s : State} {i g : Nat} {r : Record} {m : Slot} (hi : s.stb[i]? = some { gen := g, held := none })
    (hm : s.mst[r.key.media]? = some m) :
    placeRecord i r s = { s with stb := s.stb.set i { gen := (g + 1) % 256, held := some r }
                                 mst := s.mst.set r.key.media { m with records := m.records + 1 } } := by
  rw [placeRecord, withPlace_eq hi]
  exact withSlot_eq (s := { s with stb := s.stb.set i { gen := (g + 1) % 256, held := some r } }) hm _

theorem handleOf_set {places : List Place} {i : Nat} (h : i < places.length) (p : Place) : handleOf (places.set i p) i = ⟨i, p.gen⟩ := by
  simp [handleOf, h]

/-- Settles O32: the checks in their order, then the record in the way, then the lowest FREE place. -/
theorem recInstallPlacesTheRecord : Obligations.RecInstallPlacesTheRecord := by
  refine ⟨fun s p st m l i g => ?_, fun s p idle hp len => ⟨fun st h => ?_, fun h => ⟨fun j g r hj clash first => ?_, fun alone full => ?_⟩⟩⟩
  · intro im idle hp requested hmedia hlayer hzone hspeed hm taken hl strat count corr clear hi lowest r placed served
    have state := requestedState_of requested
    rw [exec_frame (c := .recInstall) (fun _ _ => rfl) idle hp (by decide)]
    obtain ⟨powers, shape, overrides, -, ordered, ascending⟩ := (strategyInRange_iff _).1 strat
    have checks : firstRefusal (installChecks s p) = none := by
      have layer : im.key.layer < m.layers.length := (List.getElem?_eq_some_iff.1 hl).1
      simp only [installChecks, firstRefusal_eq_none, powersFit_eq, shapeFits_eq, overridesFit_eq, corrFits_eq, powersInOrder_eq,
        overridesInOrder_eq, decide_eq_true_eq, Bool.and_eq_true]
      refine ⟨requested.imp And.left And.left, ⟨hmedia, hzone, hspeed, hlayer⟩, ?_, ?_,
        ⟨⟨⟨powers, shape⟩, overridesInRange_count overrides count⟩, corr⟩, ordered, ascending, rfl⟩
      · simpa [im, hm] using taken
      · simpa [im, hm] using layer
    have noClash : duplicateOf s.stb (readImage p 1).key (requestedState p) = none := by
      rw [duplicateOf_eq, List.findIdx?_eq_none_iff]
      intro q hq
      cases held : q.held with
      | none => rfl
      | some o =>
        have limits := clear o (List.mem_filterMap.2 ⟨q, hq, held⟩)
        simp only [Option.any_some, clashes]
        by_cases key : o.key = (readImage p 1).key
        · obtain ⟨code, rfl⟩ | ⟨code, rfl⟩ := requested
          · simpa [key, code] using (limits key).1 rfl
          · simpa [key, code] using (limits key).2 rfl
        · simp [key]
    have place : s.stb.findIdx? (·.held.isNone) = some i := findIdx?_first hi rfl fun j q hj hq => by
      have := lowest j hj
      rw [State.record, hq, Option.bind_some] at this
      simpa using this
    have record : installed s p = r := by
      simp only [installed, r, state, State.ageDefault]
      rw [show s.mst[(readImage p 1).key.media]? = some m from hm]
      simp only [Option.bind_some]
      rw [show m.layers[(readImage p 1).key.layer]? = some l from hl]
      rfl
    rw [serveRecInstall_checked checks, noClash, place]
    simp only [record, state, sendBackAll, sentBack_count]
    rw [placeRecord_eq hi (show s.mst[r.key.media]? = some m from hm)]
    simp only [handleOf_set (List.getElem?_eq_some_iff.1 hi).1]
    rfl
  · rw [exec_frame (c := .recInstall) (fun _ _ => rfl) idle hp (by decide), serveRecInstall_refused len h]
    rfl
  · rw [exec_frame (c := .recInstall) (fun _ _ => rfl) idle hp (by decide), serveRecInstall_checked h, duplicateOf_eq,
      findIdx?_first hj clash fun k q hk hq => ?_]
    · have handle : putHandle (handleOf s.stb j) = [BitVec.ofNat 8 j, BitVec.ofNat 8 g] := by
        rw [handleOf, hj]
        rfl
      simp only [handle]
      rfl
    · cases held : q.held with
      | none => rfl
      | some o => exact first k hk o (by simp [State.record, hq, held])
  · rw [exec_frame (c := .recInstall) (fun _ _ => rfl) idle hp (by decide), serveRecInstall_checked h, duplicateOf_eq,
      List.findIdx?_eq_none_iff.2 fun q hq => ?_, List.findIdx?_eq_none_iff.2 fun q hq => ?_]
    · rfl
    · have := List.all_eq_true.1 full q hq
      simpa using this
    · cases held : q.held with
      | none => rfl
      | some o =>
        have := List.all_eq_true.1 alone o (List.mem_filterMap.2 ⟨q, hq, held⟩)
        simpa [clashes, imp_iff_not_or] using this

/-! ### REC_AMEND (R61 to R63) -/

theorem member_eq (n k : Nat) : member n k = n.testBit k := rfl

theorem readGroups_isEmpty (n : Nat) : (readGroups n).isEmpty = !(List.range 7).any fun k => n.testBit k := by
  rw [show List.range 7 = [0, 1, 2, 3, 4, 5, 6] from rfl]
  simp only [Groups.isEmpty, readGroups, member_eq, List.any_cons, List.any_nil, Bool.or_false, Bool.or_assoc]

theorem groupsInRange_eq (n : Nat) (im : Image) : (readGroups n).inRange im
    = ((!n.testBit 0 || powersFit im.strat) && (!n.testBit 1 || shapeFits im.strat) && (!n.testBit 2 || overridesFit im.overrideCount im.strat)
      && (!n.testBit 4 || corrFits im.corr)) := by
  simp only [Groups.inRange, readGroups, member_eq, powersFit_eq, shapeFits_eq, overridesFit_eq, corrFits_eq]

theorem amended_powersOrdered (n : Nat) (im o : Strategy) : ((readGroups n).applyStrategy im o).powersOrdered
    = if n.testBit 0 then powersInOrder im else powersInOrder o := by
  simp only [applyStrategy_eq, Strategy.powersOrdered, powersInOrder, readGroups, member_eq]
  cases n.testBit 0 <;> rfl

theorem amended_overridesAscending (n : Nat) (im o : Strategy) : ((readGroups n).applyStrategy im o).overridesAscending
    = if n.testBit 2 then overridesInOrder im else overridesInOrder o := by
  simp only [applyStrategy_eq, Strategy.overridesAscending, overridesInOrder, readGroups, member_eq]
  cases n.testBit 2 <;> rfl

/-- Settles O33: the handle's checks, then those of the amendment in order, then the record as amended. -/
theorem recAmendReplacesTheGroups : Obligations.RecAmendReplacesTheGroups := by
  refine ⟨fun s p r => ?_, fun s p st idle hp len => ?_⟩
  · intro i on im st idle hp hr service selected strat count corr amended
    rw [exec_frame (c := .recAmend) (fun _ _ => rfl) idle hp (by decide)]
    refine congrArg (fun t => Host.Outcome.next (clocked (frame p) s t)) ?_
    have apply : (readGroups (u8 p 2)).apply im r = amended := by
      simp only [Groups.apply, applyStrategy_eq]
      rfl
    have same : (readGroups (u8 p 2)).applyStrategy im.strat r.strat = st := congrArg Record.strat apply
    obtain ⟨powers, shape, overrides, -, ordered, ascending⟩ := (strategyInRange_iff _).1 strat
    have range : (readGroups (u8 p 2)).inRange im = true := by
      simp only [groupsInRange_eq, powersFit_eq, shapeFits_eq, overridesFit_eq, corrFits_eq, Bool.and_eq_true, Bool.or_eq_true,
        Bool.not_eq_true']
      refine ⟨⟨⟨?_, ?_⟩, ?_⟩, ?_⟩ <;> refine or_iff_not_imp_left.2 fun hb => ?_ <;> rw [Bool.not_eq_false] at hb
      · simpa [Strategy.powersInRange, st, on, hb] using powers
      · simpa [Strategy.shapeInRange, st, on, hb] using shape
      · exact overridesInRange_count (by simpa [st, on, hb] using overrides) (count hb)
      · exact corr hb
    obtain ⟨k, hk, hbit⟩ := selected
    have named : ((List.range 7).any fun k => (u8 p 2).testBit k) = true := List.any_eq_true.2 ⟨k, List.mem_range.2 hk, hbit⟩
    replace hr : s.stb[u8 p 0]? = some { gen := u8 p 1, held := some r } := hr
    simp only [serveRecAmend]
    rw [withHandle_held hr, if_neg service, if_neg (by simp only [readGroups_isEmpty, named]; simp), if_neg (by simp [im] at range; simp [range]),
      same, if_neg (by simp [ordered]), if_neg (by simp [ascending]), apply, withPlace_eq hr]
    simp only [sendBackAll, sentBack_count, handleOf_set (List.getElem?_eq_some_iff.1 hr).1]
    rfl
  · intro on im record h
    rw [exec_frame (c := .recAmend) (fun _ _ => rfl) idle hp (by decide)]
    refine congrArg (fun t => Host.Outcome.next (clocked (frame p) s t)) ?_
    simp only [serveRecAmend]
    refine withHandle_refused len h fun r hr refusal => ?_
    have hrecord : record = some r := record_of_place hr
    simp only [hrecord, Option.any_some, firstRefusal_cons, firstRefusal_nil, decide_eq_true_eq] at refusal
    by_cases retiring : r.state = .retiring
    · simp only [retiring, ne_eq, not_true, if_false, Option.some.injEq] at refusal
      rw [if_pos retiring, refusal]
    · rw [if_pos retiring] at refusal
      rw [if_neg retiring, readGroups_isEmpty, groupsInRange_eq, amended_powersOrdered, amended_overridesAscending]
      split at refusal
      · next named =>
        rw [if_neg (by rw [show ((List.range 7).any fun k => (u8 p 2).testBit k) = true from named]; simp)]
        split at refusal
        · next ranges =>
          rw [if_neg (by rw [Bool.not_eq_true']; exact Bool.not_eq_false _ ▸ ranges)]
          by_cases powers : (if on 0 then powersInOrder im.strat else powersInOrder r.strat) = true
          · rw [if_pos powers] at refusal
            rw [if_neg (by rw [Bool.not_eq_true', Bool.not_eq_false]; exact powers)]
            by_cases overrides : (if on 2 then overridesInOrder im.strat else overridesInOrder r.strat) = true
            · rw [if_pos overrides] at refusal
              cases refusal
            · rw [if_neg overrides] at refusal
              rw [if_pos (by rw [Bool.not_eq_true']; exact Bool.eq_false_iff.2 overrides), Option.some.inj refusal]
          · rw [if_neg powers] at refusal
            rw [if_pos (by rw [Bool.not_eq_true']; exact Bool.eq_false_iff.2 powers), Option.some.inj refusal]
        · next ranges => rw [if_pos (by rw [Bool.not_eq_true']; exact Bool.eq_false_iff.2 ranges), Option.some.inj refusal]
      · next unnamed =>
        rw [if_pos (by rw [Bool.not_eq_true']; exact Bool.eq_false_iff.2 unnamed), Option.some.inj refusal]

end Sys2Proof.Machine
end

section
/-! SUPPORT. Entries and the pins they hold: the queue with one entry changed or gone, the records after a row of releases, and what every end
of an entry and every re-resolution keeps of R11, R15 and R82. -/

namespace Sys2Proof.Machine

open Sys2Proof.Stated

/-! ### One entry of the queue -/

/-- The entry of a queue that is cut out, changed or found by its position. -/
theorem queue_cut {q : List Entry} (hn : (q.map (·.pos)).Nodup) {e : Entry} (he : e ∈ q) :
    ∃ front back, q = front ++ e :: back ∧ q.filter (·.pos ≠ e.pos) = front ++ back
      ∧ (∀ f : Entry → Entry, (q.map fun x => if x.pos = e.pos then f x else x) = front ++ f e :: back)
      ∧ ∀ x ∈ front ++ back, x.pos ≠ e.pos := by
  obtain ⟨front, back, rfl⟩ := List.append_of_mem he
  have apart : ∀ x ∈ front ++ back, x.pos ≠ e.pos := by
    intro x hx heq
    have hperm : ((front ++ e :: back).map (·.pos)).Perm (e.pos :: (front ++ back).map (·.pos)) := by
      simpa only [List.map_cons] using (List.perm_middle (a := e) (l₁ := front) (l₂ := back)).map (·.pos)
    exact (List.nodup_cons.1 (hperm.nodup_iff.1 hn)).1 (heq ▸ List.mem_map.2 ⟨x, hx, rfl⟩)
  have same : ∀ (f : Entry → Entry) (l : List Entry), (∀ x ∈ l, x.pos ≠ e.pos) →
      (l.map fun x => if x.pos = e.pos then f x else x) = l := fun f l hl =>
    (List.map_congr_left fun x hx => if_neg (hl x hx)).trans (List.map_id l)
  have kept : ∀ l : List Entry, (∀ x ∈ l, x.pos ≠ e.pos) → l.filter (·.pos ≠ e.pos) = l := fun l hl =>
    List.filter_eq_self.2 fun x hx => by simpa using hl x hx
  have left : ∀ x ∈ front, x.pos ≠ e.pos := fun x hx => apart x (by simp [hx])
  have right : ∀ x ∈ back, x.pos ≠ e.pos := fun x hx => apart x (by simp [hx])
  refine ⟨front, back, rfl, ?_, fun f => ?_, apart⟩
  · rw [List.filter_append, List.filter_cons, kept front left, kept back right]
    simp
  · rw [List.map_append, List.map_cons, same f front left, same f back right, if_pos rfl]

/-- The queue is within its credits, only the head may be armed or run, and each copy fits its entry (R47, R80, R82). -/
structure QueueFits (s : State) : Prop where
  credits : Safety.QueueWithinCredits s
  tail : ∀ x ∈ s.sgq.queue.drop 1, Safety.waits x = true
  copies : ∀ x ∈ s.sgq.queue, Safety.copyFits x = true

/-- The head has begun arming (R86). -/
def Settled (s : State) : Prop := s.sgq.queue.head?.all (fun h => decide (h.state ≠ .ready)) = true

theorem queueShaped_iff (s : State) : Safety.QueueShaped s ↔ QueueFits s ∧ Settled s := by
  refine ⟨fun ⟨credits, tail, copies, settled⟩ => ⟨⟨credits, List.all_eq_true.1 tail, List.all_eq_true.1 copies⟩, settled⟩,
    fun ⟨⟨credits, tail, copies⟩, settled⟩ => ⟨credits, List.all_eq_true.2 tail, List.all_eq_true.2 copies, settled⟩⟩

theorem QueueFits.positions {s : State} (h : QueueFits s) : (s.sgq.queue.map (·.pos)).Nodup := h.credits.1

/-- A queue with fewer entries fits. -/
theorem QueueFits.sublist {s t : State} (h : QueueFits s) (hq : t.sgq.queue.Sublist s.sgq.queue) : QueueFits t := by
  refine ⟨credits_of_badges (hq.map _) h.credits, fun x hx => ?_, fun x hx => h.copies x (hq.subset hx)⟩
  have tails : ∀ {l l' : List Entry}, l.Sublist l' → (l.drop 1).Sublist (l'.drop 1) := fun hl => hl.drop 1
  exact h.tail x ((tails hq).subset hx)

/-- A queue whose entries are changed one by one fits when each fits as changed and none behind the head stops waiting. -/
theorem QueueFits.map {s t : State} (h : QueueFits s) (f : Entry → Entry) (hq : t.sgq.queue = s.sgq.queue.map f)
    (hb : ∀ e, (f e).badge = e.badge) (hw : ∀ x ∈ s.sgq.queue, Safety.waits x = true → Safety.waits (f x) = true)
    (hc : ∀ x ∈ s.sgq.queue, Safety.copyFits (f x) = true) : QueueFits t := by
  refine ⟨credits_of_badges ?_ h.credits, fun x hx => ?_, fun x hx => ?_⟩
  · rw [hq, List.map_map, show Entry.badge ∘ f = Entry.badge from funext hb]
  · rw [hq, ← List.map_drop] at hx
    obtain ⟨y, hy, rfl⟩ := List.mem_map.1 hx
    exact hw y (List.mem_of_mem_drop hy) (h.tail y hy)
  · rw [hq] at hx
    obtain ⟨y, hy, rfl⟩ := List.mem_map.1 hx
    exact hc y hy

/-! ### The records after a row of releases -/

section Fold

variable {g : State → Handle → State} {gens : List Nat} {φ : Handle → Record → Option Record}
  (hgens : ∀ s h, (g s h).gens = s.gens)
  (hg : ∀ s h j, s.gens = gens → (g s h).record j = if h.index = j then (s.record j).bind (φ h) else s.record j)

include hgens hg

/-- A record that no step of a row names is as it was. -/
theorem record_foldl_unnamed {hs : List Handle} {j : Nat} (hj : ∀ h ∈ hs, h.index ≠ j) {s : State} (hs' : s.gens = gens) :
    (hs.foldl g s).record j = s.record j := by
  induction hs generalizing s with
  | nil => rfl
  | cons h hs ih =>
    rw [List.foldl_cons, ih (fun h' hh => hj h' (by simp [hh])) ((hgens s h).trans hs'), hg s h j hs', if_neg (hj h (by simp))]

/-- A record that one step of a row names is as that step leaves it. -/
theorem record_foldl_named {hs : List Handle} (hn : (hs.map (·.index)).Nodup) {h : Handle} (hh : h ∈ hs) {s : State} (hs' : s.gens = gens) :
    (hs.foldl g s).record h.index = (s.record h.index).bind (φ h) := by
  induction hs generalizing s with
  | nil => cases hh
  | cons a hs ih =>
    rw [List.map_cons, List.nodup_cons] at hn
    rw [List.foldl_cons]
    obtain rfl | tail := List.mem_cons.1 hh
    · rw [record_foldl_unnamed hgens hg (fun h' hh' heq => hn.1 (List.mem_map.2 ⟨h', hh', heq⟩)) ((hgens s h).trans hs'), hg s h _ hs', if_pos rfl]
    · rw [ih hn.2 tail ((hgens s a).trans hs'), hg s a _ hs', if_neg fun heq => hn.1 (List.mem_map.2 ⟨h, tail, heq.symm⟩)]

end Fold

/-- What becomes of a record when an entry that pins it ends: it goes, RETIRING with no other pin, or it has one pin less. -/
def Released (r : Record) (o : Option Record) : Prop :=
  (o = none ∧ r.state = .retiring ∧ r.pins ≤ 1)
    ∨ ∃ q, o = some q ∧ q.pins = r.pins - 1 ∧ q.key = r.key ∧ (q.state = .retiring → q.pins ≠ 0)

/-- The records after an entry that names some of them has ended. -/
structure Unpinned (hs : List Handle) (s t : State) : Prop where
  gens : t.gens = s.gens
  named : ∀ h ∈ hs, ∀ r, s.record h.index = some r → Released r (t.record h.index)
  unnamed : ∀ i, (∀ h ∈ hs, h.index ≠ i) → t.record i = s.record i
  empty : ∀ i, s.record i = none → t.record i = none

theorem released_unpinned (r : Record) {q : Record} (hkey : q.key = r.key) (hpins : q.pins = r.pins)
    (hstate : q.state = .retiring ↔ r.state = .retiring) : Released r q.unpinned := by
  unfold Record.unpinned
  split
  · next h => exact .inl ⟨rfl, hstate.1 h.1, by omega⟩
  · next h => exact .inr ⟨_, rfl, by simp [hpins], hkey, fun retiring hp => h ⟨retiring, hp⟩⟩

theorem unpinned_of_fold {g : State → Handle → State} {φ : Handle → Record → Option Record} {hs : List Handle} {s : State}
    (hgens : ∀ s h, (g s h).gens = s.gens)
    (hg : ∀ u h j, u.gens = s.gens → (g u h).record j = if h.index = j then (u.record j).bind (φ h) else u.record j)
    (hφ : ∀ h r, Released r (φ h r)) (hn : (hs.map (·.index)).Nodup) : Unpinned hs s (hs.foldl g s) := by
  refine ⟨foldl_keeps State.gens _ hgens _ _, fun h hh r hr => ?_, fun i hi => record_foldl_unnamed hgens hg hi rfl, fun i hi => ?_⟩
  · rw [record_foldl_named hgens hg hn hh rfl, hr]
    exact hφ h r
  · by_cases named : ∃ h ∈ hs, h.index = i
    · obtain ⟨h, hh, rfl⟩ := named
      rw [record_foldl_named hgens hg hn hh rfl, hi]
      rfl
    · rw [record_foldl_unnamed hgens hg (fun h hh heq => named ⟨h, hh, heq⟩) rfl, hi]

theorem release_unpinned {e : Entry} (hn : (e.sources.map (·.index)).Nodup) (s : State) : Unpinned e.sources s (release e s) :=
  unpinned_of_fold (φ := fun _ => Record.unpinned) (fun s h => gens_unpin h.index s) (fun u h j _ => record_unpin h.index j u)
    (fun _ r => released_unpinned r rfl rfl .rfl) hn

theorem tallied_fields (tally : Nat) (r : Record) :
    (r.tallied tally).key = r.key ∧ (r.tallied tally).pins = r.pins ∧ ((r.tallied tally).state = .retiring ↔ r.state = .retiring) := by
  unfold Record.tallied
  refine ⟨rfl, rfl, ?_⟩
  simp only
  split <;> simp_all

theorem partialWriteBack_unpinned {wc : WorkingCopy} (hn : (wc.sources.map (·.index)).Nodup) (s : State) :
    Unpinned wc.sources s (partialWriteBack wc s) := by
  refine unpinned_of_fold (φ := fun _ r => (r.tallied wc.tally).unpinned) (fun s h => by simp) (fun u h j _ => ?_) (fun _ r => ?_) hn
  · rw [record_unpin, record_addTally]
    by_cases heq : h.index = j <;> simp [heq, Option.bind_map]
  · obtain ⟨key, pins, state⟩ := tallied_fields wc.tally r
    exact released_unpinned r key pins state

/-- A source's record after a write-back stores the correction in it, on a generation match (R71, R72). -/
def Record.stored (corr : Int) (limit : Bool) (r : Record) : Record :=
  { r with corr, state := if limit && r.usable then .suspect else r.state }

theorem record_storeCorrection (h : Handle) (corr : Int) (limit : Bool) (j : Nat) (s : State) :
    (storeCorrection h corr limit s).record j
      = if h.index = j then (s.record j).map fun r => if s.gens[h.index]? = some h.gen then r.stored corr limit else r else s.record j := by
  have gen : s.gens[h.index]? = (s.stb[h.index]?).map (·.gen) := List.getElem?_map ..
  have held : s.record h.index = (s.stb[h.index]?).bind (·.held) := rfl
  rw [storeCorrection, gen]
  cases hp : s.stb[h.index]? with
  | none =>
    rw [hp] at held
    by_cases heq : h.index = j
    · rw [if_pos heq, ← heq, held]; rfl
    · rw [if_neg heq]
  | some p =>
    obtain ⟨g, none | r⟩ := p
    · rw [hp] at held
      by_cases heq : h.index = j
      · rw [if_pos heq, ← heq, held]; rfl
      · rw [if_neg heq]
    · rw [hp] at held
      have out : ∀ (b : Bool) (f : Notices → Notices) (u : State), (if b = true then u.withNotices f else u).record j = u.record j := by
        intro b f u; cases b <;> rfl
      by_cases hgen : g = h.gen
      · simp only [if_pos hgen, out, record_withRecord]
        by_cases heq : h.index = j
        · rw [if_pos heq, if_pos heq, ← heq, held]
          simp [hgen, Record.stored]
        · rw [if_neg heq, if_neg heq]
      · simp only [if_neg hgen]
        by_cases heq : h.index = j
        · rw [if_pos heq, ← heq, held]
          simp [hgen]
        · rw [if_neg heq]

/-- A source's record after a full write-back, but for its pin (R70 to R72); `current` says whether its generation is still the one copied. -/
def Record.writtenBack (wc : WorkingCopy) (limit current : Bool) (r : Record) : Record :=
  if wc.kind.stores && current then (r.tallied wc.tally).stored wc.running limit else r.tallied wc.tally

theorem record_fullStep (wc : WorkingCopy) (limit : Bool) (h : Handle) (j : Nat) (s : State) :
    (unpin h.index (if wc.kind.stores then storeCorrection h wc.running limit (addTally h.index wc.tally s) else addTally h.index wc.tally s)).record j
      = if h.index = j then
          (s.record j).bind fun r => (r.writtenBack wc limit (decide (s.gens[h.index]? = some h.gen))).unpinned
        else s.record j := by
  rw [record_unpin]
  by_cases heq : h.index = j
  · rw [if_pos heq, if_pos heq]
    split
    · next stores =>
      rw [record_storeCorrection, if_pos heq, record_addTally, if_pos heq, gens_addTally]
      cases s.record j with
      | none => rfl
      | some r => by_cases hc : s.gens[h.index]? = some h.gen <;> simp [Record.writtenBack, stores, hc]
    · next stores =>
      rw [record_addTally, if_pos heq]
      cases s.record j with
      | none => rfl
      | some r => simp [Record.writtenBack, stores]
  · rw [if_neg heq, if_neg heq]
    split
    · rw [record_storeCorrection, if_neg heq, record_addTally, if_neg heq]
    · rw [record_addTally, if_neg heq]

theorem writtenBack_fields (wc : WorkingCopy) (limit current : Bool) (r : Record) :
    (r.writtenBack wc limit current).key = r.key ∧ (r.writtenBack wc limit current).pins = r.pins
      ∧ ((r.writtenBack wc limit current).state = .retiring ↔ r.state = .retiring) := by
  obtain ⟨key, pins, state⟩ := tallied_fields wc.tally r
  unfold Record.writtenBack
  split
  · refine ⟨key, pins, ?_⟩
    rw [← state]
    simp only [Record.stored]
    split
    · next h =>
      simp only [Bool.and_eq_true] at h
      refine ⟨nofun, fun retiring => ?_⟩
      simp [usable_retiring retiring] at h
    · exact .rfl
  · exact ⟨key, pins, state⟩

theorem fullWriteBack_unpinned {wc : WorkingCopy} (hn : (wc.sources.map (·.index)).Nodup) (limit : Bool) (s : State) :
    Unpinned wc.sources s (fullWriteBack wc limit s) := by
  refine unpinned_of_fold (φ := fun h r => (r.writtenBack wc limit (decide (s.gens[h.index]? = some h.gen))).unpinned)
    (fun s h => ?_) (fun u h j hu => ?_) (fun h r => ?_) hn
  · simp only [gens_unpin]
    split <;> simp
  · rw [← hu]
    exact record_fullStep wc limit h j u
  · obtain ⟨key, pins, state⟩ := writtenBack_fields wc limit (decide (s.gens[h.index]? = some h.gen)) r
    exact released_unpinned r key pins state

/-! ### The mounted slot -/

/-- The states of the slots. -/
def State.slotStates (s : State) : List SlotState := s.mst.map (·.state)

theorem mountedIndex_of_slotStates {s t : State} (h : t.slotStates = s.slotStates) : t.mountedIndex = s.mountedIndex := by
  have index : ∀ u : State, u.mountedIndex = u.slotStates.findIdx? (· = .mounted) := fun u => by
    rw [State.slotStates, List.findIdx?_map]
    rfl
  rw [index, index, h]

theorem slotStates_withSlot {f : Slot → Slot} (h : ∀ m, (f m).state = m.state) (i : Nat) (s : State) :
    (s.withSlot i f).slotStates = s.slotStates := by
  refine List.ext_getElem? fun j => ?_
  rw [State.slotStates, State.slotStates, List.getElem?_map, List.getElem?_map, withSlot_mst, List.getElem?_modify]
  cases s.mst[j]? with
  | none => rfl
  | some m => by_cases heq : i = j <;> simp [heq, h]

@[simp] theorem slotStates_freePlace (i : Nat) (s : State) : (freePlace i s).slotStates = s.slotStates := by
  unfold freePlace
  split
  · exact slotStates_withSlot (f := fun m => { m with records := m.records - 1 }) (fun _ => rfl) _ _
  · rfl

@[simp] theorem slotStates_unpin (i : Nat) (s : State) : (unpin i s).slotStates = s.slotStates := by
  simp only [unpin]
  split
  · split
    · rw [slotStates_freePlace]; rfl
    · rfl
  · rfl

@[simp] theorem slotStates_release (e : Entry) (s : State) : (release e s).slotStates = s.slotStates :=
  foldl_keeps State.slotStates (fun s (h : Handle) => unpin h.index s) (fun s h => slotStates_unpin h.index s) _ s

@[simp] theorem slotStates_partialWriteBack (wc : WorkingCopy) (s : State) : (partialWriteBack wc s).slotStates = s.slotStates :=
  foldl_keeps State.slotStates _ (fun s h => by rw [slotStates_unpin, State.slotStates, addTally_mst]; rfl) _ s

@[simp] theorem slotStates_fullWriteBack (wc : WorkingCopy) (limit : Bool) (s : State) :
    (fullWriteBack wc limit s).slotStates = s.slotStates :=
  foldl_keeps State.slotStates _ (fun s h => by
    simp only [slotStates_unpin]
    split <;> simp only [State.slotStates, storeCorrection_mst, addTally_mst]) _ s

/-! ### Pins -/

/-- Pins, sources and the mounted slot agree (R11, R15), also while a READY entry is about to become the head. -/
structure Pinned (s : State) : Prop where
  fits : QueueFits s
  count : ∀ i r, s.record i = some r → r.pins = s.sgq.queue.countP (·.uses i)
  mounted : ∀ i r, s.record i = some r → r.pins ≠ 0 → s.mountedIndex = some r.key.media
  retiring : ∀ i r, s.record i = some r → r.state = .retiring → r.pins ≠ 0
  held : ∀ e ∈ s.sgq.queue, ∀ h ∈ e.sources, (s.record h.index).isSome = true
  distinct : ∀ e ∈ s.sgq.queue, (e.sources.map (·.index)).Nodup
  writes : ∀ e ∈ s.sgq.queue, e.isWrite = true → s.mountedIndex.isSome = true

theorem record_lt {s : State} {i : Nat} {r : Record} (h : s.record i = some r) : i < s.stb.length := by
  obtain ⟨p, hp, -⟩ := Option.bind_eq_some_iff.1 h
  exact (List.getElem?_eq_some_iff.1 hp).1

theorem pinsAgree_iff (s : State) : Safety.PinsAgree s ↔ Pinned s ∧ Settled s := by
  constructor
  · rintro ⟨shaped, records, held, distinct, writes⟩
    obtain ⟨fits, settled⟩ := (queueShaped_iff s).1 shaped
    refine ⟨⟨fits, fun i r hr => (records i (record_lt hr) r hr).1, fun i r hr => (records i (record_lt hr) r hr).2.1,
      fun i r hr => (records i (record_lt hr) r hr).2.2, fun e he h hh => ?_, fun e he => ?_, fun e he hw => ?_⟩, settled⟩
    · exact List.all_eq_true.1 (List.all_eq_true.1 held e he) h hh
    · exact of_decide_eq_true (List.all_eq_true.1 distinct e he)
    · exact writes (List.any_eq_true.2 ⟨e, he, hw⟩)
  · rintro ⟨h, settled⟩
    refine ⟨(queueShaped_iff s).2 ⟨h.fits, settled⟩, fun i _ r hr => ⟨h.count i r hr, h.mounted i r hr, h.retiring i r hr⟩,
      List.all_eq_true.2 fun e he => List.all_eq_true.2 (h.held e he), List.all_eq_true.2 fun e he => decide_eq_true (h.distinct e he),
      fun hw => ?_⟩
    obtain ⟨e, he, hw⟩ := List.any_eq_true.1 hw
    exact h.writes e he hw

theorem uses_iff (e : Entry) (i : Nat) : e.uses i = true ↔ ∃ h ∈ e.sources, h.index = i := by simp [Entry.uses]

theorem not_uses_iff (e : Entry) (i : Nat) : e.uses i = false ↔ ∀ h ∈ e.sources, h.index ≠ i := by simp [Entry.uses]

/-- An entry gives up its sources: it leaves the queue, or stays without a copy, and each record it named has one pin less. -/
theorem Pinned.unpin {s t : State} {e : Entry} {front back : List Entry} (h : Pinned s) (fits : QueueFits t)
    (hs : s.sgq.queue = front ++ e :: back)
    (ht : t.sgq.queue = front ++ back ∨ ∃ e', e'.sources = [] ∧ e'.isWrite = e.isWrite ∧ t.sgq.queue = front ++ e' :: back)
    (hr : Unpinned e.sources s t) (hm : t.mountedIndex = s.mountedIndex) : Pinned t := by
  have count : ∀ i, s.sgq.queue.countP (·.uses i) = t.sgq.queue.countP (·.uses i) + if e.uses i = true then 1 else 0 := by
    intro i
    obtain ht | ⟨e', none, -, ht⟩ := ht
    · rw [hs, ht, List.countP_append, List.countP_append, List.countP_cons]
      omega
    · have unused : e'.uses i = false := by simp [Entry.uses, none]
      rw [hs, ht, List.countP_append, List.countP_append, List.countP_cons, List.countP_cons, unused]
      simp only [Bool.false_eq_true, if_false]
      omega
  have old : ∀ x ∈ t.sgq.queue, x.sources = [] ∨ x ∈ s.sgq.queue := by
    intro x hx
    obtain ht | ⟨e', none, -, ht⟩ := ht
    · rw [ht] at hx
      exact .inr (by rw [hs]; simp at hx ⊢; tauto)
    · rw [ht] at hx
      obtain hx | rfl | hx := by simpa using hx
      · exact .inr (by simp [hs, hx])
      · exact .inl none
      · exact .inr (by simp [hs, hx])
  have he : e ∈ s.sgq.queue := by simp [hs]
  have source : ∀ i r, t.record i = some r → ∃ p, s.record i = some p ∧ r.pins = t.sgq.queue.countP (·.uses i) ∧ r.key = p.key
      ∧ (r.state = .retiring → r.pins ≠ 0) := by
    intro i r hi
    cases hp : s.record i with
    | none => rw [hr.empty i hp] at hi; cases hi
    | some p =>
      have counted := h.count i p hp
      rw [count i] at counted
      by_cases used : e.uses i = true
      · obtain ⟨h', hh', rfl⟩ := (uses_iff e i).1 used
        obtain ⟨gone, -⟩ | ⟨q, hq, pins, key, state⟩ := hr.named h' hh' p hp
        · rw [gone] at hi; cases hi
        · obtain rfl : q = r := Option.some.inj (hq.symm.trans hi)
          rw [if_pos used] at counted
          exact ⟨p, rfl, by omega, key, state⟩
      · rw [hr.unnamed i ((not_uses_iff e i).1 (by simpa using used)), hp] at hi
        obtain rfl := Option.some.inj hi
        rw [if_neg used] at counted
        exact ⟨p, rfl, counted, rfl, h.retiring i p hp⟩
  refine ⟨fits, fun i r hi => ?_, fun i r hi hp => ?_, fun i r hi => ?_, fun x hx h' hh' => ?_, fun x hx => ?_, fun x hx hw => ?_⟩
  · obtain ⟨-, -, counted, -⟩ := source i r hi
    exact counted
  · obtain ⟨p, hp', counted, key, -⟩ := source i r hi
    rw [hm, key]
    refine h.mounted i p hp' ?_
    have := h.count i p hp'
    rw [count i] at this
    omega
  · obtain ⟨-, -, -, -, state⟩ := source i r hi
    exact state
  · obtain none | hx' := old x hx
    · simp [none] at hh'
    · obtain ⟨p, hp⟩ := Option.isSome_iff_exists.1 (h.held x hx' h' hh')
      by_cases used : e.uses h'.index = true
      · obtain ⟨k, hk, hki⟩ := (uses_iff e _).1 used
        have released := hr.named k hk p (by rw [hki]; exact hp)
        rw [hki] at released
        obtain ⟨-, -, few⟩ | ⟨q, hq, -⟩ := released
        · have counted := h.count _ p hp
          rw [count, if_pos used] at counted
          have : 0 < t.sgq.queue.countP (·.uses h'.index) := List.countP_pos_iff.2 ⟨x, hx, (uses_iff x _).2 ⟨h', hh', rfl⟩⟩
          omega
        · rw [hq]; rfl
      · rw [hr.unnamed _ ((not_uses_iff e _).1 (by simpa using used)), hp]; rfl
  · obtain none | hx' := old x hx
    · simp [none]
    · exact h.distinct x hx'
  · rw [hm]
    obtain ht | ⟨e', -, write, ht⟩ := ht
    · exact h.writes x (by rw [ht] at hx; rw [hs]; simp at hx ⊢; tauto) hw
    · rw [ht] at hx
      obtain hx | rfl | hx := by simpa using hx
      · exact h.writes x (by simp [hs, hx]) hw
      · exact h.writes e he (write ▸ hw)
      · exact h.writes x (by simp [hs, hx]) hw

end Sys2Proof.Machine
end

section
/-! SUPPORT. Re-resolution and the arbiter: what goes back to PENDING, what is released with it, and which requester is taken. -/

namespace Sys2Proof.Machine

open Sys2Proof.Stated

/-! ### Re-resolution (R51, R58) -/

/-- An entry sent back to PENDING (R51). -/
def Entry.sent (e : Entry) : Entry := { e with state := .pending, copy := .none, warnings := Warnings.empty }

theorem sent_fits {e : Entry} (h : e.kind ≠ .read) : Safety.copyFits e.sent = true := by
  cases hk : e.kind with
  | read => exact absurd hk h
  | write => simp [Safety.copyFits, Entry.sent, hk]
  | trial => simp [Safety.copyFits, Entry.sent, hk]

theorem sendBack_queue (s : State) (e : Entry) :
    (sendBack s e).sgq.queue = s.sgq.queue.map fun x => if x.pos = e.pos then x.sent else x := by
  rw [sendBack, withEntry_queue, release_sgq]
  rfl

theorem mem_of_pos {q : List Entry} (hn : (q.map (·.pos)).Nodup) {x e : Entry} (hx : x ∈ q) (he : e ∈ q) (heq : x.pos = e.pos) : x = e := by
  obtain ⟨i, hi, rfl⟩ := List.getElem_of_mem hx
  obtain ⟨j, hj, rfl⟩ := List.getElem_of_mem he
  have := (hn.getElem_inj_iff (i := i) (j := j) (hi := by simpa using hi) (hj := by simpa using hj)).1 (by simpa using heq)
  simp [this]

theorem sendBack_fits {s : State} (h : QueueFits s) {e : Entry} (he : e ∈ s.sgq.queue) (hk : e.kind ≠ .read) : QueueFits (sendBack s e) := by
  refine h.map (fun x => if x.pos = e.pos then x.sent else x) (sendBack_queue s e) (fun x => ?_) (fun x _ hw => ?_) fun x hx => ?_
  · split <;> rfl
  · split
    · rfl
    · exact hw
  · split
    · next heq =>
      exact sent_fits (mem_of_pos h.positions hx he heq ▸ hk)
    · exact h.copies x hx

/-- An entry sent back gives up its sources (R51). -/
theorem sendBack_pinned {s : State} (h : Pinned s) {e : Entry} (he : e ∈ s.sgq.queue) (hk : e.kind ≠ .read) : Pinned (sendBack s e) := by
  obtain ⟨front, back, hs, -, change, -⟩ := queue_cut h.fits.positions he
  refine h.unpin (sendBack_fits h.fits he hk) hs (.inr ⟨e.sent, rfl, rfl, ?_⟩) ?_ ?_
  · rw [sendBack_queue]
    exact change Entry.sent
  · have released := release_unpinned (h.distinct e he) s
    exact ⟨released.gens, released.named, released.unnamed, released.empty⟩
  · exact mountedIndex_of_slotStates (slotStates_release e s)

/-- Entries sent back one after the other. -/
theorem sendBacks {l : List Entry} (hl : (l.map (·.pos)).Nodup) (hk : ∀ e ∈ l, e.kind ≠ .read) {s : State} (hm : ∀ e ∈ l, e ∈ s.sgq.queue) :
    (l.foldl sendBack s).sgq.queue = s.sgq.queue.map (fun x => if l.any (fun e => decide (e.pos = x.pos)) then x.sent else x)
      ∧ (QueueFits s → QueueFits (l.foldl sendBack s)) ∧ (Pinned s → Pinned (l.foldl sendBack s)) := by
  induction l generalizing s with
  | nil => simp
  | cons e l ih =>
    rw [List.map_cons, List.nodup_cons] at hl
    have he : e ∈ s.sgq.queue := hm e (by simp)
    have apart : ∀ x ∈ l, x.pos ≠ e.pos := fun x hx heq => hl.1 (List.mem_map.2 ⟨x, hx, heq⟩)
    have stays : ∀ x ∈ l, x ∈ (sendBack s e).sgq.queue := fun x hx => by
      rw [sendBack_queue]
      exact List.mem_map.2 ⟨x, hm x (by simp [hx]), if_neg (apart x hx)⟩
    obtain ⟨queue, fits, pinned⟩ := ih hl.2 (fun x hx => hk x (by simp [hx])) stays
    refine ⟨?_, fun h => fits (sendBack_fits h he (hk e (by simp))), fun h => pinned (sendBack_pinned h he (hk e (by simp)))⟩
    rw [List.foldl_cons, queue, sendBack_queue, List.map_map]
    refine List.map_congr_left fun x _ => ?_
    by_cases heq : x.pos = e.pos
    · simp [heq, Entry.sent]
    · simp [heq, Ne.symm heq]

/-- Re-resolution: the READY entries it concerns go back to PENDING, each with its sources released (R51, R58). -/
theorem reResolve_spec {s : State} (hs : (s.sgq.queue.map (·.pos)).Nodup) {p : Entry → Bool}
    (hk : ∀ e ∈ s.sgq.queue, e.state = .ready → p e = true → e.kind ≠ .read) :
    (reResolve p s).sgq.queue = s.sgq.queue.map (fun e => if e.state = .ready ∧ p e = true then e.sent else e)
      ∧ (QueueFits s → QueueFits (reResolve p s)) ∧ (Pinned s → Pinned (reResolve p s)) := by
  have member : ∀ e, e ∈ s.sentBack p ↔ e ∈ s.sgq.queue ∧ e.state = .ready ∧ p e = true := fun e => by
    simp [State.sentBack, List.mem_filter]
  have sub : (s.sentBack p).Sublist s.sgq.queue := List.filter_sublist
  obtain ⟨queue, fits, pinned⟩ := sendBacks (hs.sublist (sub.map _)) (fun e he => hk e ((member e).1 he).1 ((member e).1 he).2.1 ((member e).1 he).2.2)
    fun e he => ((member e).1 he).1
  refine ⟨?_, fits, pinned⟩
  rw [reResolve, queue]
  refine List.map_congr_left fun x hx => ?_
  refine if_congr ?_ rfl rfl
  rw [List.any_eq_true]
  constructor
  · rintro ⟨e, he, hpos⟩
    obtain rfl := mem_of_pos hs hx ((member e).1 he).1 (of_decide_eq_true hpos).symm
    exact ((member x).1 he).2
  · exact fun h => ⟨x, (member x).2 ⟨hx, h⟩, by simp⟩

/-- A READ entry stands on no record. -/
theorem kind_of_uses {e : Entry} (hc : Safety.copyFits e = true) {i : Nat} (hu : e.uses i = true) : e.kind ≠ .read := by
  intro hk
  obtain ⟨h, hh, -⟩ := (uses_iff e i).1 hu
  unfold Safety.copyFits at hc
  unfold Entry.sources at hh
  rw [hk] at hc
  cases hcopy : e.copy <;> simp_all

/-- A change of places, slots and queue alone. -/
def TablesOnly (s t : State) : Prop := t = { s with stb := t.stb, mst := t.mst, sgq := { s.sgq with queue := t.sgq.queue } }

theorem TablesOnly.trans {s t u : State} (h : TablesOnly s t) (h' : TablesOnly t u) : TablesOnly s u := by
  unfold TablesOnly at *
  rw [h', h]

theorem TablesOnly.foldl {α : Type} {g : State → α → State} (h : ∀ s a, TablesOnly s (g s a)) (l : List α) (s : State) :
    TablesOnly s (l.foldl g s) := by
  induction l generalizing s with
  | nil => rfl
  | cons a l ih => exact (h s a).trans (ih _)

theorem TablesOnly.rest {s t : State} (h : TablesOnly s t) : t.lsc = s.lsc ∧ t.wgd = s.wgd ∧ t.pkp = s.pkp ∧ t.pgn = s.pgn ∧ t.plp = s.plp
    ∧ t.flk = s.flk ∧ t.act = s.act ∧ t.lines = s.lines ∧ t.cpt = s.cpt ∧ t.rse = s.rse ∧ t.pending = s.pending
    ∧ t.sgq.requester = s.sgq.requester := by
  unfold TablesOnly at h
  rw [h]
  exact ⟨rfl, rfl, rfl, rfl, rfl, rfl, rfl, rfl, rfl, rfl, rfl, rfl⟩

theorem freePlace_tablesOnly (i : Nat) (s : State) : TablesOnly s (freePlace i s) := by
  unfold freePlace
  split <;> rfl

theorem unpin_tablesOnly (i : Nat) (s : State) : TablesOnly s (unpin i s) := by
  simp only [unpin]
  split
  · split
    · exact TablesOnly.trans (t := s.withRecord i fun r => { r with pins := r.pins - 1 }) rfl (freePlace_tablesOnly i _)
    · rfl
  · rfl

theorem release_tablesOnly (e : Entry) (s : State) : TablesOnly s (release e s) := TablesOnly.foldl (fun s (h : Handle) => unpin_tablesOnly h.index s) _ s

theorem sendBack_tablesOnly (s : State) (e : Entry) : TablesOnly s (sendBack s e) := (release_tablesOnly e s).trans rfl

theorem reResolve_tablesOnly (p : Entry → Bool) (s : State) : TablesOnly s (reResolve p s) := TablesOnly.foldl sendBack_tablesOnly _ s

/-- A head that is not READY is not sent back. -/
theorem reResolve_settled {s : State} (hs : (s.sgq.queue.map (·.pos)).Nodup) {p : Entry → Bool}
    (hk : ∀ e ∈ s.sgq.queue, e.state = .ready → p e = true → e.kind ≠ .read) (h : Settled s) : Settled (reResolve p s) := by
  unfold Settled at *
  rw [(reResolve_spec hs hk).1]
  cases hq : s.sgq.queue with
  | nil => rfl
  | cons e q =>
    rw [hq] at h
    simp at h
    simp [h]

/-- Settles O38: each READY entry concerned gives up its sources in its turn (`sendBack_pinned`). -/
theorem reResolutionReleasesPins : Obligations.ReResolutionReleasesPins := by
  intro p s h hk
  obtain ⟨pinned, settled⟩ := (pinsAgree_iff s).1 h
  have chosen : ∀ e ∈ s.sgq.queue, e.state = .ready → p e = true → e.kind ≠ .read := fun e he _ => hk e he
  obtain ⟨queue, -, kept⟩ := reResolve_spec pinned.fits.positions chosen
  exact ⟨queue, (pinsAgree_iff _).2 ⟨kept pinned, reResolve_settled pinned.fits.positions chosen settled⟩,
    fun i r hr => ((reResolve_loosened p s).2 i).2 r hr, reResolve_tablesOnly p s⟩

/-! ### The arbiter (R39) -/

theorem oldestPending_none (q : Sgq) : q.oldestPending = none ↔ ∀ x ∈ q.queue, x.state ≠ .pending ∨ x.isWrite = false := by
  simp [Sgq.oldestPending, imp_iff_not_or]

theorem oldestPending_first {q : Sgq} {a b : List Entry} {e : Entry} (hq : q.queue = a ++ e :: b) (hs : e.state = .pending)
    (hw : e.isWrite = true) (ha : ∀ x ∈ a, x.state ≠ .pending ∨ x.isWrite = false) : q.oldestPending = some e := by
  rw [Sgq.oldestPending, hq, List.find?_append, List.find?_eq_none.2 fun x hx => by simpa [imp_iff_not_or] using ha x hx]
  simp [hs, hw]

/-- Settles O39: the arbiter's outcome by the engine, the host lookup that waits and the oldest PENDING write. -/
theorem arbiterTakesTheNextRequester : Obligations.ArbiterTakesTheNextRequester := by
  intro s
  refine ⟨fun busy => ?_, fun idle => ⟨fun q hq hc => ?_, fun a b e hq hs hw ha free => ?_, fun quiet => ⟨fun q hq => ?_, fun hq => ?_⟩⟩⟩
  · rw [arbiter, if_pos busy]
  · rw [arbiter, if_neg (by simpa using idle), hq]
    cases s.sgq.oldestPending <;> simp [hc]
  · rw [arbiter, if_neg (by simpa using idle), oldestPending_first hq hs hw ha]
    cases hwait : s.rse.waiting with
    | none => rfl
    | some q => simp only [if_neg (free.resolve_left (by simp [hwait]))]; rfl
  · rw [arbiter, if_neg (by simpa using idle), (oldestPending_none s.sgq).2 quiet, hq]
  · rw [arbiter, if_neg (by simpa using idle), (oldestPending_none s.sgq).2 quiet, hq]

end Sys2Proof.Machine
end

section
/-! SUPPORT. The completions of the host lookups: the answers of REC_FIND and REC_SCAN, and the matching pass. -/

namespace Sys2Proof.Machine

open Sys2Proof.Stated

theorem findPayload_found {places : List Place} {set : Settings} {mode : Mode} {k : Key} {w : Working}
    (h : working places k (resolve places set mode k) = some w) :
    findPayload places set mode k
      = putU8 w.kind.toNat ++ putU8 w.sources.length ++ w.sources.flatMap (fun h => putHandle h ++ putU8 (placeStateCode places h.index))
        ++ putBool w.suspect ++ putShape w.strat ++ putOverrides w.strat.overrides ++ putU8 w.strat.dt ++ putS16 w.corr := by
  simp only [findPayload, h]

theorem putBool_eq (b : Bool) : putBool b = [if b = true then 1 else 0] := by cases b <;> rfl

theorem findPayload_none {places : List Place} {set : Settings} {mode : Mode} {k : Key}
    (h : working places k (resolve places set mode k) = none) :
    findPayload places set mode k = (if mode = .trial then 6 else 5) :: List.replicate 29 0 := by
  simp only [findPayload, h]
  cases mode <;> rfl

/-! ### The matching pass (R66, R68) -/

theorem record_leaveServices {l : List Nat} (hl : l.Nodup) (i : Nat) (s : State) :
    (l.foldl (fun s i => leaveService i s) s).record i = if i ∈ l then (s.record i).bind Record.outOfService else s.record i := by
  induction l generalizing s with
  | nil => simp
  | cons a l ih =>
    rw [List.nodup_cons] at hl
    rw [List.foldl_cons, ih hl.2, record_leaveService]
    by_cases heq : a = i
    · subst heq
      simp [hl.1]
    · simp [heq, Ne.symm heq]

/-- The places of the matching records in service. -/
def inService (f : KeyFilter) (s : State) : List Nat :=
  (matchingPlaces s.stb f 0).filter fun i => (s.record i).any fun r => decide (r.state ≠ .retiring)

theorem mem_matchingPlaces (f : KeyFilter) (s : State) (i : Nat) :
    i ∈ matchingPlaces s.stb f 0 ↔ ∃ r, s.record i = some r ∧ filterTakes f r.key = true := by
  have held : sourceRecord s.stb i = s.record i := rfl
  simp only [matchingPlaces, List.mem_filter, List.mem_range, Nat.zero_le, decide_true, Bool.true_and, held, matches_eq_filterTakes,
    Option.any_eq_true]
  exact ⟨And.right, fun ⟨r, hr, hf⟩ => ⟨record_lt hr, r, hr, hf⟩⟩

theorem mem_inService (f : KeyFilter) (s : State) (i : Nat) :
    i ∈ inService f s ↔ ∃ r, s.record i = some r ∧ filterTakes f r.key = true ∧ r.state ≠ .retiring := by
  rw [inService, List.mem_filter, mem_matchingPlaces, Option.any_eq_true]
  constructor
  · rintro ⟨⟨r, hr, hf⟩, q, hq, hs⟩
    obtain rfl : r = q := Option.some.inj (hr.symm.trans hq)
    exact ⟨r, hr, hf, of_decide_eq_true hs⟩
  · exact fun ⟨r, hr, hf, hs⟩ => ⟨⟨r, hr, hf⟩, r, hr, decide_eq_true hs⟩

theorem inService_nodup (f : KeyFilter) (s : State) : (inService f s).Nodup := (List.nodup_range.filter _).filter _

/-- The entries that the matching pass sends back are those sourced on a record it retires (R68). -/
theorem retired_eq (f : KeyFilter) (s : State) (e : Entry) :
    ((List.range s.stb.length).any fun i => e.uses i && (s.record i).any fun r => filterTakes f r.key && decide (r.state ≠ .retiring))
      = (inService f s).any e.uses := by
  rw [Bool.eq_iff_iff, List.any_eq_true, List.any_eq_true]
  constructor
  · rintro ⟨i, -, hi⟩
    obtain ⟨used, held⟩ := Bool.and_eq_true_iff.1 hi
    obtain ⟨r, hr, hf⟩ := (Option.any_eq_true _ _).1 held
    obtain ⟨takes, service⟩ := Bool.and_eq_true_iff.1 hf
    exact ⟨i, (mem_inService f s i).2 ⟨r, hr, takes, of_decide_eq_true service⟩, used⟩
  · rintro ⟨i, hi, used⟩
    obtain ⟨r, hr, takes, service⟩ := (mem_inService f s i).1 hi
    exact ⟨i, List.mem_range.2 (record_lt hr), by simp [used, hr, takes, service]⟩

theorem record_matchesRetired (f : KeyFilter) (s : State) (i : Nat) :
    (matchesRetired (inService f s) s).record i
      = if i ∈ inService f s then ((reResolve (fun e => (inService f s).any e.uses) s).record i).bind Record.outOfService
        else (reResolve (fun e => (inService f s).any e.uses) s).record i :=
  record_leaveServices (inService_nodup f s) i _

theorem occupiedPlaces_eq (s : State) : occupiedPlaces s.stb = (List.range s.stb.length).countP fun i => (s.record i).isSome := by
  have places : s.stb.countP (·.held.isSome) = ((List.range s.stb.length).map fun i => s.stb[i]?).countP fun o => (o.bind (·.held)).isSome := by
    have : (List.range s.stb.length).map (fun i => s.stb[i]?) = s.stb.map some := by
      refine List.ext_getElem? fun i => ?_
      by_cases hi : i < s.stb.length
      · simp [hi]
      · simp [hi]
    rw [this, List.countP_map]
    rfl
  rw [occupiedPlaces, places, List.countP_map]
  rfl

theorem countP_split {α : Type} (p q : α → Bool) (l : List α) :
    l.countP p = l.countP (fun a => p a && !q a) + l.countP fun a => p a && q a := by
  induction l with
  | nil => rfl
  | cons a l ih => cases hp : p a <;> cases hq : q a <;> simp [hp, hq, ih] <;> omega

theorem leaveService_tablesOnly (i : Nat) (s : State) : TablesOnly s (leaveService i s) := by
  unfold leaveService
  split
  · split
    · rfl
    · split
      · exact freePlace_tablesOnly i s
      · rfl
  · rfl

theorem matchesRetired_tablesOnly (l : List Nat) (s : State) : TablesOnly s (matchesRetired l s) :=
  (reResolve_tablesOnly _ s).trans (TablesOnly.foldl (fun s i => leaveService_tablesOnly i s) l _)

theorem matchesRetired_length (l : List Nat) (s : State) : (matchesRetired l s).stb.length = s.stb.length := by
  have gens : (matchesRetired l s).gens = s.gens :=
    (foldl_keeps State.gens (fun s i => leaveService i s) (fun u i => gens_leaveService i u) l _).trans (reResolve_loosened _ s).1
  simpa [State.gens] using congrArg List.length gens

/-- The records freed and those left RETIRING, counted over the places (R68). -/
theorem completeRetireMatch_eq (f : KeyFilter) (s : State) :
    completeRetireMatch f s =
      let t := matchesRetired (inService f s) s
      hostDone 36
        [BitVec.ofNat 8 ((List.range s.stb.length).countP fun i => (s.record i).isSome && (t.record i).isNone),
          BitVec.ofNat 8 ((matchingPlaces s.stb f 0).countP fun i => (t.record i).any fun r => decide (r.state = .retiring)),
          BitVec.ofNat 8 (s.sgq.queue.countP fun e => decide (e.state = .ready) && (inService f s).any e.uses)] t := by
  have fewer : ∀ i, ((matchesRetired (inService f s) s).record i).isSome = true → (s.record i).isSome = true := fun i hi => by
    cases hr : s.record i with
    | some r => rfl
    | none =>
      rw [record_matchesRetired, ((reResolve_loosened _ s).2 i).1 hr] at hi
      simp at hi
  have freed : occupiedPlaces s.stb - occupiedPlaces (matchesRetired (inService f s) s).stb
      = (List.range s.stb.length).countP fun i => (s.record i).isSome && ((matchesRetired (inService f s) s).record i).isNone := by
    rw [occupiedPlaces_eq, occupiedPlaces_eq, matchesRetired_length,
      countP_split (fun i => (s.record i).isSome) fun i => ((matchesRetired (inService f s) s).record i).isSome]
    have kept : (List.range s.stb.length).countP (fun i => (s.record i).isSome && ((matchesRetired (inService f s) s).record i).isSome)
        = (List.range s.stb.length).countP fun i => ((matchesRetired (inService f s) s).record i).isSome := by
      refine List.countP_congr fun i _ => ?_
      rw [Bool.and_eq_true]
      exact ⟨And.right, fun hi => ⟨fewer i hi, hi⟩⟩
    rw [kept]
    simp
  change hostDone 36 (putU8 (occupiedPlaces s.stb - occupiedPlaces (matchesRetired (inService f s) s).stb) ++ putU8 _
    ++ putU8 (s.sentBack _).length) (matchesRetired (inService f s) s) = _
  rw [freed, sentBack_count]
  rfl

/-- The matching records that are RETIRING after the pass, counted over the places. -/
theorem retiring_count (f : KeyFilter) (s : State) :
    (matchingPlaces s.stb f 0).countP (fun i => ((matchesRetired (inService f s) s).record i).any fun r => decide (r.state = .retiring))
      = (List.range s.stb.length).countP fun i =>
        ((matchesRetired (inService f s) s).record i).any fun r => filterTakes f r.key && decide (r.state = .retiring) := by
  have key : ∀ i r, (matchesRetired (inService f s) s).record i = some r → ∃ q, s.record i = some q ∧ q.key = r.key := by
    intro i r hr
    have loosened := reResolve_loosened (fun e => (inService f s).any e.uses) s
    cases hq : s.record i with
    | none => rw [record_matchesRetired, (loosened.2 i).1 hq] at hr; simp at hr
    | some q =>
      refine ⟨q, rfl, ?_⟩
      rw [record_matchesRetired] at hr
      obtain ⟨gone, -⟩ | ⟨n, -, hn⟩ := (loosened.2 i).2 q hq
      · simp [gone] at hr
      · rw [hn] at hr
        split at hr
        · simp only [Option.bind_some, Record.outOfService] at hr
          split at hr
          · obtain rfl := Option.some.inj hr; rfl
          · split at hr
            · cases hr
            · obtain rfl := Option.some.inj hr; rfl
        · obtain rfl := Option.some.inj hr; rfl
  rw [matchingPlaces, List.countP_filter]
  refine List.countP_congr fun i _ => ?_
  have held : sourceRecord s.stb i = s.record i := rfl
  simp only [held, Nat.zero_le, decide_true, Bool.true_and, matches_eq_filterTakes]
  cases hr : (matchesRetired (inService f s) s).record i with
  | none => simp
  | some r =>
    obtain ⟨q, hq, hkey⟩ := key i r hr
    simp [hq, hkey, and_comm]

/-- Settles O37: the payloads byte by byte, and the matching pass record by record (`record_matchesRetired`). -/
theorem hostLookupsComplete : Obligations.HostLookupsComplete := by
  refine ⟨fun s mode k hf => ?_, fun s f start hf => ?_, fun s f hf => ?_⟩
  · intro found answers
    have completes : exec .recFindCompletion s = .next (hostDone 38 (findPayload s.stb s.cpt.settings mode k) s) := by
      simp only [exec, execRecFindCompletion, hf]
    refine ⟨fun w hw => ?_, fun hw => ?_, ?_⟩
    · simp only [answers]
      rw [completes, findPayload_found hw]
      simp only [putShape, putOverrides, putBool_eq, List.append_assoc]
      rfl
    · simp only [answers]
      rw [completes, findPayload_none hw]
      rfl
    · rintro (hm | hm) <;> simp [hm, working]
  · intro found page next
    have completes : exec .recScanCompletion s = .next (hostDone 39 (scanPayload s.stb f start) s) := by
      simp only [exec, execRecScanCompletion, hf]
    have listed : matchingPlaces s.stb f start = found := by
      simp only [matchingPlaces, found, matches_eq_filterTakes]
      rfl
    have last : putOpt (if page.length = Config.scanPage ∧ page.getLast?.getD 95 < 95 then some (page.getLast?.getD 95 + 1) else none)
        = [next] := by
      unfold putOpt next
      rw [show Config.scanPage = 24 from rfl]
      split <;> rfl
    rw [completes, scanPayload, listed]
    change Host.Outcome.next (hostDone 39 (_ ++ putOpt (if page.length = Config.scanPage ∧ _ then _ else none)) s) = _
    rw [last]
    rfl
  · intro retired u
    have hu : u = reResolve (fun e => (inService f s).any e.uses) s := congrArg (reResolve · s) (funext (retired_eq f s))
    have completes : exec .recRetireMatchCompletion s = .next (completeRetireMatch f s) := by
      simp only [exec, execRecRetireMatchCompletion, hf]
    have loosened : Loosened s u := reResolve_loosened _ s
    have kept : ∀ i r, s.record i = some r → u.record i = none ∧ r.state = .retiring ∨ ∃ n, u.record i = some { r with pins := n } :=
      fun i r hr => ((loosened.2 i).2 r hr).imp_right fun ⟨n, _, hn⟩ => ⟨n, hn⟩
    have record : ∀ i, (completeRetireMatch f s).record i = if i ∈ inService f s then (u.record i).bind Record.outOfService else u.record i := by
      intro i
      rw [completeRetireMatch_eq, hu]
      exact (congrArg (fun places => (places[i]?).bind Place.held) (arbiter_stb _)).trans (record_matchesRetired f s i)
    obtain ⟨lsc, wgd, pkp, pgn, plp, flk, act, lines, cpt, -⟩ := (matchesRetired_tablesOnly (inService f s) s).rest
    refine ⟨_, completes, fun i hi => ?_, fun i r hr takes service => ?_, fun i r hr left => ?_, kept, ?_, ?_⟩
    · rw [record, (loosened.2 i).1 hi]
      simp
    · obtain ⟨n, -, hn⟩ := loosened.record_inService hr service
      refine ⟨_, hn, ?_⟩
      rw [record, if_pos ((mem_inService f s i).2 ⟨r, hr, takes, service⟩), hn]
      simp [Record.outOfService, service]
    · rw [record, if_neg]
      rintro hi
      obtain ⟨q, hq, takes, service⟩ := (mem_inService f s i).1 hi
      obtain rfl : r = q := Option.some.inj (hr.symm.trans hq)
      exact left.elim (fun h => by simp [takes] at h) service
    · intro freed retiring sentBack counts
      have payload : counts = [BitVec.ofNat 8 ((List.range s.stb.length).countP fun i =>
              (s.record i).isSome && ((matchesRetired (inService f s) s).record i).isNone),
            BitVec.ofNat 8 ((matchingPlaces s.stb f 0).countP fun i =>
              ((matchesRetired (inService f s) s).record i).any fun r => decide (r.state = .retiring)),
            BitVec.ofNat 8 (s.sgq.queue.countP fun e => decide (e.state = .ready) && (inService f s).any e.uses)] := by
        have same : ∀ i, (completeRetireMatch f s).record i = (matchesRetired (inService f s) s).record i := fun i => by
          rw [record, record_matchesRetired, hu]
        have chosen : retired = fun e => (inService f s).any e.uses := funext (retired_eq f s)
        simp only [counts, freed, retiring, sentBack, same, chosen, retiring_count]
      rw [payload, completeRetireMatch_eq, hostDone, arbiter_cpt, answer, cpt]
    · simp only [completeRetireMatch_eq, hostDone, answer, arbiter_lsc, arbiter_wgd, arbiter_pkp, arbiter_pgn, arbiter_plp, arbiter_flk, arbiter_act,
        arbiter_lines]
      exact ⟨lsc, wgd, pkp, pgn, plp, flk, act, lines⟩

end Sys2Proof.Machine
end


section
/-! SUPPORT. The queue as the formatter and the arming checks see it: the link's messages by their bytes, the end of an entry, the checks of an
ARMING head in their order, and CANCEL, END, the gate and the settle timer (O44 to O47, O60). -/

namespace Sys2Proof.Machine

open Sys2Proof.Stated

/-! ### Messages -/

theorem classCode_eq (c : CreditClass) : c.toNat = classCode c := by cases c <;> rfl

theorem doneMessage_eq (tag : Nat) (cls : CreditClass) (o : DoneOutcome) (w : Warnings) : doneMessage tag cls o w = doneBytes tag cls o w := by
  rw [doneMessage, classCode_eq, warnings_toNat]
  cases o <;> rfl

theorem readyMessage_eq (tag : Nat) : readyMessage tag = readyBytes tag := rfl

theorem rejectMessage_eq (tag cls : Nat) (r : RejectReason) (b : Bool) : rejectMessage tag cls r b = rejectBytes tag cls r b := by
  cases r <;> rfl

theorem send_eq (m : List Byte) (s : State) : send m s = sent m s := rfl

theorem linkFault_eq (s : State) : linkFault s = faulted s := rfl

theorem requestJump_eq (e : Entry) (s : State) : requestJump e s = jumpRequested e s := rfl

theorem withHead_eq {s : State} {e : Entry} {rest : List Entry} (hq : s.sgq.queue = e :: rest) (f : Entry → Entry) :
    s.withHead f = queued (f e :: rest) s := by
  simp [State.withHead, queued, hq]

/-! ### The end of an event -/

/-- The governing entry is decided by the head. -/
theorem governing_of_head {q q' : Sgq} (h : q.queue.head? = q'.queue.head?) : q.governing = q'.governing := by
  unfold Sgq.governing
  cases hq : q.queue <;> cases hq' : q'.queue <;> simp_all

/-- An event that keeps the laser and the head of the queue leaves the codes as they are (R155). -/
theorem settleCodes_of_head {s t : State} (hl : t.lsc = s.lsc) (hh : t.sgq.queue.head? = s.sgq.queue.head?) : settleCodes s t = t :=
  settleCodes_same s t hl.symm (by rw [governing_of_head hh])

/-! ### Entries that end -/

/-- The state after an entry has ended, but for the queue: its DONE and, unless the outcome is OK, its counter event (R101). -/
theorem finishEntry_flk (o : DoneOutcome) (e : Entry) (s : State) (h : s.flk.out.length < 32) :
    (finishEntry o e s).flk = { s.flk with out := s.flk.out ++ [doneBytes e.tag e.cls o e.warnings] } := by
  have sent : (send (doneMessage e.tag e.cls o e.warnings) (dropEntry e s)).flk
      = { s.flk with out := s.flk.out ++ [doneBytes e.tag e.cls o e.warnings] } := by
    rw [send_room _ _ (by exact h), doneMessage_eq]; rfl
  unfold finishEntry
  split
  · exact sent
  · rw [countEvent_flk, sent]

theorem finishEntry_act (o : DoneOutcome) (e : Entry) (s : State) :
    (finishEntry o e s).act = if o = .ok then s.act else s.act.map (Counter.add .segmentFailed (s.eventKey e) 1) := by
  unfold finishEntry
  split
  · rw [send_act]; rfl
  · rw [countEvent_act, send_act]; rfl

/-- The notices that the end of an entry leaves: of all kinds it can raise LINK_FAULT and COUNTER_WRAP alone. -/
theorem finishEntry_notices (o : DoneOutcome) (e : Entry) (s : State) :
    let n := (finishEntry o e s).cpt.notices
    n.aged = s.cpt.notices.aged ∧ n.suspect = s.cpt.notices.suspect ∧ n.needsRecord = s.cpt.notices.needsRecord
      ∧ n.holdEntered = s.cpt.notices.holdEntered ∧ n.focusLost = s.cpt.notices.focusLost := by
  have sent : ∃ b, (send (doneMessage e.tag e.cls o e.warnings) (dropEntry e s)).cpt.notices = { s.cpt.notices with linkFault := b } := by
    unfold send
    split
    · exact ⟨_, rfl⟩
    · exact ⟨true, rfl⟩
  obtain ⟨b, hb⟩ := sent
  unfold finishEntry
  dsimp only
  split
  · rw [hb]; exact ⟨rfl, rfl, rfl, rfl, rfl⟩
  · rw [countEvent_notices, wrap_frame, hb]; exact ⟨rfl, rfl, rfl, rfl, rfl⟩

/-- An entry of the queue that ends leaves the others: the queue without its tag. -/
theorem finishEntry_tags {s : State} (hs : Safety.QueueWithinCredits s) {e : Entry} (he : e ∈ s.sgq.queue) (o : DoneOutcome) :
    (finishEntry o e s).sgq.queue.map (·.tag) = (s.sgq.queue.map (·.tag)).erase e.tag
      ∧ (finishEntry o e s).sgq.queue = s.sgq.queue.filter (fun x => decide (x.tag ≠ e.tag)) := by
  obtain ⟨hpos, htag, -⟩ := hs
  rw [finishEntry_queue]
  have same : s.sgq.queue.filter (·.pos ≠ e.pos) = s.sgq.queue.filter (fun x => decide (x.tag ≠ e.tag)) := by
    refine List.filter_congr fun x hx => decide_eq_decide.mpr (not_congr ⟨fun h => ?_, fun h => ?_⟩)
    · rw [List.inj_on_of_nodup_map hpos hx he h]
    · rw [List.inj_on_of_nodup_map htag hx he h]
  refine ⟨?_, same⟩
  rw [same, htag.erase_eq_filter, List.filter_map]
  refine congrArg _ (List.filter_congr fun x _ => ?_)
  simp only [Function.comp_apply, ne_eq, decide_not, Bool.beq_eq_decide_eq, bne]

/-! ### Judging the head -/

/-- With more fuel than entries the queue goes on alike: every head that fails a check leaves it. -/
theorem advance_enough : ∀ (n m : Nat) (s : State), s.sgq.queue.length ≤ n → s.sgq.queue.length ≤ m → advance n s = advance m s
  | 0, 0, _, _, _ => rfl
  | 0, m + 1, s, hn, _ => by
    have hq : s.sgq.queue = [] := List.length_eq_zero_iff.mp (Nat.le_zero.mp hn)
    simp [advance, hq]
  | n + 1, 0, s, _, hm => by
    have hq : s.sgq.queue = [] := List.length_eq_zero_iff.mp (Nat.le_zero.mp hm)
    simp [advance, hq]
  | n + 1, m + 1, s, hn, hm => by
    unfold advance
    cases hq : s.sgq.queue with
    | nil => rfl
    | cons e rest =>
      rw [hq] at hn hm
      simp only [List.length_cons, Nat.add_le_add_iff_right] at hn hm
      dsimp only
      split
      · have shorter : ∀ o, (endEntry o { e with state := .arming } (s.withHead ({ · with state := .arming }))).sgq.queue.length
            ≤ rest.length := by
          intro o
          rw [withHead_eq hq, endEntry, finishEntry_queue, release_sgq]
          have := List.length_filter_le (fun x => decide (x.pos ≠ e.pos)) rest
          simpa [queued] using this
        unfold judgeHead
        split
        · rfl
        · rfl
        · rfl
        · exact advance_enough n m _ ((shorter _).trans hn) ((shorter _).trans hm)
      · rfl

theorem goOn_eq {s : State} {e : Entry} {rest : List Entry} (hq : s.sgq.queue = e :: rest) (hr : e.state = .ready) :
    goOn s = judgeAgain (queued ({ e with state := .arming } :: rest) s) := by
  have step : goOn s = judgeHead (advance rest.length) { e with state := .arming } (queued ({ e with state := .arming } :: rest) s) := by
    simp only [goOn, hq, List.length_cons, advance, hr, if_true]
    rw [withHead_eq hq]
  rw [step]
  simp only [judgeAgain, queued, if_true]
  unfold judgeHead
  split
  · rfl
  · rfl
  · rfl
  · refine advance_enough _ _ _ ?_ le_rfl
    rw [endEntry, finishEntry_queue, release_sgq]
    have := List.length_filter_le (fun x => decide (x.pos ≠ e.pos)) rest
    simpa using this

theorem goOn_not_ready {s : State} {e : Entry} {rest : List Entry} (hq : s.sgq.queue = e :: rest) (hr : e.state ≠ .ready) : goOn s = s :=
  goOn_idle s (by simp [hq, hr])

theorem judgeAgain_arming {s : State} {e : Entry} {rest : List Entry} (hq : s.sgq.queue = e :: rest) (ha : e.state = .arming) :
    judgeAgain s = judgeHead goOn e s := by simp [judgeAgain, hq, ha]

theorem judgeAgain_idle {s : State} (h : s.sgq.queue.head?.all (fun e => decide (e.state ≠ .arming)) = true) : judgeAgain s = s := by
  unfold judgeAgain
  cases hq : s.sgq.queue with
  | nil => rfl
  | cons e rest =>
    simp only [hq, List.head?_cons, Option.all_some, decide_eq_true_eq] at h
    simp [h]

/-- The zone check in the terms of R113. -/
theorem zoneCheck_iff {b : List Nat} (hb : b.length = 23) {z : Nat} (hz : z ≤ 23) (n guard : Nat) :
    zoneCheck b z n guard = true ↔ zonePasses b z n guard := by
  have hp : zoneOf b n = b.countP (· ≤ n) := List.countP_eq_length_filter.symm
  have hle : b.countP (· ≤ n) ≤ 23 := hb ▸ List.countP_le_length
  unfold zoneCheck zonePasses
  simp only [hp, decide_eq_true_eq]
  refine or_congr Iff.rfl (or_congr (and_congr_right fun h => ?_) (and_congr_right fun h => ?_))
  · have : z < b.length := by omega
    simp [this]
  · have : b.countP (· ≤ n) < b.length := by omega
    have hz0 : z ≠ 0 := by omega
    have hz1 : z - 1 = b.countP (· ≤ n) := by omega
    simp [zoneLow, hz0, hz1, this]

/-- The speed class of a measurement in the terms of R115: of windows that share no value, the one that holds it. -/
theorem speedClass_iff {ws : List Window} (hd : windowsDisjoint ws = true) (m k : Nat) :
    speedClass ws m = some k ↔ ∃ w, ws[k]? = some w ∧ w.lo ≤ m ∧ m ≤ w.hi := by
  have apart := List.pairwise_iff_getElem.mp (of_decide_eq_true hd)
  constructor
  · intro h
    obtain ⟨w, hw, hm⟩ := findIdx?_spec h
    exact ⟨w, hw, of_decide_eq_true hm⟩
  · rintro ⟨w, hw, hm⟩
    refine findIdx?_first hw (decide_eq_true hm) fun j v hlt hv => ?_
    obtain ⟨hk, rfl⟩ := List.getElem?_eq_some_iff.mp hw
    obtain ⟨hj, rfl⟩ := List.getElem?_eq_some_iff.mp hv
    have := apart j k hj hk hlt
    simp only [decide_eq_false_iff_not]
    omega

theorem effectiveCeiling_eq {s : State} {lim : Limits} (hl : s.plp.limits = some lim) (layer : Nat) :
    s.effectiveCeiling layer = ceilingOf s layer lim.pd := by
  unfold State.effectiveCeiling ceilingOf State.mountedSlot
  rw [hl]
  cases s.mst.find? (·.state = .mounted) with
  | none => rfl
  | some m => cases h : m.layers[layer]? <;> simp [h]

theorem armHead_eq {s : State} {e : Entry} {rest : List Entry} (hq : s.sgq.queue = e :: rest) {lim : Limits} (hl : s.plp.limits = some lim) :
    armHead e s = sent (readyBytes e.tag)
      (queued ({ e with state := if e.kind = .read then .active else .armed, captured := some (capturedFor s e lim.pd) } :: rest) s) := by
  have captured : ({ ceiling := s.effectiveCeiling e.layer, readPower := s.captureReadPower e } : Captured) = capturedFor s e lim.pd := by
    unfold capturedFor State.captureReadPower State.mountedSlot
    rw [effectiveCeiling_eq hl]
    cases e.copy with
    | read p => rfl
    | none | strategy _ =>
      cases s.mst.find? (·.state = .mounted) with
      | none => rfl
      | some m => cases h : m.layers[e.layer]? <;> simp [h]
  unfold armHead
  dsimp only
  rw [captured, withHead_eq hq, send_eq, readyMessage_eq]

/-- Settles O46, by the order of the checks in `judge` and `judgeWrite`. -/
theorem armingChecksInOrder : Obligations.ArmingChecksInOrder := by
  unfold Obligations.ArmingChecksInOrder
  intro s e rest hq
  refine ⟨goOn_eq hq, goOn_not_ready hq, fun h => judgeAgain_idle (by simp [hq, h]), fun harm => ?_⟩
  have judged := judgeAgain_arming hq harm
  refine ⟨fun dark => by simp [judged, judgeHead, judge, dark], fun lit => ⟨fun t a hj => by simp [judged, judgeHead, judge, lit, hj],
    fun hj hs => ?_, fun hs lim hlim => ?_⟩⟩
  · have jump : judge s e = .jump := by
      unfold judge
      cases hf : s.pkp.focus with
      | unknown => simp [lit]
      | jumping t a => exact absurd hf (hj t a)
      | steady l => simp [lit, show l ≠ e.layer from fun h => hs (by rw [hf, h])]
    simp [judged, judgeHead, jump, requestJump_eq]
  have armed := armHead_eq hq hlim
  have judge_eq : judge s e = if e.kind = .read then .pass else judgeWrite s e := by simp [judge, lit, hs]
  refine ⟨fun hk => by simp [judged, judgeHead, judge_eq, hk, armed], fun hk hz hb => ?_⟩
  rw [if_neg hk] at judge_eq
  refine ⟨fun hv => by simp [judged, judgeHead, judge_eq, judgeWrite, hv, endEntry], fun hv => ?_⟩
  have zone := zoneCheck_iff hb hz s.pkp.sled s.cpt.settings.guardBand
  refine ⟨fun hnz => ?_, fun hin => ?_⟩
  · have : zoneCheck s.pkp.zoneMap e.zone s.pkp.sled s.cpt.settings.guardBand = false := by
      rw [← Bool.not_eq_true, zone]; exact hnz
    simp [judged, judgeHead, judge_eq, judgeWrite, hv, this, endEntry]
  rw [← zone] at hin
  refine ⟨fun hm => by simp [judged, judgeHead, judge_eq, judgeWrite, hv, hin, hm], fun m hm hp => ?_⟩
  obtain ⟨-, -, -, -, ⟨-, -, hdis⟩, -⟩ := hp
  have speed := speedClass_iff hdis m e.speed
  refine ⟨fun hw => ?_, fun w hw hlo hhi => ?_⟩
  · have : speedClass s.pkp.windows m ≠ some e.speed := fun h => by
      obtain ⟨w, hw', hin'⟩ := speed.mp h
      have := hw w hw'
      omega
    simp [judged, judgeHead, judge_eq, judgeWrite, hv, hin, hm, this, endEntry]
  have hit : speedClass s.pkp.windows m = some e.speed := speed.mpr ⟨w, hw, hlo, hhi⟩
  refine ⟨fun hot => ?_, fun cool low => ?_, fun cool ok => ?_⟩
  · have hot' : s.cpt.settings.hotLimit ≤ s.plp.temp := hot
    simp [judged, judgeHead, judge_eq, judgeWrite, hv, hin, hm, hit, hot', endEntry]
  · have cool' : ¬ s.cpt.settings.hotLimit ≤ s.plp.temp := cool
    simp [judged, judgeHead, judge_eq, judgeWrite, hv, hin, hm, hit, cool', low, endEntry]
  · have cool' : ¬ s.cpt.settings.hotLimit ≤ s.plp.temp := cool
    simp [judged, judgeHead, judge_eq, judgeWrite, hv, hin, hm, hit, cool', ok, armed, hk]

end Sys2Proof.Machine

end


section
/-! SUPPORT. The formatter link and the events that act on one entry: messages received byte by byte, CANCEL and END, the write gate, the settle
timer and the supply lines (O44, O45, O47, O60). -/

namespace Sys2Proof.Machine

open Sys2Proof.Stated

/-! ### The incoming side -/

/-- In step and between messages, six bytes of which the first is not the idle byte complete a message (R78). -/
theorem receive_six {c b1 b2 b3 b4 k : Byte} {s : State} (hs : s.flk.side = .inStep) (hr : s.flk.rx = []) (hc : c ≠ 0) :
    receive [c, b1, b2, b3, b4, k] s = completeMessage { code := c, b1, b2, b3, b4, check := k } s := by
  have hc' : ¬ c = 0#8 := hc
  have back : ({ s.flk with side := .inStep, rx := [] } : Flk) = s.flk := by rw [← hr, ← hs]
  simp only [receive, List.foldl, receiveByte, hs, hr]
  simp [State.withRx, hs, hc']
  rw [back]

/-- A message is good when its code is known and its bytes sum to 0 (R78). -/
theorem messageGood_iff (m : LinkMessage) : messageGood m = true
    ↔ (m.code = 193 ∨ m.code = 194 ∨ m.code = 195) ∧ m.code + m.b1 + m.b2 + m.b3 + m.b4 + m.check = 0 := by
  have sum : m.check = checkByte m.code m.b1 m.b2 m.b3 m.b4 ↔ m.code + m.b1 + m.b2 + m.b3 + m.b4 + m.check = 0 := by
    unfold checkByte
    generalize m.code + m.b1 + m.b2 + m.b3 + m.b4 = x
    generalize m.check = y
    constructor
    · rintro rfl; simp
    · intro h; rw [← h]; simp
  rw [messageGood, decide_eq_true_eq, sum]

/-- A bad message is discarded (R78). -/
theorem completeMessage_bad {m : LinkMessage} (s : State)
    (h : (m.code ≠ 193 ∧ m.code ≠ 194 ∧ m.code ≠ 195) ∨ m.code + m.b1 + m.b2 + m.b3 + m.b4 + m.check ≠ 0) :
    completeMessage m s = faulted { s with flk := { s.flk with side := .resync } } := by
  have bad : messageGood m = false := by
    rw [← Bool.not_eq_true, messageGood_iff]
    rintro ⟨hc, hz⟩
    rcases h with ⟨h1, h2, h3⟩ | h
    · rcases hc with hc | hc | hc <;> contradiction
    · exact h hz
  rw [completeMessage, bad]
  rfl

/-- A byte that completes a good message delivers it as the command of its code (R78). -/
theorem completeMessage_good {c b1 b2 b3 b4 k : Byte} (s : State) (hc : c = 193 ∨ c = 194 ∨ c = 195) (hz : c + b1 + b2 + b3 + b4 + k = 0) :
    completeMessage { code := c, b1, b2, b3, b4, check := k } s = deliver { code := c, b1, b2, b3, b4, check := k } s := by
  have good : messageGood { code := c, b1, b2, b3, b4, check := k } = true := (messageGood_iff { code := c, b1, b2, b3, b4, check := k }).mpr ⟨hc, hz⟩
  rw [completeMessage, if_pos good]

theorem exec_seg {b1 b2 b3 b4 : Byte} {s : State} (hs : s.flk.side = .inStep) (hr : s.flk.rx = []) :
    exec (.seg b1 b2 b3 b4) s = .next (takeSeg (readDescriptor b1 b2 b3 b4) s) := by
  change Host.Outcome.next (receive (linkMessage 193 b1 b2 b3 b4) s) = _
  rw [receive_good 193 b1 b2 b3 b4 s hs hr (.inl rfl), deliver, if_pos rfl]

theorem exec_cancel {b1 : Byte} {s : State} (hs : s.flk.side = .inStep) (hr : s.flk.rx = []) :
    exec (.cancel b1) s = .next (takeCancel (b1.toNat / 16) s) := by
  change Host.Outcome.next (receive (linkMessage 194 b1 0 0 0) s) = _
  rw [receive_good 194 b1 0 0 0 s hs hr (.inr (.inl rfl)), deliver, if_neg (by simp), if_pos rfl]

theorem exec_endMsg {b1 : Byte} {s : State} (hs : s.flk.side = .inStep) (hr : s.flk.rx = []) :
    exec (.endMsg b1) s = .next (takeEnd (b1.toNat / 16) s) := by
  change Host.Outcome.next (receive (linkMessage 195 b1 0 0 0) s) = _
  rw [receive_good 195 b1 0 0 0 s hs hr (.inr (.inr rfl)), deliver, if_neg (by simp), if_neg (by simp)]

/-- Settles O45, by the outgoing side's branches and, for the incoming side, what completes a message. -/
theorem linkBytes : Obligations.LinkBytes := by
  unfold Obligations.LinkBytes
  have period : ∀ s : State, exec (.linkBytePeriod none) s = .next (transmitByte s) := fun _ => rfl
  refine ⟨fun m s hs hr hc hbad => congrArg Host.Outcome.next ?_, fun s hs => ?_, fun s hi => ?_, fun s hi ho => ?_,
    fun s m ms b hi ho hb => ⟨fun hlt => ?_, fun heq => ?_⟩, fun s t b ht => ?_⟩
  · rw [receive_six hs hr hc, completeMessage_bad s hbad]
  · change Host.Outcome.next (receiveByte s 0) = _
    simp [receiveByte, hs]
  · simp [period, transmitByte, hi]
  · simp [period, transmitByte, hi, ho]
  · simp [period, transmitByte, hi, ho, hlt, List.getD, hb]
  · rw [heq] at hb
    simp [period, transmitByte, hi, ho, heq, List.getD, hb]
  · obtain rfl : transmitByte s = t := Host.Outcome.next.inj ((period s).symm.trans ht)
    have side : (transmitByte s).flk.side = s.flk.side := by unfold transmitByte; dsimp only; (repeat' split) <;> rfl
    have rx : (transmitByte s).flk.rx = s.flk.rx := by unfold transmitByte; dsimp only; (repeat' split) <;> rfl
    have both : exec (.linkBytePeriod (some b)) s = .next (receiveByte (transmitByte s) b) := rfl
    rw [both]
    generalize transmitByte s = t at side rx
    refine ⟨fun hs hr hb => ?_, fun hs hlen hb => ?_, fun hs => ?_, fun c b1 b2 b3 b4 hs hr => ⟨fun hz => ⟨?_, ?_, ?_⟩, fun hbad => ?_⟩⟩
    · rw [← side] at hs
      rw [← rx] at hr
      simp [receiveByte, hs, hr, hb]
    · rw [← side] at hs
      rw [← rx] at hlen hb ⊢
      unfold receiveByte
      simp only [hs]
      split
      · rename_i hnil
        have : ¬ b = 0 := hb.resolve_left (absurd hnil)
        rw [if_neg this, hnil, List.nil_append, ← hs]; rfl
      · rename_i hfull
        simp [hfull] at hlen
      · rw [← hs]; rfl
    · rw [← side] at hs
      by_cases hb : b = 0
      · simp [receiveByte, hs, hb]
      · simp only [receiveByte, hs, if_neg hb]
        rw [← hs]
    all_goals
      have hs' : t.flk.side = .inStep := side.trans hs
      have done : receiveByte t b
          = completeMessage { code := c, b1, b2, b3, b4, check := b } { t with flk := { t.flk with rx := [] } } := by
        simp [receiveByte, hs', rx, hr, State.withRx]
      rw [done]
      generalize hu : ({ t with flk := { t.flk with rx := [] } } : State) = u
      have hus : u.flk.side = .inStep := by rw [← hu]; exact hs'
      have hur : u.flk.rx = [] := by rw [← hu]
    · rintro rfl
      rw [completeMessage_good _ (.inl rfl) hz, exec_seg hus hur, deliver, if_pos rfl]
    · rintro rfl
      rw [completeMessage_good _ (.inr (.inl rfl)) hz, exec_cancel hus hur, deliver, if_neg (by simp), if_pos rfl]
    · rintro rfl
      rw [completeMessage_good _ (.inr (.inr rfl)) hz, exec_endMsg hus hur, deliver, if_neg (by simp), if_neg (by simp)]
    · rw [completeMessage_bad _ hbad]

/-! ### CANCEL and END -/

/-- Settles O44, by the entry that the message's tag names. -/
theorem cancelAndEndActOnTheirEntry : Obligations.CancelAndEndActOnTheirEntry := by
  unfold Obligations.CancelAndEndActOnTheirEntry
  refine ⟨fun s b1 hs hr => ⟨fun hrun => ?_, fun e he hc htag ha hcl => ?_, fun e rest hq htag hk ha => ?_, fun hno => ?_⟩,
    fun o e s hc he => ?_⟩
  · rw [exec_cancel hs hr]
    refine congrArg Host.Outcome.next ?_
    unfold takeCancel
    split
    · rename_i e hf
      have hrun' := hrun e (List.mem_of_find?_eq_some hf) (by simpa using List.find?_some hf)
      rw [if_pos hrun']; rfl
    · rfl
  · have found : s.sgq.queue.find? (·.tag == b1.toNat / 16) = some e := by
      obtain ⟨x, hx⟩ : ∃ x, s.sgq.queue.find? (·.tag == b1.toNat / 16) = some x := by
        rw [← Option.isSome_iff_exists, List.find?_isSome]
        exact ⟨e, he, by simpa using htag⟩
      have htx : x.tag = b1.toNat / 16 := by simpa using List.find?_some hx
      rw [hx, List.inj_on_of_nodup_map hc.2.1 (List.mem_of_find?_eq_some hx) he (htx.trans htag.symm)]
    have ended : exec (.cancel b1) s = .next (settleCodes s (goOn (finishEntry .cancelled e (release e s)))) := by
      rw [exec_cancel hs hr, takeCancel, found]
      simp only [ha, hcl, or_self, if_false]
      rfl
    refine ⟨ended, fun hne hready => ?_⟩
    have head : (finishEntry .cancelled e (release e s)).sgq.queue.head? = s.sgq.queue.head? := by
      rw [finishEntry_queue, release_sgq]
      cases hq : s.sgq.queue with
      | nil => rfl
      | cons x rest =>
        rw [hq] at hne he
        have hx : x ≠ e := fun h => hne (by simp [h])
        have hpos : x.pos ≠ e.pos := fun h =>
          hx (List.inj_on_of_nodup_map hc.1 (by simp [hq]) (by rw [hq]; exact he) h)
        simp [hpos]
    rw [ended, goOn_idle _ (by rw [head]; exact hready), settleCodes_of_head (by simp) head]
  · rw [exec_endMsg hs hr, takeEnd, hq]
    simp [htag, hk, ha]
  · rw [exec_endMsg hs hr, takeEnd]
    refine congrArg Host.Outcome.next ?_
    cases hq : s.sgq.queue with
    | nil => rfl
    | cons e rest =>
      have := hno e (by simp [hq])
      dsimp only
      rw [if_neg (by rintro ⟨h1, h2, h3⟩; exact this.elim (· h1) (·.elim (· h2) (· h3))), linkFault_eq]
  · refine ⟨(finishEntry_tags hc he o).1, finishEntry_flk o e s, fun ho => by rw [finishEntry_act, if_pos ho],
      fun ho => by rw [finishEntry_act, if_neg ho]; rfl, by simp, by simp, by simp, by simp, by simp, by simp, by simp⟩

/-! ### The gate, the settle timer and the supply lines -/

theorem activeWrite_of_writing {s : State} {e : Entry} {wc : WorkingCopy} {rest : List Entry} (h : writing s e wc rest) :
    s.sgq.activeWrite = some (e, wc) := by
  obtain ⟨-, hq, ha, hc⟩ := h
  simp [Sgq.activeWrite, hq, ha, hc]

/-- Settles O47, by the laser state and the head at each move of the gate. -/
theorem gateOpensAndClosesAWrite : Obligations.GateOpensAndClosesAWrite := by
  unfold Obligations.GateOpensAndClosesAWrite
  intro s e rest
  refine ⟨fun hl hq ha hk => ?_, fun hl => ?_, fun wc hw => ?_, fun hno => ?_⟩
  · have armed : s.sgq.headArmedWrite = true := by simp [Sgq.headArmedWrite, hq, ha, Entry.isWrite, hk]
    have run : exec .wgateRise s = .next (settleCodes s (enterWrite (s.observeGate true))) := by
      change execWgateRise s = _
      simp [execWgateRise, hl, armed]
    rw [run, settleCodes_of_laser_ne (by rw [hl]; exact nofun)]
    unfold enterWrite
    rw [withHead_eq (s := s.observeGate true) hq]
    rfl
  · change execWgateRise s = _
    simp [execWgateRise, hl, State.observeGate]
  · have aw := activeWrite_of_writing hw
    obtain ⟨hl, hq, -, -⟩ := hw
    have run : exec .wgateFall s
        = .next (settleCodes s (leaveWrite .read ((s.observeGate false).withHead ({ · with state := .closing })))) := by
      change execWgateFall s = _
      simp [execWgateFall, hl, aw]
    rw [run, settleCodes_of_laser_ne (by rw [hl]; exact nofun), withHead_eq (s := s.observeGate false) hq]
    rfl
  · change execWgateFall s = _
    unfold execWgateFall
    split
    · rename_i hl ha
      rcases hno with h | h
      · exact absurd hl h
      · rw [h] at ha; cases ha
    · rfl

/-- Settles O60, by the branch of each event. -/
theorem laserTimersAndSupplyLines : Obligations.LaserTimersAndSupplyLines := by
  unfold Obligations.LaserTimersAndSupplyLines
  intro s
  refine ⟨fun hl ht => ?_, fun k hl hk hw => ?_, fun hl => ?_, rfl, rfl, rfl⟩
  · change execSettleExpiry s = _
    rw [execSettleExpiry, if_pos ⟨hl, ht⟩, settleCodes_of_laser_ne (by simp [hl])]
  · change execKeepStrobe s = _
    simp only [execKeepStrobe, hl, hk]
    rw [if_neg (by simpa [Keepalive.window] using hw)]
  · change execKeepStrobe s = _
    unfold execKeepStrobe
    split
    · exact absurd ‹_› hl
    · rfl

end Sys2Proof.Machine

end


section
/-! SUPPORT. The queue going on and the arbiter: what they leave of entries, messages, records and notices, and with them SEG and the segment
lookup completion (O42, O43). -/

namespace Sys2Proof.Machine

open Sys2Proof.Stated

/-! ### What the queue's going on leaves -/

/-- From `s` to `t` entries only leave the queue, messages only join the outgoing queue, records lose nothing but pins, and the notices of
records, holds and focus stand. -/
structure Onward (s t : State) : Prop where
  tags : (t.sgq.queue.map (·.tag)).Sublist (s.sgq.queue.map (·.tag))
  out : ∃ more, t.flk.out = s.flk.out ++ more
  records : Loosened s t
  aged : t.cpt.notices.aged = s.cpt.notices.aged
  suspect : t.cpt.notices.suspect = s.cpt.notices.suspect
  needsRecord : t.cpt.notices.needsRecord = s.cpt.notices.needsRecord
  holdEntered : t.cpt.notices.holdEntered = s.cpt.notices.holdEntered
  focusLost : t.cpt.notices.focusLost = s.cpt.notices.focusLost

theorem Onward.refl (s : State) : Onward s s := ⟨.refl _, ⟨[], by simp⟩, .refl s, rfl, rfl, rfl, rfl, rfl⟩

theorem Onward.trans {s t u : State} (h : Onward s t) (h' : Onward t u) : Onward s u := by
  obtain ⟨m, hm⟩ := h.out
  obtain ⟨m', hm'⟩ := h'.out
  exact ⟨h'.tags.trans h.tags, ⟨m ++ m', by rw [hm', hm, List.append_assoc]⟩, h.records.trans h'.records, h'.aged.trans h.aged,
    h'.suspect.trans h.suspect, h'.needsRecord.trans h.needsRecord, h'.holdEntered.trans h.holdEntered, h'.focusLost.trans h.focusLost⟩

/-- An operation that touches neither records nor messages nor notices, and keeps every entry's tag. -/
theorem Onward.of_eq {s t : State} (htags : t.sgq.queue.map (·.tag) = s.sgq.queue.map (·.tag)) (hflk : t.flk = s.flk) (hstb : t.stb = s.stb)
    (hcpt : t.cpt = s.cpt) : Onward s t :=
  ⟨by rw [htags], ⟨[], by rw [hflk, List.append_nil]⟩, .of_stb hstb, by rw [hcpt], by rw [hcpt], by rw [hcpt], by rw [hcpt], by rw [hcpt]⟩

theorem send_onward (m : List Byte) (s : State) : Onward s (send m s) := by
  unfold send
  split
  · exact ⟨.refl _, ⟨[m], rfl⟩, .of_stb rfl, rfl, rfl, rfl, rfl, rfl⟩
  · exact ⟨.refl _, ⟨[], by simp⟩, .of_stb rfl, rfl, rfl, rfl, rfl, rfl⟩

theorem countEvent_onward (ev : CounterEvent) (k : Option Key) (n : Nat) (s : State) : Onward s (countEvent ev k n s) := by
  refine ⟨.refl _, ⟨[], by simp⟩, .of_stb rfl, ?_, ?_, ?_, ?_, ?_⟩ <;> rw [countEvent_notices, wrap_frame]

theorem withHead_onward {s : State} {f : Entry → Entry} (hf : ∀ e, (f e).tag = e.tag) : Onward s (s.withHead f) := by
  refine .of_eq ?_ rfl rfl rfl
  unfold State.withHead
  cases s.sgq.queue <;> simp [hf]

theorem withEntry_onward {s : State} {f : Entry → Entry} (hf : ∀ e, (f e).tag = e.tag) (pos : Nat) : Onward s (s.withEntry pos f) := by
  refine .of_eq ?_ rfl rfl rfl
  simp only [State.withEntry, List.map_map]
  exact List.map_congr_left fun e _ => by simp only [Function.comp_apply]; split <;> simp [hf]

theorem release_onward (e : Entry) (s : State) : Onward s (release e s) :=
  ⟨by rw [release_sgq], ⟨[], by simp⟩, release_loosened e s, by rw [release_cpt], by rw [release_cpt], by rw [release_cpt],
    by rw [release_cpt], by rw [release_cpt]⟩

theorem finishEntry_onward (o : DoneOutcome) (e : Entry) (s : State) : Onward s (finishEntry o e s) := by
  have dropped : Onward s (dropEntry e s) := ⟨List.filter_sublist.map _, ⟨[], by simp [dropEntry]⟩, .of_stb rfl, rfl, rfl, rfl, rfl, rfl⟩
  unfold finishEntry
  split
  · exact dropped.trans (send_onward _ _)
  · exact (dropped.trans (send_onward _ _)).trans (countEvent_onward ..)

theorem endEntry_onward (o : DoneOutcome) (e : Entry) (s : State) : Onward s (endEntry o e s) :=
  (release_onward e s).trans (finishEntry_onward o e _)

theorem judgeHead_onward {next : State → State} (hn : ∀ u, Onward u (next u)) (e : Entry) (s : State) : Onward s (judgeHead next e s) := by
  unfold judgeHead
  split
  · exact .refl s
  · exact .of_eq rfl rfl rfl rfl
  · exact .trans (withHead_onward (by intro; rfl)) (send_onward _ _)
  · exact (endEntry_onward _ e s).trans (hn _)

theorem advance_onward : ∀ (fuel : Nat) (s : State), Onward s (advance fuel s)
  | 0, s => .refl s
  | fuel + 1, s => by
    unfold advance
    split
    · split
      · exact .trans (withHead_onward (by intro; rfl)) (judgeHead_onward (advance_onward fuel) _ _)
      · exact .refl s
    · exact .refl s

theorem goOn_onward (s : State) : Onward s (goOn s) := advance_onward _ s

theorem arbiter_onward (s : State) : Onward s (arbiter s) := by
  obtain h | ⟨r, -, h⟩ | ⟨e, -, h⟩ := arbiter_cases s <;> rw [h]
  · exact .refl s
  · exact .of_eq rfl rfl rfl rfl
  · exact (withEntry_onward (s := s) (f := ({ · with state := .resolving })) (fun _ => rfl) e.pos).trans (.of_eq rfl rfl rfl rfl)

theorem reportLevel_onward (key : Option Key) (s : State) (l : LevelCode) : Onward s (reportLevel key s l) := by
  have raised : ∀ u : State, Onward u (u.withNotices ({ · with overdrive := true })) := fun u =>
    ⟨.refl _, ⟨[], by simp⟩, .of_stb rfl, rfl, rfl, rfl, rfl, rfl⟩
  have clamped : Onward s (if l.clamped then countEvent .clampCeiling key 1 s else s) := by
    split
    · exact countEvent_onward ..
    · exact .refl s
  unfold reportLevel
  dsimp only
  split
  · exact (clamped.trans (countEvent_onward ..)).trans (raised _)
  · exact clamped

theorem recompute_onward (b : Bool) (s : State) : Onward s (recompute b s) := by
  have held : Onward s (if (diodeLine s.plp.diode s.plp.temp).held then s.withNotices ({ · with diodeTrackLimit := true }) else s) := by
    split
    · exact ⟨.refl _, ⟨[], by simp⟩, .of_stb rfl, rfl, rfl, rfl, rfl, rfl⟩
    · exact .refl s
  have warned : ∀ (c : Computed) (u : State), Onward u (warnGoverning c u) := fun c u => by
    unfold warnGoverning
    split
    · exact withHead_onward fun _ => rfl
    · exact .refl u
  have handed : ∀ (c : CodeSet) (u : State), Onward u (handOver b c u) := fun c u => by
    obtain h | ⟨-, -, h⟩ := handOver_cases b c u <;> rw [h] <;> exact .of_eq rfl rfl rfl rfl
  have reported : ∀ (key : Option Key) (ls : List LevelCode) (u : State), Onward u (ls.foldl (reportLevel key) u) := by
    intro key ls
    induction ls with
    | nil => exact .refl
    | cons l ls ih => exact fun u => (reportLevel_onward key u l).trans (ih _)
  exact ((held.trans (warned _ _)).trans (reported _ _ _)).trans (handed _ _)

theorem settleCodes_onward (s : State) {t u : State} (h : Onward t u) : Onward t (settleCodes s u) := by
  obtain e | e := settleCodes_cases s u <;> rw [e]
  · exact h
  · exact h.trans (recompute_onward _ _)

/-! ### The arbiter and the head -/

/-- The arbiter leaves the head, or takes it from PENDING to RESOLVING. -/
theorem arbiter_head {s : State} (hn : (s.sgq.queue.map (·.pos)).Nodup) :
    (arbiter s).sgq.queue.head? = s.sgq.queue.head?
      ∨ ∃ x ∈ s.sgq.queue.head?, x.state = .pending ∧ (arbiter s).sgq.queue.head? = some { x with state := .resolving } := by
  obtain h | ⟨r, -, h⟩ | ⟨e, he, h⟩ := arbiter_cases s <;> rw [h]
  · exact .inl rfl
  · exact .inl rfl
  · have mem := List.mem_of_find?_eq_some he
    have pend := List.find?_some he
    simp only [Bool.and_eq_true, decide_eq_true_eq] at pend
    cases hq : s.sgq.queue with
    | nil => simp [hq] at mem
    | cons x rest =>
      by_cases hx : x.pos = e.pos
      · have same := mem_of_pos hn (by simp [hq]) mem hx
        exact .inr ⟨x, by simp, same ▸ pend.1, by simp [State.withEntry, hq, hx]⟩
      · exact .inl (by simp [State.withEntry, hq, hx])

/-- The arbiter leaves the governing entry as it is. -/
theorem arbiter_governing {s : State} (hn : (s.sgq.queue.map (·.pos)).Nodup) : (arbiter s).sgq.governing = s.sgq.governing := by
  obtain h | ⟨x, hx, hp, h⟩ := arbiter_head hn
  · exact governing_of_head h
  · have before : s.sgq.governing = none := by
      unfold Sgq.governing
      cases hq : s.sgq.queue with
      | nil => rfl
      | cons y rest =>
        obtain rfl : y = x := by simpa [hq] using hx
        simp [hp]
    rw [before]
    unfold Sgq.governing
    cases hq : (arbiter s).sgq.queue with
    | nil => rfl
    | cons y rest =>
      obtain rfl : y = { x with state := .resolving } := by simpa [hq] using h
      simp

/-- What is not PENDING, the arbiter leaves in the queue. -/
theorem mem_arbiter {s : State} (hn : (s.sgq.queue.map (·.pos)).Nodup) {e : Entry} (he : e ∈ s.sgq.queue) (hp : e.state ≠ .pending) :
    e ∈ (arbiter s).sgq.queue := by
  obtain h | ⟨r, -, h⟩ | ⟨x, hx, h⟩ := arbiter_cases s <;> rw [h]
  · exact he
  · exact he
  · have mem := List.mem_of_find?_eq_some hx
    have pend := List.find?_some hx
    simp only [Bool.and_eq_true, decide_eq_true_eq] at pend
    have : e.pos ≠ x.pos := fun h => hp (by rw [mem_of_pos hn he mem h]; exact pend.1)
    exact List.mem_map.mpr ⟨e, he, by simp [this]⟩

/-- With no PENDING entry and no governing change, the end of an event that keeps the laser leaves the codes as they are. -/
theorem settleCodes_of_governing {s t : State} (hl : t.lsc = s.lsc) (hg : t.sgq.governing.map (·.pos) = s.sgq.governing.map (·.pos)) :
    settleCodes s t = t := settleCodes_same s t hl.symm hg.symm

end Sys2Proof.Machine

end


section
/-! SUPPORT. SEG at the intake: the checks in order and what becomes of an accepted descriptor (O43). -/

namespace Sys2Proof.Machine

open Sys2Proof.Stated

/-! ### The intake checks in order (R83) -/

theorem mountedSlot_isSome (s : State) : s.mountedSlot.isSome = true ↔ s.mountedIndex ≠ none := by
  rw [ne_eq, mountedIndex_eq_none_iff, State.mountedSlot, List.find?_isSome]
  simp

/-- The first failing check is the reason of the REJECT, and a descriptor that fails none is accepted (R83). -/
theorem intakeCheck_eq (s : State) (d : Descriptor) : (∃ r, firstFailing s d = some r ∧ intakeCheck s d = .error r)
    ∨ firstFailing s d = none ∧ ∃ kind cls, intakeCheck s d = .ok (kind, cls) := by
  unfold intakeCheck firstFailing
  by_cases laser : s.lsc.laser = .hold
  · exact .inl ⟨.hold, by simp [laser], by simp [laser]⟩
  cases SegKind.ofNat? d.kind with
  | none => exact .inl ⟨.classViolation, by simp [laser], by simp [laser]⟩
  | some kind =>
  cases CreditClass.ofNat? d.cls with
  | none => exact .inl ⟨.classViolation, by simp [laser], by simp [laser]⟩
  | some cls =>
  cases admits : cls.admits kind
  · exact .inl ⟨.classViolation, by simp [laser, admits], by simp [laser, admits]⟩
  by_cases room : s.sgq.occupied cls < cls.allotment
  swap
  · exact .inl ⟨.creditViolation, by simp [laser, admits, room], by simp [laser, admits, Nat.not_lt.mp room]⟩
  have room' : ¬ cls.allotment ≤ s.sgq.occupied cls := by omega
  have tags : s.sgq.queue.all (fun e => decide (e.tag ≠ d.tag)) = !s.sgq.queue.any (·.tag == d.tag) := by
    rw [List.all_eq_not_any_not]; simp [Bool.beq_eq_decide_eq]
  have passed : (decide (s.lsc.laser ≠ .hold)) = true ∧ (Option.all (fun c => decide (s.sgq.occupied c < c.allotment)) (some cls)) = true :=
    ⟨decide_eq_true laser, decide_eq_true room⟩
  have read_eq : decide (some kind = some SegKind.read) = decide (kind = .read) := by simp
  simp only [laser, if_false, admits, Bool.not_true, Bool.false_eq_true, room', passed, List.find?, tags, read_eq]
  cases s.sgq.queue.any (·.tag == d.tag)
  swap
  · exact .inl ⟨.dupTag, rfl, rfl⟩
  have mounted : (kind ≠ .read ∧ s.mountedIndex = none) ↔ (decide (kind = .read) || s.mountedSlot.isSome) = false := by
    rw [Bool.or_eq_false_iff, decide_eq_false_iff_not, ← Bool.not_eq_true, mountedSlot_isSome, not_not]
  simp only [mounted, Bool.not_false, Bool.false_eq_true, if_false, Bool.not_true]
  cases mount : (decide (kind = .read) || s.mountedSlot.isSome)
  · exact .inl ⟨.noMedia, rfl, rfl⟩
  simp only [Bool.true_eq_false, Bool.not_true, if_false]
  have fits : ∀ n : Nat, (decide (d.layer < n) && (decide (kind = .read) || decide (d.zone ≤ 23 ∧ d.speed ≤ 3))) = false
      ∨ (decide (d.layer < n) && (decide (kind = .read) || decide (d.zone ≤ 23 ∧ d.speed ≤ 3))) = true := fun n => Bool.eq_false_or_eq_true _ |>.symm
  unfold fieldsFit
  cases s.mountedSlot with
  | none => obtain h | h := fits 4 <;> simp only [h] <;> simp
  | some m => obtain h | h := fits m.layers.length <;> simp only [h] <;> simp

theorem creditClass_named (n : Nat) : (CreditClass.ofNat? n).isSome = decide (1 ≤ n ∧ n ≤ 3) := by
  match n with
  | 0 | 1 | 2 | 3 => rfl
  | n + 4 => symm; simp [CreditClass.ofNat?]

theorem takeSeg_rejected {s : State} {d : Descriptor} {r : RejectReason} (h : firstFailing s d = some r) :
    takeSeg d s = sent (rejectBytes d.tag d.cls r (decide (r ≠ .creditViolation ∧ 1 ≤ d.cls ∧ d.cls ≤ 3))) s := by
  have returned : returnsCredit d.cls r = decide (r ≠ .creditViolation ∧ 1 ≤ d.cls ∧ d.cls ≤ 3) := by
    rw [returnsCredit, creditClass_named, ← Bool.decide_and]
  obtain ⟨r', hr, check⟩ | ⟨hnone, -⟩ := intakeCheck_eq s d
  · obtain rfl : r' = r := Option.some.inj (hr.symm.trans h)
    simp only [takeSeg, check]
    rw [send_eq, rejectMessage_eq, returned]
  · rw [h] at hnone; cases hnone

/-- An accepted descriptor joins the queue's end, and the queue goes on. -/
theorem takeSeg_accepted {s : State} {d : Descriptor} (h : firstFailing s d = none) :
    ∃ kind cls, Accepted s d kind cls
      ∧ takeSeg d s = settleCodes s (arbiter (goOn (queued (s.sgq.queue ++ [newEntry s d kind cls]) s))) := by
  obtain ⟨r, hr, -⟩ | ⟨-, kind, cls, check⟩ := intakeCheck_eq s d
  · rw [h] at hr; cases hr
  · exact ⟨kind, cls, accepted_of_intakeCheck check, by simp only [takeSeg, check]; rfl⟩

/-- Every position below the lowest FREE one is taken. -/
theorem taken_below_freePos {q : Sgq} {k : Nat} (hk : k < q.freePos) : ∃ e ∈ q.queue, e.pos = k := by
  unfold Sgq.freePos at hk
  cases hf : (List.range Config.entries).find? (fun p => q.queue.all (·.pos ≠ p)) with
  | none => rw [hf] at hk; exact absurd hk (Nat.not_lt_zero k)
  | some p =>
    rw [hf] at hk
    obtain ⟨-, -, below⟩ := List.find?_range_eq_some.mp hf
    have := below k hk
    simpa using this

/-! ### The head that a READ becomes (R86, R89) -/

/-- What takes the laser and the governing entry along leaves the codes of an intake alone. -/
theorem intake_settled {s t : State} (hn : (t.sgq.queue.map (·.pos)).Nodup) (hl : t.lsc = s.lsc)
    (hg : t.sgq.governing = s.sgq.governing) : settleCodes s (arbiter t) = arbiter t :=
  settleCodes_of_governing (by rw [arbiter_lsc, hl]) (by rw [arbiter_governing hn, hg])

/-- Settles O43, by the first check that fails, and by what stands before the accepted entry in the queue. -/
theorem segIsRejectedOrTaken : Obligations.SegIsRejectedOrTaken := by
  unfold Obligations.SegIsRejectedOrTaken
  intro b1 b2 b3 b4 s hs hr d
  have run : exec (.seg b1 b2 b3 b4) s = .next (takeSeg d s) := exec_seg hs hr
  refine ⟨fun r h => by rw [run, takeSeg_rejected h], fun h hc hready => ?_⟩
  obtain ⟨kind, cls, ok, taken⟩ := takeSeg_accepted h
  rw [taken] at run
  have tagFits : d.tag < 16 := by
    have := b1.isLt
    show b1.toNat / 16 < 16
    omega
  have short : s.sgq.queue.length < 6 := by
    have room := ok.room
    obtain ⟨-, -, -, hw, hr', hs'⟩ := hc
    rw [length_eq_occupied]
    cases cls <;> simp only [CreditClass.allotment] at room <;> omega
  obtain ⟨hpos, free⟩ := freePos_spec short
  refine ⟨kind, cls, s.sgq.freePos, ok.kindNamed, ok.clsNamed, hpos, free, fun q hq => taken_below_freePos hq, ?_⟩
  intro e
  have he : e = newEntry s d kind cls := rfl
  clear_value e
  rw [← he] at run
  have layer : e.layer = d.layer := by rw [he]; rfl
  have tag : e.tag = d.tag := by rw [he]; rfl
  have isKind : e.kind = kind := by rw [he]; rfl
  have credits : Safety.QueueWithinCredits (queued (s.sgq.queue ++ [e]) s) := he ▸ intake_keeps_credits ok tagFits hc
  have positions := credits.1
  refine ⟨fun hbehind => ?_, ?_⟩
  · have idle : goOn (queued (s.sgq.queue ++ [e]) s) = queued (s.sgq.queue ++ [e]) s := by
      refine goOn_idle _ ?_
      cases hq : s.sgq.queue with
      | nil =>
        have : kind ≠ .read := hbehind.resolve_right (absurd hq)
        simp [queued, he, newEntry, this]
      | cons x rest => simpa [queued, hq] using hready
    have governing : (queued (s.sgq.queue ++ [e]) s).sgq.governing = s.sgq.governing := by
      cases hq : s.sgq.queue with
      | nil =>
        have : kind ≠ .read := hbehind.resolve_right (absurd hq)
        simp [Sgq.governing, queued, hq, he, newEntry, this]
      | cons x rest => exact governing_of_head (by simp [queued, hq])
    rw [run, idle, intake_settled (s := s) positions rfl governing]
  · have alone : ∀ hk : kind = .read, ∀ hq : s.sgq.queue = [],
        goOn (queued (s.sgq.queue ++ [e]) s) = judgeAgain (queued [{ e with state := .arming }] s) := by
      intro hk hq
      have ready : e.state = .ready := by simp [he, newEntry, hk]
      rw [goOn_eq (s := queued (s.sgq.queue ++ [e]) s) (e := e) (rest := []) (by simp [queued, hq]) ready]
      rfl
    have ungoverned : ∀ hq : s.sgq.queue = [], s.sgq.governing = none := fun hq => by simp [Sgq.governing, hq]
    have armingNone : ∀ r : Option Nat, ({ queue := [{ e with state := .arming }], requester := r } : Sgq).governing = none := fun _ => by
      simp [Sgq.governing]
    have checks := armingChecksInOrder (queued [{ e with state := .arming }] s) { e with state := .arming } [] rfl
    obtain ⟨-, -, -, arming⟩ := checks
    obtain ⟨dark, lit⟩ := arming rfl
    refine ⟨fun hk hq hwait => ?_, fun hk hq hl hj hf => ?_, fun lim hlim hk hq hl hf => ?_⟩
    · have waits : judgeAgain (queued [{ e with state := .arming }] s) = queued [{ e with state := .arming }] s := by
        obtain hl | ⟨t, a, hj⟩ := hwait
        · exact dark hl
        · by_cases hl : s.lsc.laser = .read
          · exact (lit hl).1 t a hj
          · exact dark hl
      rw [run, alone hk hq, waits]
      exact congrArg Host.Outcome.next (intake_settled (by simp [queued]) rfl (by rw [ungoverned hq]; exact armingNone _))
    · rw [run, alone hk hq, (lit hl).2.1 hj (by rw [← layer] at hf; exact hf)]
      exact congrArg Host.Outcome.next
        (intake_settled (by simp [queued, jumpRequested]) rfl (by rw [ungoverned hq]; exact armingNone _))
    · rw [← layer] at hf
      have armed : judgeAgain (queued [{ e with state := .arming }] s) = sent (readyBytes d.tag)
          (queued [{ e with state := .active, captured := some (capturedFor s e lim.pd) }] s) := by
        rw [← tag]; exact ((lit hl).2.2 hf lim hlim).1 (isKind.trans hk)
      have sentQueue : ∀ (m : List Byte) (u : State), (sent m u).sgq = u.sgq := fun m u => by rw [← send_eq, send_sgq]
      have sentLsc : ∀ (m : List Byte) (u : State), (sent m u).lsc = u.lsc := fun m u => by rw [← send_eq, send_lsc]
      rw [run, alone hk hq, armed]
      have due : ∀ u : State, u.lsc = s.lsc → u.sgq.governing.map (·.pos) = some e.pos → settleCodes s u = recompute false u := fun u hlsc hgov => by
        have : recomputeDue s u = true := decide_eq_true (.inr (.inl (by rw [ungoverned hq, hgov]; exact nofun)))
        rw [settleCodes, if_pos this, hlsc]
        simp
      refine congrArg Host.Outcome.next (due _ ?_ ?_)
      · rw [arbiter_lsc, sentLsc]; rfl
      · rw [arbiter_governing (by rw [sentQueue]; simp [queued]), sentQueue]
        simp [Sgq.governing, queued]

end Sys2Proof.Machine

end


section
/-! SUPPORT. The segment lookup completion (O42). -/

namespace Sys2Proof.Machine

open Sys2Proof.Stated

/-! ### The sources pinned -/

/-- Pins on the sources change the places alone. -/
theorem pins_rest (hs : List Handle) (s : State) :
    hs.foldl (fun s h => pin h.index s) s = { s with stb := (hs.foldl (fun s h => pin h.index s) s).stb } := by
  induction hs generalizing s with
  | nil => rfl
  | cons h hs ih => rw [List.foldl_cons, ih]; rfl

theorem pins_gens (hs : List Handle) (s : State) : (hs.foldl (fun s h => pin h.index s) s).gens = s.gens :=
  foldl_keeps State.gens (fun s (h : Handle) => pin h.index s) (fun s h => gens_withRecord s h.index _) hs s

/-- The entry with the working copy of its lookup (R48). -/
def Entry.copied (e : Entry) (key : Key) (w : Working) : Entry :=
  { e with
    state := .ready
    copy := .strategy
      { kind := w.kind, key, strat := w.strat, running := w.corr, initial := w.corr, sources := w.sources, tally := 0 }
    warnings := { Warnings.empty with suspectSource := w.suspect } }

/-- The state with the entry's working copy and the pins on its sources, before the queue goes on. -/
def lookedUp (e : Entry) (w : Working) (s : State) : State :=
  countEvent w.kind.lookupEvent (some (s.entryKey e)) 1
    ((w.sources.foldl (fun s h => pin h.index s) s).withEntry e.pos (Entry.copied · (s.entryKey e) w))

/-- The state with the entry ended for want of a record, before the queue goes on (R49). -/
def unresolved (e : Entry) (s : State) : State :=
  let counted := countEvent .lookupMiss (some (s.entryKey e)) 1 s
  finishEntry (if e.kind = .trial then .noTrial else .noStrategy) e
    (if e.kind = .trial then counted else counted.withNotices ({ · with needsRecord := some (s.entryKey e) }))

theorem completeSegment_found {s : State} {e : Entry} {w : Working} (hw : working s.stb (s.entryKey e)
    (resolve s.stb s.cpt.settings (if e.kind = .trial then .trial else .normal) (s.entryKey e)) = some w) :
    completeSegment e s = goOn (lookedUp e w s) := by
  simp only [completeSegment, hw]; rfl

theorem completeSegment_none {s : State} {e : Entry} (hw : working s.stb (s.entryKey e)
    (resolve s.stb s.cpt.settings (if e.kind = .trial then .trial else .normal) (s.entryKey e)) = none) :
    completeSegment e s = goOn (unresolved e s) := by
  simp only [completeSegment, hw]; rfl

/-- The lookup in flight completes for the RESOLVING entry that it names. -/
theorem exec_lookup {s : State} {e : Entry} (hq : (s.sgq.queue.map (·.pos)).Nodup) (he : e ∈ s.sgq.queue) (hr : e.state = .resolving)
    (hf : s.rse.inFlight = .segment e.pos e.tag) :
    exec .segmentLookupCompletion s = .next (settleCodes s (arbiter (completeSegment e (lookupDone s)))) := by
  have found : s.sgq.queue.find? (fun x => decide (x.pos = e.pos ∧ x.tag = e.tag ∧ x.state = .resolving)) = some e := by
    obtain ⟨x, hx⟩ : ∃ x, s.sgq.queue.find? (fun x => decide (x.pos = e.pos ∧ x.tag = e.tag ∧ x.state = .resolving)) = some x := by
      rw [← Option.isSome_iff_exists, List.find?_isSome]
      exact ⟨e, he, by simp [hr]⟩
    have hp := List.find?_some hx
    rw [hx, mem_of_pos hq (List.mem_of_find?_eq_some hx) he (of_decide_eq_true hp).1]
  change execSegmentLookupCompletion s = _
  unfold execSegmentLookupCompletion
  rw [hf]
  simp only [show (lookupDone s).sgq = s.sgq from rfl, found]

/-- What a lookup that resolves leaves before the queue goes on, block by block. -/
theorem lookedUp_eq (e : Entry) (w : Working) (s : State) : lookedUp e w s =
    { s with
      stb := (w.sources.foldl (fun s h => pin h.index s) s).stb
      sgq := { s.sgq with queue := s.sgq.queue.map fun x => if x.pos = e.pos then x.copied (s.entryKey e) w else x }
      act := s.act.map (Counter.add w.kind.lookupEvent (some (s.entryKey e)) 1)
      cpt := { s.cpt with notices := { s.cpt.notices with counterWrap := (lookedUp e w s).cpt.notices.counterWrap } } } := by
  unfold lookedUp
  rw [pins_rest]
  unfold countEvent
  dsimp only
  rw [wrap_frame]
  rfl

theorem lookedUp_record (e : Entry) (w : Working) (s : State) (i : Nat) :
    (lookedUp e w s).record i = (s.record i).map fun r => { r with pins := r.pins + w.sources.countP (fun h => decide (h.index = i)) } :=
  record_pins w.sources s i

/-- A lookup that does not resolve ends its entry, and touches neither records nor the units. -/
theorem unresolved_eq {s : State} {e : Entry} (hk : e.kind ≠ .read) :
    (unresolved e s).sgq.queue = s.sgq.queue.filter (·.pos ≠ e.pos)
      ∧ (unresolved e s).act
        = s.act.map (fun c => Counter.add .segmentFailed (some (s.entryKey e)) 1 (Counter.add .lookupMiss (some (s.entryKey e)) 1 c))
      ∧ (unresolved e s).rse
        = { s.rse with inFlight := if s.rse.inFlight = .segment e.pos e.tag then .gone e.pos e.tag else s.rse.inFlight }
      ∧ (s.flk.out.length < 32 → (unresolved e s).flk = { s.flk with out := s.flk.out
          ++ [doneBytes e.tag e.cls (if e.kind = .trial then .noTrial else .noStrategy) e.warnings] })
      ∧ (unresolved e s).cpt.notices.needsRecord = (if e.kind = .trial then s.cpt.notices.needsRecord else some (s.entryKey e))
      ∧ (unresolved e s).stb = s.stb ∧ (unresolved e s).mst = s.mst ∧ (unresolved e s).pkp = s.pkp ∧ (unresolved e s).pgn = s.pgn
      ∧ (unresolved e s).plp = s.plp ∧ (unresolved e s).lsc = s.lsc ∧ (unresolved e s).wgd = s.wgd
      ∧ (unresolved e s).lines = s.lines := by
  set u : State := if e.kind = .trial then countEvent .lookupMiss (some (s.entryKey e)) 1 s
    else (countEvent .lookupMiss (some (s.entryKey e)) 1 s).withNotices ({ · with needsRecord := some (s.entryKey e) }) with hu
  have same : u = { s with act := u.act, cpt := u.cpt } ∧ u.act = s.act.map (Counter.add .lookupMiss (some (s.entryKey e)) 1) := by
    rw [hu]; split <;> exact ⟨rfl, rfl⟩
  obtain ⟨same, hact⟩ := same
  have needs : u.cpt.notices.needsRecord = if e.kind = .trial then s.cpt.notices.needsRecord else some (s.entryKey e) := by
    rw [hu]
    split
    · rw [countEvent_notices, wrap_frame]
    · rfl
  have out : unresolved e s = finishEntry (if e.kind = .trial then .noTrial else .noStrategy) e u := rfl
  have failed : (if e.kind = .trial then DoneOutcome.noTrial else .noStrategy) ≠ .ok := by split <;> exact nofun
  have hflk : u.flk = s.flk := by rw [same]
  have hsgq : u.sgq = s.sgq := by rw [same]
  have hrse : u.rse = s.rse := by rw [same]
  have hkey : u.eventKey e = some (s.entryKey e) := by
    rw [State.eventKey, if_neg hk]
    rw [same]; rfl
  rw [out]
  refine ⟨by rw [finishEntry_queue, hsgq], by rw [finishEntry_act, if_neg failed, hact, hkey, List.map_map]; rfl,
    by rw [finishEntry_engine, hrse], fun hlen => by rw [finishEntry_flk _ _ _ (by rw [hflk]; exact hlen), hflk],
    by rw [(finishEntry_notices _ e u).2.2.1, needs], ?_⟩
  simp only [finishEntry_stb, finishEntry_mst, finishEntry_pkp, finishEntry_pgn, finishEntry_plp, finishEntry_lsc, finishEntry_wgd,
    finishEntry_lines]
  rw [same]
  simp only [and_self]

/-- The queue goes on after a lookup: the entry keeps its working copy and, at the head, begins arming; outside READ nothing else happens. -/
theorem lookup_goesOn {s u : State} {e : Entry} {key : Key} {w : Working} (positions : (s.sgq.queue.map (·.pos)).Nodup)
    (he : e ∈ s.sgq.queue) (hr : e.state = .resolving)
    (ready : s.sgq.queue.head?.all (fun h => decide (h.state ≠ .ready)) = true)
    (hqueue : u.sgq.queue = s.sgq.queue.map fun x => if x.pos = e.pos then x.copied key w else x) (hlsc : u.lsc = s.lsc)
    (hside : s.sgq.queue.head? ≠ some e ∨ s.lsc.laser ≠ .read) :
    ∃ q, goOn u = queued q u
      ∧ { e.copied key w with state := if s.sgq.queue.head? = some e then .arming else .ready } ∈ q
      ∧ q.map (·.pos) = s.sgq.queue.map (·.pos) ∧ (queued q u).sgq.governing = s.sgq.governing := by
  have same_pos : u.sgq.queue.map (·.pos) = s.sgq.queue.map (·.pos) := by
    rw [hqueue, List.map_map]
    exact List.map_congr_left fun x _ => by simp only [Function.comp_apply]; split <;> rfl
  by_cases hhead : s.sgq.queue.head? = some e
  · obtain ⟨rest, hq⟩ : ∃ rest, s.sgq.queue = e :: rest := by
      cases hq : s.sgq.queue with
      | nil => simp [hq] at hhead
      | cons x rest =>
        obtain rfl : x = e := by simpa [hq] using hhead
        exact ⟨rest, rfl⟩
    have hu : ∃ rest', u.sgq.queue = e.copied key w :: rest' := ⟨_, by rw [hqueue, hq, List.map_cons, if_pos rfl]⟩
    obtain ⟨rest', hu⟩ := hu
    have go := goOn_eq hu rfl
    obtain ⟨-, -, -, arming⟩ := armingChecksInOrder (queued ({ e.copied key w with state := .arming } :: rest') u) _ rest' rfl
    have dark : (queued ({ e.copied key w with state := .arming } :: rest') u).lsc.laser ≠ .read := by
      show u.lsc.laser ≠ .read
      rw [hlsc]
      exact hside.resolve_left (not_not_intro hhead)
    rw [(arming rfl).1 dark] at go
    refine ⟨_, go, by simp [hhead], ?_, ?_⟩
    · rw [← same_pos, hu]; rfl
    · simp [Sgq.governing, queued, hq, hr]
  · refine ⟨u.sgq.queue, ?_, ?_, same_pos, ?_⟩
    all_goals
      have head : u.sgq.queue.head? = s.sgq.queue.head? := by
        rw [hqueue]
        cases hq : s.sgq.queue with
        | nil => rfl
        | cons x rest =>
          rw [hq] at hhead
          have hx : x.pos ≠ e.pos := fun h => hhead (by rw [mem_of_pos positions (by simp [hq]) he h]; rfl)
          simp [hx]
    · exact goOn_idle u (head ▸ ready)
    · rw [hqueue, if_neg hhead]
      exact List.mem_map.mpr ⟨e, he, by rw [if_pos rfl]; rfl⟩
    · exact governing_of_head head

/-- Settles O42, by what the lookup's key resolves to. -/
theorem segmentLookupsComplete : Obligations.SegmentLookupsComplete := by
  unfold Obligations.SegmentLookupsComplete
  refine ⟨fun s e hq he hr hf => ?_, fun s pos tag hf => ?_⟩
  swap
  · change execSegmentLookupCompletion s = _
    simp only [execSegmentLookupCompletion, hf]
    rfl
  obtain ⟨credits, tail, copies, ready⟩ := hq
  have positions := credits.1
  have run := exec_lookup positions he hr hf
  intro key mode isHead idle
  have key_eq : (lookupDone s).entryKey e = key := rfl
  have idle_eq : (lookupDone s).rse = idle := rfl
  have kind : e.kind ≠ .read := fun hk => by
    have fits := List.all_eq_true.mp copies e he
    unfold Safety.copyFits at fits
    cases hc : e.copy <;> simp [hk, hc, hr] at fits
  refine ⟨fun w hw => ?_, fun w hw hside => ?_, fun hw => ?_⟩
  · intro copy
    have found : completeSegment e (lookupDone s) = goOn (lookedUp e w (lookupDone s)) := completeSegment_found hw
    refine ⟨lookedUp e w (lookupDone s), by rw [run, found], ?_, ?_, lookedUp_record e w (lookupDone s), ?_⟩
    · rw [lookedUp_eq]; rfl
    · exact pins_gens w.sources (lookupDone s)
    · conv_lhs => rw [lookedUp_eq]
      rw [lookedUp_eq]
      rfl
  · have found : completeSegment e (lookupDone s) = goOn (lookedUp e w (lookupDone s)) := completeSegment_found hw
    rw [found] at run
    have looked := lookedUp_eq e w (lookupDone s)
    have records := lookedUp_record e w (lookupDone s)
    generalize lookedUp e w (lookupDone s) = u at run looked records
    have hqueue : u.sgq.queue = s.sgq.queue.map fun x => if x.pos = e.pos then x.copied key w else x := by rw [looked]; rfl
    obtain ⟨q, hgo, hmem, hpos, hgov⟩ := lookup_goesOn positions he hr ready hqueue (by rw [looked]; rfl)
      (hside.imp_left fun h => of_decide_eq_false h)
    have hn : ((queued q u).sgq.queue.map (·.pos)).Nodup := hpos ▸ positions
    have settled : settleCodes s (arbiter (queued q u)) = arbiter (queued q u) :=
      settleCodes_of_governing (by rw [arbiter_lsc, looked]; rfl) (by rw [arbiter_governing hn, hgov])
    refine ⟨arbiter (queued q u), by rw [run, hgo, settled], ?_, fun i r hr => ?_, ?_⟩
    · have mem := mem_arbiter hn hmem (by simp only; split <;> exact nofun)
      have state_eq : (if s.sgq.queue.head? = some e then EntryState.arming else .ready) = if isHead = true then .arming else .ready := by
        simp [isHead]
      rw [state_eq] at mem
      exact mem
    · show ((arbiter (queued q u)).stb[i]?).bind (·.held) = _
      rw [arbiter_stb]
      exact (records i).trans (by rw [show (lookupDone s).record i = some r from hr]; rfl)
    · simp only [arbiter_act, arbiter_mst, arbiter_flk, arbiter_pkp, arbiter_pgn, arbiter_plp, arbiter_lsc, arbiter_wgd]
      rw [looked]
      exact ⟨rfl, rfl, rfl, rfl, rfl, rfl, rfl, rfl⟩
  · have missed : completeSegment e (lookupDone s) = goOn (unresolved e (lookupDone s)) := completeSegment_none hw
    rw [missed] at run
    obtain ⟨hqueue, hact, hrse, hflk, hneeds, hstb, hmst, hpkp, hpgn, hplp, hlsc, hwgd, hlines⟩ := unresolved_eq (s := lookupDone s) kind
    generalize unresolved e (lookupDone s) = u at *
    have left : u.sgq.queue = s.sgq.queue.filter fun x => decide (x.tag ≠ e.tag) := by
      rw [hqueue, ← (finishEntry_tags credits he .ok).2, finishEntry_queue]; rfl
    refine ⟨⟨u, run, left, hact, hflk, hrse, hstb, hmst, hpkp, hpgn, hplp, hlsc, hwgd, hlines⟩, _, run, fun x hx => ?_, fun hlen => ?_, ?_⟩
    all_goals
      have on : Onward u (settleCodes s (arbiter (goOn u))) := settleCodes_onward s ((goOn_onward u).trans (arbiter_onward _))
    · have := on.tags.subset (List.mem_map_of_mem hx)
      rw [left] at this
      obtain ⟨y, hy, hyx⟩ := List.mem_map.mp this
      rw [← hyx]
      exact of_decide_eq_true (List.mem_filter.mp hy).2
    · obtain ⟨more, hmore⟩ := on.out
      exact ⟨more, by rw [hmore, hflk hlen]; simp⟩
    · rw [on.needsRecord, hneeds]; rfl

end Sys2Proof.Machine

end


section
/-! SUPPORT. The ticks, the maps, the output timeline and the samples (O28, O52, O55 to O57). -/

namespace Sys2Proof.Machine

open Sys2Proof.Stated

/-! ### The ms tick -/

/-- Settles O28, with and without an ACTIVE write. -/
theorem msTickCounts : Obligations.MsTickCounts := by
  unfold Obligations.MsTickCounts
  intro s
  have guard : s.wgd.tick = { s.wgd with
      tickTaken := false
      keepalive := s.wgd.keepalive.map fun k => { k with count := if s.wgd.tickTaken = true then k.count else min k.k (k.count + 1) } } := by
    unfold Wgd.tick
    cases s.wgd.tickTaken <;> cases s.wgd.keepalive <;> rfl
  cases ha : s.sgq.activeWrite with
  | none =>
    intro u v
    change Host.Outcome.next (tickTimers (tickQueue s)) = _
    have queue : tickQueue s = v := by simp only [tickQueue, ha]; rfl
    rw [queue]
    unfold tickTimers
    rw [show v.wgd = s.wgd from rfl, guard]
    cases s.wgd.keepalive <;> rfl
  | some head =>
    obtain ⟨e, wc⟩ := head
    obtain ⟨rest, hq⟩ := List.head?_eq_some_iff.mp (activeWrite_eq_some.mp ha).1
    intro u v
    change Host.Outcome.next (tickTimers (tickQueue s)) = _
    have tallied : (s.withHead ({ · with copy := .strategy { wc with tally := min Config.maxOnTime (wc.tally + 1) } }))
        = { s with sgq := { s.sgq with queue := s.sgq.queue.mapIdx fun k e =>
              if k = 0 then { e with copy := .strategy { wc with tally := min 16777215 (wc.tally + 1) } } else e } } := by
      rw [withHead_eq hq]
      have kept : rest.mapIdx (fun _ x => x) = rest := List.ext_getElem? fun i => by simp
      simp [queued, hq, Config.maxOnTime, kept]
    have queue : tickQueue s = v := by simp only [tickQueue, ha, tallied]; rfl
    rw [queue]
    unfold tickTimers
    rw [show v.wgd = s.wgd from rfl, guard]
    cases s.wgd.keepalive <;> rfl

/-! ### The maps and the wobble meter -/

theorem wobbleInterval_named (n : Nat) : (WobbleInterval.ofNat? n).isSome = decide (n ≤ 3) := by
  match n with
  | 0 | 1 | 2 | 3 => rfl
  | n + 4 => symm; simp [WobbleInterval.ofNat?]

theorem wobbleInterval_toNat (i : WobbleInterval) : WobbleInterval.ofNat? i.toNat = some i := by cases i <;> rfl

/-- SPEED_MAP with an interval that is named, by the checks of its windows (R116). -/
theorem serveSpeedMap_named {p : List Byte} {i : WobbleInterval} (hn : WobbleInterval.ofNat? (u8 p 0) = some i) {ws : List Window}
    (hws : ws = [⟨u16 p 1, u16 p 3⟩, ⟨u16 p 5, u16 p 7⟩, ⟨u16 p 9, u16 p 11⟩, ⟨u16 p 13, u16 p 15⟩]) (s : State) :
    serveSpeedMap p s = if !ws.all (fun w => decide (w.lo ≤ 65534 ∧ w.hi ≤ 65534)) then answerStatus 65 .badField s
      else if !ws.all (fun w => decide (w.lo ≤ w.hi)) then answerStatus 65 .badOrder s
      else if !windowsDisjoint ws then answerStatus 65 .badOrder s
      else answerStatus 65 .ok
        { s with pkp := { s.pkp with interval := i, windows := ws, measurement := none, wobCount := 0, wobMarks := 0 } } := by
  subst hws
  simp only [serveSpeedMap, hn]
  rfl

/-- Settles O52, by the checks of the two maps in order and the marks of the wobble meter. -/
theorem mapsAndWobble : Obligations.MapsAndWobble := by
  unfold Obligations.MapsAndWobble
  intro s
  refine ⟨fun idle p hp => ?_, fun idle p i hp hi => ?_, fun idle p st hp => ?_, ?_, ?_⟩
  · have run := exec_frame (c := .zoneMap) (fun _ _ => rfl) idle hp (by decide)
    intro b
    have served : serveZoneMap p s = if !b.all (fun x => decide (1 ≤ x ∧ x ≤ Config.maxSled)) then answerStatus 64 .badField s
      else if ¬ b.Pairwise (· < ·) then answerStatus 64 .badOrder s
      else if !s.sgq.queue.isEmpty then answerStatus 64 .inUse s
      else answerStatus 64 .ok { s with pkp := { s.pkp with zoneMap := b } } := rfl
    have inside : (b.all fun x => decide (1 ≤ x ∧ x ≤ Config.maxSled)) = true ↔ ∀ x ∈ b, 1 ≤ x ∧ x ≤ 32767 := by
      simp [Config.maxSled]
    refine ⟨fun hout => ?_, fun hin hnot => ?_, fun hin hasc hq => ?_, fun hin hasc hq => ?_⟩
    · have : ¬ (b.all fun x => decide (1 ≤ x ∧ x ≤ Config.maxSled)) = true := by
        rw [inside]
        obtain ⟨x, hx, hout⟩ := hout
        exact fun h => by have := h x hx; omega
      rw [run, served, if_pos (by simpa using this)]; rfl
    all_goals rw [run, served, if_neg (by simp only [inside.mpr hin]; exact nofun)]
    · rw [if_pos hnot]; rfl
    · rw [if_neg (not_not_intro hasc), if_pos (by simpa using hq)]; rfl
    · rw [if_neg (not_not_intro hasc), if_neg (by simp [hq])]; rfl
  · have run := exec_frame (c := .speedMap) (fun _ _ => rfl) idle hp (by decide)
    intro ws hws hdis
    have served : serveSpeedMap p s = answerStatus 65 .ok
        { s with pkp := { s.pkp with interval := i, windows := ws, measurement := none, wobCount := 0, wobMarks := 0 } } := by
      have top : ws.all (fun w => decide (w.lo ≤ 65534 ∧ w.hi ≤ 65534)) = true :=
        List.all_eq_true.mpr fun w hw => decide_eq_true (by have := hws w hw; omega)
      have upright : ws.all (fun w => decide (w.lo ≤ w.hi)) = true := List.all_eq_true.mpr fun w hw => decide_eq_true (hws w hw).1
      have apart : windowsDisjoint ws = true := decide_eq_true hdis
      rw [serveSpeedMap_named (hi ▸ wobbleInterval_toNat i) rfl, if_neg (by rw [top]; exact nofun), if_neg (by rw [upright]; exact nofun), if_neg (by rw [apart]; exact nofun)]
    rw [run, served]; rfl
  · have run := exec_frame (c := .speedMap) (fun _ _ => rfl) idle hp (by decide)
    intro ws hfirst
    have served : serveSpeedMap p s = answerStatus 65 st s := by
      have apart : decide (ws.Pairwise fun a b => a.hi < b.lo ∨ b.hi < a.lo) = windowsDisjoint ws := rfl
      rw [← wobbleInterval_named, apart] at hfirst
      simp only [firstRefusal_cons, firstRefusal_nil] at hfirst
      cases hn : WobbleInterval.ofNat? (u8 p 0) with
      | none =>
        rw [hn] at hfirst
        obtain rfl : Status.badField = st := by simpa using hfirst
        simp only [serveSpeedMap, hn]
      | some interval =>
        rw [hn] at hfirst
        rw [serveSpeedMap_named (ws := ws) hn rfl]
        cases htop : ws.all (fun w => decide (w.lo ≤ 65534 ∧ w.hi ≤ 65534))
        · rw [htop] at hfirst
          obtain rfl : Status.badField = st := by simpa using hfirst
          rfl
        cases hup : ws.all (fun w => decide (w.lo ≤ w.hi))
        · rw [htop, hup] at hfirst
          obtain rfl : Status.badOrder = st := by simpa using hfirst
          rfl
        cases hdis : windowsDisjoint ws
        · rw [htop, hup, hdis] at hfirst
          obtain rfl : Status.badOrder = st := by simpa using hfirst
          rfl
        · rw [htop, hup, hdis] at hfirst
          simp at hfirst
    rw [run, served]; rfl
  · change Host.Outcome.next _ = _
    have : min Config.maxWobble (s.pkp.wobCount + 1) = if s.pkp.wobCount < 65535 then s.pkp.wobCount + 1 else 65535 := by
      simp only [Config.maxWobble]; split <;> omega
    rw [this]
  · intro marks half u
    have marks_eq : s.pkp.interval.marks = marks := by
      show _ = (match s.pkp.interval with | .half => 1 | .one => 1 | .two => 2 | .four => 4)
      cases s.pkp.interval <;> rfl
    have run : exec .measurementCompletion s = execMeasurementCompletion s := rfl
    refine ⟨fun hdue => ?_, fun hlt hno => ?_⟩
    · have complete : s.pkp.complete = some u.pkp := by
        unfold Pkp.complete
        rw [marks_eq]
        by_cases hm : marks ≤ s.pkp.wobMarks
        · have hlt : ¬ s.pkp.wobMarks < marks := by omega
          simp [hm, u, Pkp.latch, hlt]
        · have hlt : s.pkp.wobMarks < marks := by omega
          rw [if_neg hm, if_pos (hdue.resolve_left hm)]
          simp [hm, u, Pkp.latch, hlt]
      have judged : exec .measurementCompletion s = .next (settleCodes s (judgeAgain u)) := by
        rw [run, execMeasurementCompletion, complete]
      refine ⟨judged, fun hhead => ?_⟩
      rw [judged, judgeAgain_idle (s := u) hhead, settleCodes_of_head (s := s) (t := u) rfl rfl]
    · have complete : s.pkp.complete = none := by
        unfold Pkp.complete
        rw [marks_eq, if_neg (by omega), if_neg hno]
      rw [run, execMeasurementCompletion, complete]

/-! ### The output timeline -/

theorem next_eq (g : Pgn) : g.next = upcoming g := by
  unfold Pgn.next upcoming
  simp only [List.flatMap_cons, List.flatMap_nil, List.append_nil, List.append_assoc]
  have head : ∀ l : List Int, l.take 1 = l.head?.toList := fun l => by cases l <;> rfl
  simp only [head, List.head?_map]

theorem reached_iff (g : Pgn) (p : Int) : g.reached p = true ↔ outputAt g p := by
  unfold Pgn.reached outputAt Pgn.now
  rw [next_eq]
  simp

theorem peakReached_iff (g : Pgn) (p : Int) : g.peakReached p = true ↔ peakDue g p := by
  unfold Pgn.peakReached peakDue
  rw [Bool.and_eq_true, reached_iff]
  simp

theorem outputDue_iff (g : Pgn) : g.outputDue = false ↔ ∀ q ∈ upcoming g, 32 * ((g.read : Int) - 9) ≤ q := by
  unfold Pgn.outputDue Pgn.now
  rw [next_eq]
  simp

theorem insideLongSpace_iff (s : State) : s.insideLongSpace = true
    ↔ s.lsc.laser = .write ∧ s.pgn.run.mark = false ∧ (∃ e, s.pgn.lastEnd = some e ∧ e + 18 < s.pgn.read)
      ∧ ∀ q ∈ upcoming s.pgn, 32 * ((s.pgn.read : Int) - 9) ≤ q := by
  rw [← outputDue_iff]
  unfold State.insideLongSpace
  cases s.pgn.lastEnd <;> simp [and_assoc]

/-- Settles O55, by what stands first on the timeline. -/
theorem outputTimeline : Obligations.OutputTimeline := by
  unfold Obligations.OutputTimeline
  intro s
  have notReached : ∀ {p : Int}, ¬ outputAt s.pgn p → s.pgn.reached p = false := fun h => by
    rw [← Bool.not_eq_true, reached_iff]; exact h
  refine ⟨fun p later hq h => ?_, fun h => ?_, fun e later hq h => ?_, fun h => ?_, fun m p later hq h => ?_, fun m hne h => ?_, ?_,
    fun hl m => ⟨?_, fun ho => ⟨?_, ?_⟩⟩⟩
  · change execMarkStart s = _
    simp only [execMarkStart, hq, (reached_iff _ _).mpr h, if_true]
    cases s.pgn.waiting <;> rfl
  · change execMarkStart s = _
    cases hq : s.pgn.starts with
    | nil => simp only [execMarkStart, hq]
    | cons p later => simp [execMarkStart, hq, notReached (h p (by simp [hq]))]
  · change execOutputLevelChange s = _
    simp only [execOutputLevelChange, hq, (reached_iff _ _).mpr h, if_true]
  · change execOutputLevelChange s = _
    cases hq : s.pgn.edges with
    | nil => simp only [execOutputLevelChange, hq]
    | cons e later => simp [execOutputLevelChange, hq, notReached (h e (by simp [hq]))]
  · change execSpaceMidpointReading m s = _
    simp only [execSpaceMidpointReading, hq, (reached_iff _ _).mpr h, if_true]
  · change execSpaceMidpointReading m s = _
    cases hq : s.pgn.mids with
    | nil => exact absurd hq hne
    | cons p later => simp [execSpaceMidpointReading, hq, notReached (h p (by simp [hq]))]
  · intro inLongSpace hq m
    have inside : s.insideLongSpace = true ↔ inLongSpace := insideLongSpace_iff s
    have run : exec (.spaceMidpointReading m) s = execSpaceMidpointReading m s := rfl
    refine ⟨fun h => ?_, fun h => ?_⟩
    · simp only [run, execSpaceMidpointReading, hq, inside.mpr h, if_true]
    · have out : s.insideLongSpace = false := by rw [← Bool.not_eq_true, inside]; exact h
      simp [run, execSpaceMidpointReading, hq, out]
  · change execReturnSample m s = _
    unfold execReturnSample
    split
    · exact absurd ‹_› hl
    · rfl
  · change execSpaceSample s = _
    unfold execSpaceSample
    split
    · exact absurd ‹_› hl
    · rename_i hh
      have none : s.lsc.offered = none := ho.resolve_left (not_not_intro hh)
      rw [none]; rfl
    · rfl
  · change execPeakSample m s = _
    unfold execPeakSample
    split
    · exact absurd ‹_› hl
    · rename_i hh
      have none : s.lsc.offered = none := ho.resolve_left (not_not_intro hh)
      rw [none]
    · rfl


/-! ### The power loop's requests and the temperature -/

theorem plp_temp (s : State) : s.plp.temp = s.plp.sample.getD s.plp.diode.tRef := rfl

/-- Settles O56, by the checks in order and the held reading. -/
theorem powerRequestsAndTemperature : Obligations.PowerRequestsAndTemperature := by
  unfold Obligations.PowerRequestsAndTemperature
  intro s
  refine ⟨fun idle p hp => ?_, fun idle p hp => ?_, fun hdue reading => ?_, fun hno reading => ?_⟩
  · have run := exec_frame (c := .diodeSet) (fun _ _ => rfl) idle hp (by decide)
    intro d fits
    have inRange : (readDiode p).inRange = true ↔ fits := by
      rw [show readDiode p = d from rfl, Diode.inRange, decide_eq_true_eq]
      simp only [fits, Config.minTemp, Config.maxTemp, and_assoc]
    refine ⟨fun hw => ?_, fun hw hout => ?_, fun hw hin => ?_⟩
    · rw [run, serveDiodeSet, if_pos hw]; rfl
    · rw [run, serveDiodeSet, if_neg hw, if_pos (by rw [Bool.not_eq_true', ← Bool.not_eq_true, inRange]; exact hout)]; rfl
    · rw [run, serveDiodeSet, if_neg hw, if_neg (by simp [inRange.mpr hin])]; rfl
  · have run := exec_frame (c := .limitsSet) (fun _ _ => rfl) idle hp (by decide)
    intro fits
    have inRange : (u16 p 0 < 1 ∨ Config.maxPower < u16 p 0 ∨ u16 p 2 < 1 ∨ 4095 < u16 p 2) ↔ ¬ fits := by
      simp only [fits, Config.maxPower]; omega
    have served : serveLimitsSet p s = if s.plp.limits.isSome then answerStatus 50 .locked s
        else if u16 p 0 < 1 ∨ Config.maxPower < u16 p 0 ∨ u16 p 2 < 1 ∨ 4095 < u16 p 2 then answerStatus 50 .badField s
        else answerStatus 50 .ok (recompute false { s with plp := { s.plp with limits := some { pd := u16 p 0, imax := u16 p 2 } } }) := rfl
    refine ⟨fun hset => ?_, fun hset hout => ?_, fun hset hin => ?_⟩
    · rw [run, served, if_pos (Option.isSome_iff_ne_none.mpr hset)]; rfl
    · rw [run, served, if_neg (by simp [hset]), if_pos (inRange.mpr hout)]; rfl
    · rw [run, served, if_neg (by simp [hset]), if_neg (fun h => inRange.mp h hin)]; rfl
  · intro t u
    have outside : t ≠ reading ↔ reading < -160 ∨ 400 < reading := hold_ne_iff (by decide)
    have taken : takeTemperature reading s = if t ≠ s.plp.temp then recompute false u else u := by
      have raised : (if t ≠ reading then s.withNotices ({ · with tempRange := true }) else s)
          = s.withNotices fun n => { n with tempRange := n.tempRange || decide (reading < -160 ∨ 400 < reading) } := by
        by_cases ho : reading < -160 ∨ 400 < reading
        · rw [if_pos (outside.mpr ho)]; simp [ho, State.withNotices]
        · rw [if_neg (fun h => ho (outside.mp h))]; simp [ho, State.withNotices]
      have eq : takeTemperature reading s = (fun v : State => if t ≠ s.plp.temp then
          recompute false { v with plp := { v.plp with sample := some t, tempTicks := v.plp.tempTicks - Config.tempPeriod } }
          else { v with plp := { v.plp with sample := some t, tempTicks := v.plp.tempTicks - Config.tempPeriod } })
          (if t ≠ reading then s.withNotices ({ · with tempRange := true }) else s) := rfl
      rw [eq, raised]
      rfl
    change execTemperatureSample reading s = _
    rw [execTemperatureSample, if_pos hdue, taken, plp_temp]
    by_cases h : t = s.plp.sample.getD s.plp.diode.tRef
    · rw [if_neg (not_not_intro h), if_pos h]
    · rw [if_pos h, if_neg h]
  · change execTemperatureSample reading s = _
    rw [execTemperatureSample, if_neg (by simp only [Config.tempPeriod]; omega)]

/-! ### Samples of an ACTIVE write -/

theorem addSpace_eq (a : TrackAcc) (m code : Nat) : a.addSpace m code =
    if a.ib ≠ none ∧ a.ib ≠ some code then
      { spaceSum := m, spaceCount := 1, peakSum := 0, peakCount := 0, ib := some code, ip := none }
    else if a.ib = some code ∧ a.spaceCount = 32 then a
    else { a with spaceSum := a.spaceSum + m, spaceCount := a.spaceCount + 1, ib := some code } := by
  unfold TrackAcc.addSpace
  cases h : a.ib with
  | none => simp
  | some ib =>
    by_cases hc : ib = code
    · subst hc
      by_cases hn : a.spaceCount = 32
      · simp [hn, Config.trackSamples]
      · simp [hn, Config.trackSamples, ← h]
    · simp [hc, TrackAcc.empty]

theorem addPeak_same {a : TrackAcc} {code : Nat} (h : a.ip = none ∨ a.ip = some code) (m : Nat) :
    a.addPeak m code = { a with peakSum := a.peakSum + m, peakCount := a.peakCount + 1, ip := some code } := by
  unfold TrackAcc.addPeak
  obtain h | h := h <;> simp [h]

theorem addPeak_other {a : TrackAcc} {code : Nat} (h : ¬ (a.ip = none ∨ a.ip = some code)) (m : Nat) :
    a.addPeak m code = { spaceSum := 0, spaceCount := 0, peakSum := m, peakCount := 1, ib := none, ip := some code } := by
  unfold TrackAcc.addPeak
  cases hi : a.ip with
  | none => exact absurd (.inl hi) h
  | some ip =>
    have : ip ≠ code := fun e => h (.inr (by rw [hi, e]))
    simp [this, TrackAcc.empty]

section
variable {s : State} {e : Entry} {wc : WorkingCopy} {rest : List Entry} (hw : writing s e wc rest)
include hw

theorem exec_spaceSample_writing {p : Int} {later : List Int} {h : HeldReading} (hs : s.pgn.spaces = p :: later) (hh : s.pgn.held = some h) :
    exec .spaceSample s = if s.pgn.reached p = false then .next s
      else if tripLevel e s < h.reading then
        .next (settleCodes s (raiseCause .overpower { s with pgn := { s.pgn with spaces := later, held := none } }))
      else .next { s with
        pgn := { s.pgn with spaces := later, held := none }
        plp := { s.plp with track := s.plp.track.addSpace h.reading h.code } } := by
  change execSpaceSample s = _
  unfold execSpaceSample
  simp only [hw.1, activeWrite_of_writing hw, hs, hh, Bool.not_eq_true']

theorem exec_peakSample_writing {p : Int} {later : List Int} (m : Nat) (hs : s.pgn.peaks = p :: later) :
    exec (.peakSample m) s = if s.pgn.peakReached p = false then .next s
      else if tripLevel e s < m then .next (settleCodes s (raiseCause .overpower { s with pgn := { s.pgn with peaks := later } }))
      else if (s.plp.track.addPeak m s.pgn.presented.peak).peakCount = 32 then
        .next (completeTracking (some wc.key) (s.plp.track.addPeak m s.pgn.presented.peak) { s with pgn := { s.pgn with peaks := later } })
      else .next { s with
        pgn := { s.pgn with peaks := later }, plp := { s.plp with track := s.plp.track.addPeak m s.pgn.presented.peak } } := by
  change execPeakSample m s = _
  unfold execPeakSample
  simp only [hw.1, activeWrite_of_writing hw, hs, Bool.not_eq_true', Config.trackSamples]

theorem exec_returnSample_writing {p : Int} {later : List Int} (m : Nat) (hs : s.pgn.returns = p :: later) :
    exec (.returnSample m) s = if s.pgn.reached p = false then .next s
      else if s.plp.returns.count + 1 = 16 then
        .next (correctionUpdate wc (s.plp.returns.sum + m)
          { s with pgn := { s.pgn with returns := later }, plp := { s.plp with returns := ReturnAcc.empty } })
      else .next { s with
        pgn := { s.pgn with returns := later }
        plp := { s.plp with returns := { sum := s.plp.returns.sum + m, count := s.plp.returns.count + 1 } } } := by
  change execReturnSample m s = _
  unfold execReturnSample
  simp only [hw.1, activeWrite_of_writing hw, hs, Bool.not_eq_true', Config.returnSamples]

end

/-! ### Completions of the tracking and of the correction -/

theorem completeTracking_skipped {a : TrackAcc} (h : a.skips = true) (key : Option Key) (s : State) :
    completeTracking key a s = countEvent .trackSkip key 1 { s with plp := { s.plp with track := TrackAcc.empty } } := by
  rw [completeTracking, if_pos h]

/-- A tracking update: the new reference values, held, with a recomputation when they move (R161). -/
theorem completeTracking_updates {a : TrackAcc} (h : a.skips = false) (key : Option Key) (s : State) :
    let line := diodeLine s.plp.diode s.plp.temp
    let t := trackUpdate s.plp.diode line a.meanSpace a.meanPeak (a.ib.getD 0) (a.ip.getD 0)
    let d : Diode := { s.plp.diode with ithRef := t.ithRef, sRef := t.sRef }
    let u : State :=
      { s with
        plp := { s.plp with diode := d, track := TrackAcc.empty }
        cpt := { s.cpt with notices :=
          { s.cpt.notices with diodeTrackLimit := s.cpt.notices.diodeTrackLimit || (line.held || t.held) } } }
    completeTracking key a s = if d = s.plp.diode then u else recompute false u := by
  intro line t d u
  have limited : (if line.held = true ∨ t.held = true then
      ({ s with plp := { s.plp with diode := d, track := TrackAcc.empty } } : State).withNotices ({ · with diodeTrackLimit := true })
      else { s with plp := { s.plp with diode := d, track := TrackAcc.empty } }) = u := by
    cases hl : line.held <;> cases ht : t.held <;> simp [u, State.withNotices, hl, ht]
  have moved : (t.ithRef ≠ s.plp.diode.ithRef ∨ t.sRef ≠ s.plp.diode.sRef) ↔ d ≠ s.plp.diode := by
    rw [ne_eq, ne_eq, ← not_and_or, not_iff_not]
    refine ⟨fun ⟨h1, h2⟩ => ?_, fun h => ⟨congrArg Diode.ithRef h, congrArg Diode.sRef h⟩⟩
    simp only [d, h1, h2]
  have eq : completeTracking key a s = (fun v : State => if t.ithRef ≠ s.plp.diode.ithRef ∨ t.sRef ≠ s.plp.diode.sRef then recompute false v else v)
      (if line.held = true ∨ t.held = true then
        ({ s with plp := { s.plp with diode := d, track := TrackAcc.empty } } : State).withNotices ({ · with diodeTrackLimit := true })
        else { s with plp := { s.plp with diode := d, track := TrackAcc.empty } }) := by
    rw [completeTracking, if_neg (by simp [h])]
    rfl
  rw [eq, limited]
  simp only [moved]
  by_cases hd : d = s.plp.diode
  · rw [if_neg (not_not_intro hd), if_pos hd]
  · rw [if_pos hd, if_neg hd]

/-- Whether an update was held, in the terms of R161. -/
theorem held_or (b : Bool) (ith s : Int) : (b || decide (hold 0 2047 ith ≠ ith ∨ hold 64 8191 s ≠ s))
    = decide (s < 64 ∨ 8191 < s ∨ ith < 0 ∨ 2047 < ith ∨ b = true) := by
  rw [Bool.eq_iff_iff, Bool.or_eq_true, decide_eq_true_iff, decide_eq_true_iff, hold_ne_iff (by decide), hold_ne_iff (by decide)]
  tauto

/-- The tracking update with the means and codes of its accumulation (R161). -/
theorem trackingUpdate_stated {s : State} {g : Pgn} {a : TrackAcc} {key : Option Key} (h : a.skips = false) {mb mp : Int} {ip : Nat}
    (hmb : a.meanSpace = mb) (hmp : a.meanPeak = mp) (hip : a.ip.getD 0 = ip) :
    let ib := a.ib.getD 0
    let line := diodeLine s.plp.diode (s.plp.sample.getD s.plp.diode.tRef)
    let sMeas := rnd (256 * ((ip : Int) - ib)) (mp - mb).toNat
    let ithMeas := (ib : Int) - rnd (mb * sMeas) 256
    let sNew := (s.plp.diode.sRef : Int) + rnd (sMeas - line.slope) 8
    let ithNew := (s.plp.diode.ithRef : Int) + rnd (ithMeas - line.ith) 8
    let d : Diode :=
      { s.plp.diode with sRef := (max 64 (min 8191 sNew)).toNat, ithRef := (max 0 (min 2047 ithNew)).toNat }
    let limited := sNew < 64 ∨ 8191 < sNew ∨ ithNew < 0 ∨ 2047 < ithNew ∨ line.held = true
    let u : State :=
      { s with
        pgn := g
        plp := { s.plp with diode := d, track := TrackAcc.empty }
        cpt := { s.cpt with notices :=
          { s.cpt.notices with diodeTrackLimit := s.cpt.notices.diodeTrackLimit || decide limited } } }
    completeTracking key a { s with pgn := g } = if d = s.plp.diode then u else recompute false u := by
  have update := completeTracking_updates h key { s with pgn := g }
  rw [hmb, hmp, hip] at update
  intro ib line sMeas ithMeas sNew ithNew d limited u
  have held : (line.held || (trackUpdate s.plp.diode line mb mp ib ip).held) = decide limited := held_or line.held ithNew sNew
  refine update.trans ?_
  change (fun b : Bool => (fun v : State => if d = s.plp.diode then v else recompute false v)
    { s with
      pgn := g
      plp := { s.plp with diode := d, track := TrackAcc.empty }
      cpt := { s.cpt with notices := { s.cpt.notices with diodeTrackLimit := s.cpt.notices.diodeTrackLimit || b } } })
    (line.held || (trackUpdate s.plp.diode line mb mp ib ip).held) = _
  rw [held]

/-- The correction update for the head that runs (R157, R158). -/
theorem correctionUpdate_eq {s : State} {e : Entry} {rest : List Entry} (hq : s.sgq.queue = e :: rest) {wc : WorkingCopy} (sum : Nat) :
    let raw := wc.running + rnd (((wc.strat.dt : Int) - rnd sum 16) * s.cpt.settings.gain) 16
    let new := max (-160) (min 160 raw)
    let limit := decide (raw ≤ -160 ∨ 160 ≤ raw)
    let u := queued ({ e with copy := .strategy { wc with running := new },
                              warnings := { e.warnings with corrLimit := e.warnings.corrLimit || limit } } :: rest) s
    let v := if limit then countEvent .corrLimit (some wc.key) 1 u else u
    correctionUpdate wc sum s = if new = wc.running then v else recompute false v := by
  intro raw new limit u v
  unfold correctionUpdate
  dsimp only
  rw [withHead_eq hq]
  change (if new ≠ wc.running then recompute false v else v) = _
  by_cases h : new = wc.running
  · rw [if_neg (not_not_intro h), if_pos h]
  · rw [if_pos h, if_neg h]

/-- Settles O57, by what each sample meets: its position, the trip level, the code of the accumulation and its count. -/
theorem samplesAccumulateAndUpdate : Obligations.SamplesAccumulateAndUpdate := by
  unfold Obligations.SamplesAccumulateAndUpdate
  intro s e wc rest c hw hc trip a tracked
  have level : tripLevel e s = trip := by rw [tripLevel, hc]; rfl
  have reached : ∀ {p : Int}, outputAt s.pgn p → ¬ s.pgn.reached p = false := fun h => by rw [(reached_iff _ _).mpr h]; exact nofun
  have notReached : ∀ {p : Int}, ¬ outputAt s.pgn p → s.pgn.reached p = false := fun h => by
    rw [← Bool.not_eq_true, reached_iff]; exact h
  refine ⟨fun p later h hs hh hp hm => ?_, fun p later m hs hp hm => ?_, fun p later m hs hp => ?_, fun hno => ?_, fun m => ⟨fun hno => ?_, fun hno => ?_⟩⟩
  · intro g
    rw [exec_spaceSample_writing hw hs hh, if_neg (reached hp), if_neg (by omega), addSpace_eq]
  · intro g code same
    have run := exec_peakSample_writing hw m hs
    rw [if_neg (by rw [(peakReached_iff _ _).mpr hp]; exact nofun), if_neg (by omega)] at run
    refine ⟨fun hn => ?_, fun hsame hlt => ?_, fun hsame hfull => ?_⟩
    · rw [run, addPeak_other hn, if_neg (by simp)]
    · rw [run, addPeak_same hsame, if_neg (by show ¬ a.peakCount + 1 = 32; omega)]
    · rw [addPeak_same hsame, if_pos (by show a.peakCount + 1 = 32; omega)] at run
      intro mb mp skipped
      set done : TrackAcc := { a with peakSum := a.peakSum + m, peakCount := a.peakCount + 1, ip := some code } with hdone
      have meanPeak : done.meanPeak = mp := by simp [TrackAcc.meanPeak, hdone, mp, Config.trackSamples]
      have skips : done.skips = true ↔ skipped := by
        rw [TrackAcc.skips, decide_eq_true_eq, meanPeak]
        rfl
      refine ⟨fun hskip => ?_, fun hskip => ?_⟩
      · rw [run, completeTracking_skipped (skips.mpr hskip)]
      · intro ib line sMeas ithMeas sNew ithNew d limited u
        rw [run]
        exact congrArg Host.Outcome.next (trackingUpdate_stated (s := s) (Bool.eq_false_iff.mpr fun h => hskip (skips.mp h)) rfl meanPeak rfl)
  · have run := exec_returnSample_writing hw m hs
    rw [if_neg (reached hp)] at run
    intro g sum
    refine ⟨fun hlt => by rw [run, if_neg (by omega)], fun hfull => ?_⟩
    intro raw new limit u v
    rw [run, if_pos (by omega)]
    obtain ⟨-, hq, -, -⟩ := hw
    exact congrArg Host.Outcome.next
      (correctionUpdate_eq (s := { s with pgn := g, plp := { s.plp with returns := ReturnAcc.empty } }) hq sum)
  · change execSpaceSample s = _
    cases hs : s.pgn.spaces with
    | nil => simp only [execSpaceSample, hw.1, activeWrite_of_writing hw, hs]
    | cons p later =>
      cases hh : s.pgn.held with
      | none => simp only [execSpaceSample, hw.1, activeWrite_of_writing hw, hs, hh]
      | some h =>
        exact (exec_spaceSample_writing hw hs hh).trans (if_pos (notReached (hno p (by simp [hs]))))
  · cases hs : s.pgn.peaks with
    | nil =>
      change execPeakSample m s = _
      simp only [execPeakSample, hw.1, activeWrite_of_writing hw, hs]
    | cons p later =>
      rw [exec_peakSample_writing hw m hs, if_pos]
      rw [← Bool.not_eq_true, peakReached_iff]
      exact hno p (by simp [hs])
  · cases hs : s.pgn.returns with
    | nil =>
      change execReturnSample m s = _
      simp only [execReturnSample, hw.1, activeWrite_of_writing hw, hs]
    | cons p later => rw [exec_returnSample_writing hw m hs, if_pos (notReached (hno p (by simp [hs])))]

end Sys2Proof.Machine

end


section
/-! SUPPORT. From powers to codes: rounding, the diode line, a level's code and its order, what a computation reports and hands over (O58). -/

namespace Sys2Proof.Machine

open Sys2Proof.Stated

/-! ### Rounding and the stages -/

theorem rnd_nearest (n : Int) {d : Nat} (hd : 0 < d) : 2 * d * rnd n d ≤ 2 * n + d ∧ 2 * n + d < 2 * d * (rnd n d + 1) := by
  have hpos : (0 : Int) < 2 * d := by omega
  refine ⟨Int.mul_ediv_self_le hpos.ne', ?_⟩
  have := Int.lt_ediv_add_one_mul_self (2 * n + d) hpos
  rwa [mul_comm ((2 * n + d) / (2 * d) + 1)] at this

theorem rnd_mono {m n : Int} (h : m ≤ n) {d : Nat} (hd : 0 < d) : rnd m d ≤ rnd n d :=
  Int.ediv_le_ediv (by omega) (by omega)

theorem rnd_nonneg {n : Int} (h : 0 ≤ n) (d : Nat) : 0 ≤ rnd n d := Int.ediv_nonneg (by omega) (by omega)

theorem diodeLine_values (d : Diode) (temp : Int) :
    let line := diodeLine d temp
    let ith := d.ithRef + rnd (d.kI * (temp - d.tRef)) 64
    let slope := d.sRef + rnd (d.kS * (temp - d.tRef)) 64
    (line.ith : Int) = max 0 (min 2047 ith) ∧ (line.slope : Int) = max 64 (min 8191 slope)
      ∧ (line.held = true ↔ ith < 0 ∨ 2047 < ith ∨ slope < 64 ∨ 8191 < slope) := by
  intro line ith slope
  refine ⟨Int.toNat_of_nonneg (le_max_left _ _), Int.toNat_of_nonneg ((by decide : (0 : Int) ≤ 64).trans (le_max_left _ _)), ?_⟩
  have heldIff : line.held = true ↔ hold 0 2047 ith ≠ ith ∨ hold 64 8191 slope ≠ slope := decide_eq_true_iff
  rw [heldIff, hold_ne_iff (by decide), hold_ne_iff (by decide), or_assoc]

section
variable (line : Line) (imax ceiling : Nat)

/-- The current that a bounded power calls for (R153). -/
def currentFor (line : Line) (p : Nat) : Nat := line.ith + (rnd ((p : Int) * line.slope) 256).toNat

theorem currentFor_mono {p q : Nat} (h : p ≤ q) : currentFor line p ≤ currentFor line q := by
  unfold currentFor
  have := rnd_mono (d := 256) (mul_le_mul_of_nonneg_right (Int.ofNat_le.mpr h) (Int.natCast_nonneg line.slope)) (by decide)
  simp only [Nat.add_le_add_iff_left]
  exact Int.toNat_le_toNat this

theorem currentFor_cast (p : Nat) : (currentFor line p : Int) = line.ith + rnd ((p : Int) * line.slope) 256 := by
  unfold currentFor
  rw [Int.natCast_add, Int.toNat_of_nonneg (rnd_nonneg (Int.mul_nonneg (Int.natCast_nonneg p) (Int.natCast_nonneg _)) 256)]

theorem levelCode_code (p : Nat) : (levelCode line imax ceiling p).code =
    if min p ceiling = 0 then 0 else if currentFor line (min p ceiling) ≤ imax then currentFor line (min p ceiling)
      else if line.ith ≤ imax then imax else 0 := by
  unfold levelCode currentFor
  dsimp only
  split
  · rfl
  · split <;> rfl

/-- A level's code rises with its power. -/
theorem levelCode_mono {p q : Nat} (h : p ≤ q) : (levelCode line imax ceiling p).code ≤ (levelCode line imax ceiling q).code := by
  have mono := currentFor_mono line (show min p ceiling ≤ min q ceiling by omega)
  have base : line.ith ≤ currentFor line (min p ceiling) := Nat.le_add_right _ _
  rw [levelCode_code, levelCode_code]
  split_ifs <;> omega

theorem levelCode_reports (p : Nat) : (levelCode line imax ceiling p).clamped = decide (ceiling < p)
    ∧ (levelCode line imax ceiling p).beyond = decide (min p ceiling ≠ 0 ∧ imax < currentFor line (min p ceiling)) := by
  have clamped : decide (min p ceiling < p) = decide (ceiling < p) := decide_eq_decide.mpr (by omega)
  unfold levelCode currentFor
  dsimp only
  rw [clamped]
  split
  · simp [*]
  · split
    · refine ⟨rfl, ?_⟩
      symm
      simp only [decide_eq_false_iff_not, not_and, not_lt]
      exact fun _ => ‹_›
    · refine ⟨rfl, ?_⟩
      symm
      rw [decide_eq_true_iff]
      exact ⟨‹_›, by omega⟩

end

theorem corrected_bounds (p : Nat) {c : Int} (hlo : -160 ≤ c) (hhi : c ≤ 160) :
    (corrected p c : Int) = rnd (p * (1024 + c)) 1024 ∧ (1 ≤ corrected p c ↔ 1 ≤ p) ∧ ∀ q, p ≤ q → corrected p c ≤ corrected q c := by
  have hk : 0 ≤ 1024 + c := by omega
  have cast : ∀ n : Nat, (corrected n c : Int) = rnd (n * (1024 + c)) 1024 := fun n =>
    Int.toNat_of_nonneg (rnd_nonneg (Int.mul_nonneg (Int.natCast_nonneg n) hk) _)
  refine ⟨cast p, ?_, fun q h => ?_⟩
  · have near := rnd_nearest ((p : Int) * (1024 + c)) (d := 1024) (by decide)
    have hc := cast p
    rw [← hc] at near
    refine ⟨fun h => ?_, fun h => ?_⟩
    · by_contra hp
      obtain rfl : p = 0 := by omega
      simp at near
      omega
    · have : (1024 + c) ≤ p * (1024 + c) := le_mul_of_one_le_left hk (by omega)
      by_contra hz
      have : corrected p c = 0 := by omega
      rw [this] at near
      omega
  · rw [← Int.ofNat_le, cast p, cast q]
    exact rnd_mono (mul_le_mul_of_nonneg_right (Int.ofNat_le.mpr h) hk) (by decide)

/-! ### The computed set -/

/-- A working copy in range has its powers in order and its correction within bounds. -/
theorem activeWrite_inRange {s : State} (h : Safety.RecordsInRange s) {e : Entry} {wc : WorkingCopy} (ha : s.sgq.activeWrite = some (e, wc)) :
    (wc.strat.pc ≤ wc.strat.ps ∧ wc.strat.ps ≤ wc.strat.pp) ∧ -160 ≤ wc.running ∧ wc.running ≤ 160 := by
  obtain ⟨hhead, -, hcopy⟩ := activeWrite_eq_some.mp ha
  have inRange := copyInRange_of_mem h (List.mem_of_head? hhead)
  rw [hcopy] at inRange
  simp only [Safety.copyInRange, Bool.and_eq_true] at inRange
  obtain ⟨⟨⟨strat, running⟩, -⟩, -⟩ := inRange
  simp only [Safety.strategyInRange, Bool.and_eq_true] at strat
  obtain ⟨⟨-, powers⟩, -⟩ := strat
  have powers : wc.strat.pc ≤ wc.strat.ps ∧ wc.strat.ps ≤ wc.strat.pp := by simpa [Strategy.powersOrdered] using powers
  have running : -160 ≤ wc.running ∧ wc.running ≤ 160 := by simpa [corrInRange, Config.maxCorr] using running
  exact ⟨powers, running⟩

/-- Which levels a computation lights: READ wherever the laser is enabled, the three others in a write alone (R148). -/
theorem computeCodes_eq {s : State} {lim : Limits} (hlim : s.plp.limits = some lim) :
    s.computeCodes = (
      let line := diodeLine s.plp.diode s.plp.temp
      let target := s.readTarget lim.pd
      let level := levelCode line lim.imax (min target.ceiling lim.pd)
      if s.lsc.len = false then { read := .dark, space := .dark, peak := .dark, cool := .dark }
      else if s.lsc.laser = .write then
        match s.sgq.activeWrite with
        | some (_, wc) =>
          { read := level target.readPower, space := level (corrected wc.strat.ps wc.running)
            peak := level (corrected wc.strat.pp wc.running), cool := level (corrected wc.strat.pc wc.running) }
        | none => { read := level target.readPower, space := .dark, peak := .dark, cool := .dark }
      else { read := level target.readPower, space := .dark, peak := .dark, cool := .dark } : Computed) := by
  unfold State.computeCodes Lsc.len
  rw [hlim]
  cases hl : s.lsc.laser with
  | off | settling | read => rfl
  | hold =>
    change (if s.lsc.holdLit = true then _ else _) = _
    cases hh : s.lsc.holdLit
    · have : (decide (s.lsc.ret = some .lit) && !s.lsc.causes.supplyTrip && !s.lsc.causes.overpower) = false := hh
      simp only [this]
      rfl
    · have : (decide (s.lsc.ret = some .lit) && !s.lsc.causes.supplyTrip && !s.lsc.causes.overpower) = true := hh
      simp only [this]
      rfl
  | write =>
    cases s.sgq.activeWrite <;> rfl

theorem computeCodes_unlimited {s : State} (h : s.plp.limits = none) : s.computeCodes.codes = CodeSet.zero := by
  unfold State.computeCodes; rw [h]; rfl

/-! ### What a computation reports -/

theorem Counter.add_add (ev : CounterEvent) (key : Option Key) (m n : Nat) (c : Counter) :
    Counter.add ev key n (Counter.add ev key m c) = Counter.add ev key (m + n) c := by
  unfold Counter.add
  cases h : c.counts ev key
  · simp [h]
  · have : ∀ v, ({ c with value := v } : Counter).counts ev key = true := fun _ => h
    simp [this, Nat.add_assoc]

theorem Counter.add_comm {ev ev' : CounterEvent} (hne : ev ≠ ev') (key : Option Key) (m n : Nat) (c : Counter) :
    Counter.add ev key m (Counter.add ev' key n c) = Counter.add ev' key n (Counter.add ev key m c) := by
  have counts : ∀ (x : CounterEvent) (v : Nat), ({ c with value := v } : Counter).counts x key = c.counts x key := fun _ _ => rfl
  have apart : ¬ (c.counts ev key = true ∧ c.counts ev' key = true) := by
    simp only [Counter.counts, Bool.and_eq_true, decide_eq_true_eq]
    rintro ⟨⟨h, -⟩, h', -⟩
    exact hne (Option.some.inj (h.symm.trans h'))
  unfold Counter.add
  cases h : c.counts ev key <;> cases h' : c.counts ev' key <;> simp_all

theorem Counter.add_zero (ev : CounterEvent) (key : Option Key) {c : Counter} (h : c.value < 4294967296) : Counter.add ev key 0 c = c := by
  unfold Counter.add
  split
  · simp [Config.counterModulus, Nat.mod_eq_of_lt h]
  · rfl

theorem Counter.add_lt (ev : CounterEvent) (key : Option Key) (n : Nat) {c : Counter} (h : c.value < 4294967296) :
    (Counter.add ev key n c).value < 4294967296 := by
  unfold Counter.add
  split
  · exact Nat.mod_lt _ (by decide)
  · exact h

/-- What the reports of levels leave of the counters and notices: everything else stands (R151, R153). -/
structure Reported (key : Option Key) (ls : List LevelCode) (s t : State) : Prop where
  act : t.act = s.act.map fun x =>
    Counter.add .overdrive key (ls.countP (·.beyond)) (Counter.add .clampCeiling key (ls.countP (·.clamped)) x)
  overdrive : t.cpt.notices.overdrive = (s.cpt.notices.overdrive || ls.any (·.beyond))
  rest : t = { s with
    act := t.act
    cpt := { s.cpt with notices :=
      { s.cpt.notices with overdrive := t.cpt.notices.overdrive, counterWrap := t.cpt.notices.counterWrap } } }

theorem countEvent_frame (ev : CounterEvent) (key : Option Key) (n : Nat) (s : State) : countEvent ev key n s = { s with
    act := s.act.map (Counter.add ev key n)
    cpt := { s.cpt with notices := { s.cpt.notices with counterWrap := (countEvent ev key n s).cpt.notices.counterWrap } } } := by
  conv_lhs => unfold countEvent
  rw [wrap_frame]
  rfl

theorem countEvent_overdrive (ev : CounterEvent) (key : Option Key) (n : Nat) (s : State) :
    (countEvent ev key n s).cpt.notices.overdrive = s.cpt.notices.overdrive := by rw [countEvent_frame]

theorem reportLevel_reported (key : Option Key) {s : State} (hs : ∀ c ∈ s.act, c.value < 4294967296) (l : LevelCode) :
    Reported key [l] s (reportLevel key s l) := by
  obtain ⟨code, clamped, beyond⟩ := l
  have act : (reportLevel key s ⟨code, clamped, beyond⟩).act = s.act.map fun x =>
      (if beyond then Counter.add .overdrive key 1 else id) ((if clamped then Counter.add .clampCeiling key 1 else id) x) := by
    cases clamped <;> cases beyond
    · exact (List.map_id s.act).symm
    · rfl
    · rfl
    · exact List.map_map
  refine ⟨act.trans (List.map_congr_left fun c hc => ?_), ?_, ?_⟩
  · have small := hs c hc
    cases clamped <;> cases beyond <;>
      simp only [List.countP_singleton, if_true, if_false, Bool.false_eq_true, id, Counter.add_zero _ _ small,
        Counter.add_zero _ _ (Counter.add_lt .clampCeiling key 1 small)]
  · have noted : ∀ u : State, (countEvent .clampCeiling key 1 u).cpt.notices.overdrive = u.cpt.notices.overdrive := countEvent_overdrive _ _ _
    cases clamped <;> cases beyond
    · exact (Bool.or_false _).symm
    · exact (Bool.or_true _).symm
    · exact (noted s).trans (Bool.or_false _).symm
    · exact (Bool.or_true _).symm
  · cases clamped <;> cases beyond
    · rfl
    · simp only [reportLevel, if_true, if_false, Bool.false_eq_true]; rw [countEvent_frame]; rfl
    · simp only [reportLevel, if_true, if_false, Bool.false_eq_true]; rw [countEvent_frame]
    · simp only [reportLevel, if_true]; rw [countEvent_frame, countEvent_frame]; rfl

theorem Reported.cons {key : Option Key} {l : LevelCode} {ls : List LevelCode} {s t u : State} (h : Reported key [l] s t)
    (h' : Reported key ls t u) : Reported key (l :: ls) s u := by
  have order : CounterEvent.overdrive ≠ .clampCeiling := nofun
  refine ⟨?_, ?_, ?_⟩
  · rw [h'.act, h.act, List.map_map]
    refine List.map_congr_left fun c _ => ?_
    simp only [Function.comp_apply, List.countP_cons (l := ls), List.countP_singleton]
    rw [← Counter.add_comm order, Counter.add_add, Counter.add_add, Nat.add_comm (ls.countP _), Nat.add_comm (ls.countP _)]
  · rw [h'.overdrive, h.overdrive]; simp [Bool.or_assoc]
  · rw [h'.rest, h.rest]

theorem reportLevels (key : Option Key) : ∀ (ls : List LevelCode) {s : State}, (∀ c ∈ s.act, c.value < 4294967296) →
    Reported key ls s (ls.foldl (reportLevel key) s)
  | [], s, hs => by
    refine ⟨?_, by simp, rfl⟩
    refine ((List.map_congr_left fun c hc => ?_).trans (List.map_id s.act)).symm
    simp only [List.countP_nil, Counter.add_zero _ _ (hs c hc), id]
  | l :: ls, s, hs => by
    have first := reportLevel_reported key hs l
    refine first.cons (reportLevels key ls fun c hc => ?_)
    rw [first.act] at hc
    obtain ⟨x, hx, rfl⟩ := List.mem_map.mp hc
    exact Counter.add_lt _ _ _ (Counter.add_lt _ _ _ (hs x hx))

/-! ### A computation as a whole -/

/-- What a computation gives by the laser's state, the head and the ranges of the records (R148 to R154). -/
theorem computeCodes_values (s : State) : (s.lsc.len = false → s.computeCodes.codes = CodeSet.zero)
    ∧ (s.lsc.laser ≠ .write → s.computeCodes.codes.space = 0 ∧ s.computeCodes.codes.peak = 0 ∧ s.computeCodes.codes.cool = 0)
    ∧ (Safety.RecordsInRange s → s.computeCodes.codes.cool ≤ s.computeCodes.codes.space
      ∧ s.computeCodes.codes.space ≤ s.computeCodes.codes.peak) := by
  cases hlim : s.plp.limits with
  | none =>
    rw [computeCodes_unlimited hlim]
    exact ⟨fun _ => rfl, fun _ => ⟨rfl, rfl, rfl⟩, fun _ => ⟨le_rfl, le_rfl⟩⟩
  | some lim =>
    rw [computeCodes_eq hlim]
    dsimp only
    by_cases hlen : s.lsc.len = false
    · simp only [hlen, if_true]
      exact ⟨fun _ => rfl, fun _ => ⟨rfl, rfl, rfl⟩, fun _ => ⟨le_rfl, le_rfl⟩⟩
    by_cases hw : s.lsc.laser = .write
    · simp only [hlen, hw, if_true]
      cases ha : s.sgq.activeWrite with
      | none => exact ⟨fun h => absurd h (by simp), fun h => absurd rfl h, fun _ => ⟨le_rfl, le_rfl⟩⟩
      | some head =>
        refine ⟨fun h => absurd h (by simp), fun h => absurd rfl h, fun hr => ?_⟩
        obtain ⟨⟨hcs, hsp⟩, hlo, hhi⟩ := activeWrite_inRange (e := head.1) (wc := head.2) hr ha
        exact ⟨levelCode_mono _ _ _ ((corrected_bounds _ hlo hhi).2.2 _ hcs), levelCode_mono _ _ _ ((corrected_bounds _ hlo hhi).2.2 _ hsp)⟩
    · simp only [hlen, hw, if_false]
      exact ⟨fun h => absurd h (by simp), fun _ => ⟨rfl, rfl, rfl⟩, fun _ => ⟨le_rfl, le_rfl⟩⟩

/-- What a computation reports and hands over, block by block (R140, R151 to R153, R155). -/
theorem recompute_eq (changed : Bool) {s : State} (hs : ∀ c ∈ s.act, c.value < 4294967296) :
    let c := s.computeCodes
    let t := recompute changed s
    t.pgn = (if changed = true ∨ s.lsc.laser ≠ .write then { s.pgn with presented := c.codes, waiting := none }
        else { s.pgn with waiting := some c.codes })
      ∧ t.sgq = (warnGoverning c s).sgq
      ∧ t.act = s.act.map (fun x => Counter.add .overdrive (s.sgq.governing.bind s.eventKey) (c.levels.countP (·.beyond))
          (Counter.add .clampCeiling (s.sgq.governing.bind s.eventKey) (c.levels.countP (·.clamped)) x))
      ∧ t.cpt.notices.overdrive = (s.cpt.notices.overdrive || c.levels.any (·.beyond))
      ∧ t.cpt.notices.diodeTrackLimit = (s.cpt.notices.diodeTrackLimit || (diodeLine s.plp.diode s.plp.temp).held)
      ∧ t = { s with
              sgq := t.sgq, pgn := t.pgn, act := t.act
              cpt := { s.cpt with notices :=
                { s.cpt.notices with
                  overdrive := t.cpt.notices.overdrive, diodeTrackLimit := t.cpt.notices.diodeTrackLimit
                  counterWrap := t.cpt.notices.counterWrap } } } := by
  intro c t
  let held : State := if (diodeLine s.plp.diode s.plp.temp).held then s.withNotices ({ · with diodeTrackLimit := true }) else s
  have hheld : held = { s with cpt := { s.cpt with notices :=
      { s.cpt.notices with diodeTrackLimit := s.cpt.notices.diodeTrackLimit || (diodeLine s.plp.diode s.plp.temp).held } } } := by
    show (if _ then _ else _) = _
    cases (diodeLine s.plp.diode s.plp.temp).held <;> simp [State.withNotices]
  have warned : warnGoverning c held = { held with sgq := (warnGoverning c s).sgq } := by
    rw [hheld]
    unfold warnGoverning
    dsimp only
    split <;> rfl
  have reported := reportLevels (s.sgq.governing.bind s.eventKey) c.levels (s := warnGoverning c held)
    (by rw [warned, hheld]; exact hs)
  have ht : t = handOver changed c.codes (c.levels.foldl (reportLevel (s.sgq.governing.bind s.eventKey)) (warnGoverning c held)) := rfl
  generalize c.levels.foldl (reportLevel (s.sgq.governing.bind s.eventKey)) (warnGoverning c held) = r at reported ht
  obtain ⟨hact, hover, hrest⟩ := reported
  rw [warned, hheld] at hact hover hrest
  have handed : t = { r with pgn := if changed = true ∨ s.lsc.laser ≠ .write then { s.pgn with presented := c.codes, waiting := none }
      else { s.pgn with waiting := some c.codes } } := by
    have hpgn : r.pgn = s.pgn := by rw [hrest]
    have hlsc : r.lsc = s.lsc := by rw [hrest]
    rw [ht, handOver, hlsc, hpgn]
    split <;> rfl
  clear_value t
  subst handed
  refine ⟨rfl, by rw [hrest], hact, hover, by rw [hrest], ?_⟩
  conv_lhs => rw [hrest]
  conv_rhs => rw [hrest]

/-- Settles O58, stage by stage. -/
theorem codesFollowTheStages : Obligations.CodesFollowTheStages := by
  unfold Obligations.CodesFollowTheStages
  refine ⟨fun n d hd => rnd_nearest n hd, diodeLine_values, fun line imax ceiling p q => ?_, fun p c hlo hhi => corrected_bounds p hlo hhi,
    fun s => ?_, fun changed s hs => ?_, fun s t => ?_⟩
  · intro c bounded current
    have code := levelCode_code line imax ceiling p
    have cast := currentFor_cast line bounded
    obtain ⟨clamped, beyond⟩ := levelCode_reports line imax ceiling p
    have above : line.ith ≤ currentFor line bounded := Nat.le_add_right _ _
    have hc : c = if bounded = 0 then 0 else if currentFor line bounded ≤ imax then currentFor line bounded
      else if line.ith ≤ imax then imax else 0 := code
    have hcur : (currentFor line bounded : Int) = current := cast
    have mono : p ≤ q → c ≤ (levelCode line imax ceiling q).code := levelCode_mono line imax ceiling
    have far : (levelCode line imax ceiling p).beyond = decide (bounded ≠ 0 ∧ (imax : Int) < current) := by
      rw [beyond, ← hcur]
      exact decide_eq_decide.mpr (and_congr_right fun _ => Int.ofNat_lt.symm)
    refine ⟨?_, ?_, ?_, mono, clamped, far⟩
    all_goals clear_value c bounded current
    · rw [hc]; split_ifs <;> omega
    · rw [hc]; split_ifs <;> omega
    · rw [hc]; split_ifs <;> omega
  · obtain ⟨dark, closed, order⟩ := computeCodes_values s
    refine ⟨dark, closed, order, computeCodes_bounded s, fun lim hlim => ?_⟩
    have eq := computeCodes_eq hlim
    intro line target
    have target_eq : s.readTarget lim.pd = target := by
      show _ = (s.sgq.governing.bind (·.captured)).getD _
      unfold State.readTarget
      cases s.sgq.governing.bind (·.captured) <;> rfl
    rw [target_eq] at eq
    refine ⟨fun hlen => ?_, fun e wc rest hw => ?_⟩
    · rw [eq]
      simp only [hlen, Bool.true_eq_false, if_false]
      split
      · split <;> rfl
      · rfl
    · have lit : s.lsc.len = true := by simp [Lsc.len, hw.1]
      rw [eq]
      simp only [lit, Bool.true_eq_false, if_false, hw.1, if_true, activeWrite_of_writing hw]
      exact ⟨rfl, rfl, rfl⟩
  · obtain ⟨hpgn, hsgq, hact, hover, hlimit, hrest⟩ := recompute_eq changed hs
    intro c levels key t
    have key_eq : s.sgq.governing.bind s.eventKey = key := by
      simp only [key]
      cases s.sgq.governing <;> rfl
    rw [key_eq] at hact
    have requester : t.sgq.requester = s.sgq.requester := by
      show (recompute changed s).sgq.requester = _
      rw [hsgq]
      unfold warnGoverning
      split <;> rfl
    refine ⟨hpgn, fun e rest hq hg => ?_, fun hg => ?_, hact, hover, hlimit, ?_⟩
    · have governing : s.sgq.governing = some e := by simp [Sgq.governing, hq, hg]
      show (recompute changed s).sgq.queue = _
      rw [hsgq, warnGoverning, governing]
      dsimp only
      rw [withHead_eq hq]
      rfl
    · show (recompute changed s).sgq.queue = _
      rw [hsgq, warnGoverning, hg]
    · refine hrest.trans ?_
      have whole : ({ s.sgq with queue := t.sgq.queue } : Sgq) = t.sgq := by
        change Sgq.mk t.sgq.queue s.sgq.requester = t.sgq
        rw [← requester]
      rw [whole]
  · intro due
    refine ⟨fun h => ?_, fun h => ?_⟩
    · have : recomputeDue s t = true := decide_eq_true h
      rw [settleCodes, if_pos this]
    · have : ¬ recomputeDue s t = true := fun hd => h (of_decide_eq_true hd)
      rw [settleCodes, if_neg this]

end Sys2Proof.Machine

end


section
/-! SUPPORT. Reading WDATA T by T: pulses and their merges, the train behind the one before it, and what each T of a run gives (O54). -/

namespace Sys2Proof.Machine

open Sys2Proof.Stated

/-! ### Pulses retained in order (R132) -/

/-- The edges of a pulse given by its rise and fall. -/
def pulseOf (p : Int × Int) : List Edge := [{ pos := p.1, level := .peak }, { pos := p.2, level := .cool }]

/-- Pulses that can follow a rise: each has a width, and none falls before that rise or the rise of a pulse before it. -/
structure Follow (rise : Int) (ps : List (Int × Int)) : Prop where
  wide : ∀ p ∈ ps, p.1 < p.2
  behind : ∀ p ∈ ps, rise < p.2
  order : ps.Pairwise fun p q => p.1 < q.2

theorem Follow.tail {rise : Int} {p : Int × Int} {ps : List (Int × Int)} (h : Follow rise (p :: ps)) : Follow rise ps :=
  ⟨fun q hq => h.wide q (List.mem_cons_of_mem _ hq), fun q hq => h.behind q (List.mem_cons_of_mem _ hq), h.order.of_cons⟩

theorem Follow.next {rise : Int} {p : Int × Int} {ps : List (Int × Int)} (h : Follow rise (p :: ps)) : Follow p.1 ps :=
  ⟨fun q hq => h.wide q (List.mem_cons_of_mem _ hq), (List.pairwise_cons.mp h.order).1, h.order.of_cons⟩

/-- The pairs dropped before add to the count. -/
theorem foldl_retain (es : List Edge) : ∀ (l : List Edge) (n : Nat),
    es.foldl retain (l, n) = ((es.foldl retain (l, 0)).1, n + (es.foldl retain (l, 0)).2) := by
  induction es with
  | nil => exact fun l n => rfl
  | cons e es ih =>
    have step : ∀ (l : List Edge) (n : Nat), retain (l, n) e = ((retain (l, 0) e).1, n + (retain (l, 0) e).2) := by
      intro l n
      cases l with
      | nil => rfl
      | cons top rest => simp only [retain]; split <;> rfl
    intro l n
    rw [List.foldl_cons, step, ih, List.foldl_cons, ih (retain (l, 0) e).1 (retain (l, 0) e).2, Nat.add_assoc]

/-- Pulses added behind a pulse merge with it or stand by themselves. -/
theorem retain_pulses : ∀ (ps : List (Int × Int)) (front : List Edge) (rise fall : Int), rise < fall → Follow rise ps →
    (ps.flatMap pulseOf).foldl retain ({ pos := fall, level := .cool } :: { pos := rise, level := .peak } :: front, 0)
      = ((outline rise fall ps).reverse ++ front, merges fall ps)
  | [], front, rise, fall, _, _ => rfl
  | (r, f) :: ps, front, rise, fall, hw, h => by
    have wide : r < f := h.wide _ List.mem_cons_self
    have behind : rise < f := h.behind _ List.mem_cons_self
    rw [List.flatMap_cons, List.foldl_append]
    by_cases hf : fall < r
    · have push : (pulseOf (r, f)).foldl retain ({ pos := fall, level := .cool } :: { pos := rise, level := .peak } :: front, 0)
          = ({ pos := f, level := .cool } :: { pos := r, level := .peak }
              :: { pos := fall, level := .cool } :: { pos := rise, level := .peak } :: front, 0) := by
        simp [pulseOf, retain, hf, wide]
      rw [push, retain_pulses ps _ r f wide h.next]
      simp [outline, merges, hf]
    · have pop : (pulseOf (r, f)).foldl retain ({ pos := fall, level := .cool } :: { pos := rise, level := .peak } :: front, 0)
          = ({ pos := f, level := .cool } :: { pos := rise, level := .peak } :: front, 1) := by
        simp [pulseOf, retain, hf, behind]
      rw [pop, foldl_retain, retain_pulses ps front rise f behind h.tail]
      simp [outline, merges, hf]

/-- A train of pulses, merges taken. -/
theorem retained_pulses {rise fall : Int} (hw : rise < fall) {ps : List (Int × Int)} (h : Follow rise ps) :
    retained (pulseOf (rise, fall) ++ ps.flatMap pulseOf) = (outline rise fall ps, merges fall ps) := by
  have first : (pulseOf (rise, fall)).foldl retain ([], 0) = ([{ pos := fall, level := .cool }, { pos := rise, level := .peak }], 0) := by
    simp [pulseOf, retain, hw]
  rw [retained, retainBehind, List.foldl_append]
  simp only [List.reverse_nil, first]
  rw [retain_pulses ps [] rise fall hw h]
  simp

/-! ### The outline of a train -/

theorem outline_head : ∀ (ps : List (Int × Int)) (rise fall : Int), ∃ more, outline rise fall ps = { pos := rise, level := .peak } :: more
    ∧ more ≠ []
  | [], rise, fall => ⟨_, rfl, nofun⟩
  | (r, f) :: ps, rise, fall => by
    unfold outline
    split
    · exact ⟨_, rfl, nofun⟩
    · exact outline_head ps rise f

/-- The last fall of a train. -/
def lastFall (fall : Int) (ps : List (Int × Int)) : Int := (ps.getLast?.map (·.2)).getD fall

theorem outline_last : ∀ (ps : List (Int × Int)) (rise fall : Int), ∃ front,
    outline rise fall ps = { pos := rise, level := .peak } :: front ++ [{ pos := lastFall fall ps, level := .cool }]
  | [], rise, fall => ⟨[], rfl⟩
  | (r, f) :: ps, rise, fall => by
    have last : lastFall fall ((r, f) :: ps) = lastFall f ps := by
      unfold lastFall
      cases ps with
      | nil => rfl
      | cons q qs => rw [List.getLast?_cons_cons]; cases h : (q :: qs).getLast? <;> simp_all
    rw [last]
    unfold outline
    split
    · obtain ⟨front, h⟩ := outline_last ps r f
      exact ⟨{ pos := fall, level := .cool } :: { pos := r, level := .peak } :: front, by rw [h]; rfl⟩
    · exact outline_last ps rise f

/-- The edges of a train ascend from its first rise. -/
theorem outline_ascends : ∀ (ps : List (Int × Int)) (rise fall : Int), rise < fall → Follow rise ps →
    (outline rise fall ps).Pairwise (·.pos < ·.pos) ∧ ∀ x ∈ outline rise fall ps, rise ≤ x.pos
  | [], rise, fall, hw, _ => by simp [outline, hw, hw.le]
  | (r, f) :: ps, rise, fall, hw, h => by
    have wide : r < f := h.wide _ List.mem_cons_self
    unfold outline
    split
    · rename_i hf
      obtain ⟨asc, low⟩ := outline_ascends ps r f wide h.next
      refine ⟨List.pairwise_cons.mpr ⟨fun x hx => ?_, List.pairwise_cons.mpr ⟨fun x hx => ?_, asc⟩⟩, fun x hx => ?_⟩
      · rcases List.mem_cons.mp hx with rfl | hx
        · exact hw
        · have := low x hx
          show rise < x.pos
          omega
      · have := low x hx
        show fall < x.pos
        omega
      · rcases List.mem_cons.mp hx with rfl | hx
        · exact le_rfl
        · rcases List.mem_cons.mp hx with rfl | hx
          · exact hw.le
          · have := low x hx; omega
    · exact outline_ascends ps rise f (h.behind _ List.mem_cons_self) h.tail

/-- A pulse moved along the timeline. -/
def moved (d : Int) (p : Int × Int) : Int × Int := (d + p.1, d + p.2)

theorem outline_moved (d : Int) : ∀ (ps : List (Int × Int)) (rise fall : Int),
    shiftEdges d (outline rise fall ps) = outline (d + rise) (d + fall) (ps.map (moved d))
      ∧ merges (d + fall) (ps.map (moved d)) = merges fall ps
  | [], rise, fall => by simp [outline, merges, shiftEdges, add_comm]
  | (r, f) :: ps, rise, fall => by
    obtain ⟨ho, hm⟩ := outline_moved d ps r f
    obtain ⟨ho', -⟩ := outline_moved d ps rise f
    have lt : d + fall < d + r ↔ fall < r := by omega
    simp only [List.map_cons, moved, outline, merges, lt]
    refine ⟨?_, by rw [← hm]⟩
    split
    · rw [← ho]; simp [shiftEdges, add_comm]
    · exact ho'

/-! ### The pulses of a strategy (R128, R129) -/

theorem shape_bounds {st : Strategy} (h : Safety.strategyInRange st = true) :
    (-16 ≤ st.dT ∧ st.dT ≤ 15) ∧ 4 ≤ st.tf ∧ 4 ≤ st.tm ∧ 4 ≤ st.tl ∧ st.tc ≤ 64 := by
  obtain ⟨-, shape, -⟩ := (strategyInRange_iff st).mp h
  have := of_decide_eq_true shape
  exact ⟨⟨this.1, this.2.1⟩, this.2.2.1, this.2.2.2.2.1, this.2.2.2.2.2.2.1, this.2.2.2.2.2.2.2.2⟩

theorem leadOf_bounds (st : Strategy) (n : Nat) : -16 ≤ leadOf st n ∧ leadOf st n ≤ 15 := by unfold leadOf; omega

theorem coolOf_bounds (st : Strategy) (n : Nat) : 0 ≤ coolOf st n ∧ coolOf st n ≤ 64 := by unfold coolOf; omega

theorem effective_eq {st : Strategy} (h : Safety.strategyInRange st = true) (n : Nat) :
    (effective st n).lead = leadOf st n ∧ (effective st n).cool = coolOf st n
      ∧ decide ((effective st n).holds ≠ 0) = decide (adjusted st n ≠ (leadOf st n, coolOf st n)) := by
  obtain ⟨⟨hlo, hhi⟩, -, -, -, htc⟩ := shape_bounds h
  unfold effective leadOf coolOf adjusted
  cases if 2 ≤ n ∧ n ≤ 8 then st.overrides.find? (fun o => o.len == n) else none with
  | none =>
    have lead : max (-16) (min 15 st.dT) = st.dT := by omega
    have cool : max 0 (min 64 (st.tc : Int)) = st.tc := by omega
    exact ⟨lead.symm, cool.symm, by simp only [lead, cool, ne_eq, not_true_eq_false]⟩
  | some o =>
    refine ⟨rfl, rfl, decide_eq_decide.mpr (not_congr ?_)⟩
    have kept : ((st.dT + o.lead, (st.tc : Int) + o.cool) = (hold (-16) 15 (st.dT + o.lead), hold 0 64 ((st.tc : Int) + o.cool)))
        ↔ hold (-16) 15 (st.dT + o.lead) = st.dT + o.lead ∧ hold 0 64 ((st.tc : Int) + o.cool) = (st.tc : Int) + o.cool := by
      rw [Prod.mk.injEq, eq_comm, eq_comm (a := (st.tc : Int) + o.cool)]
    refine Iff.trans ?_ kept.symm
    dsimp only
    split_ifs with h1 h2 h2
    · exact ⟨fun _ => ⟨h1, h2⟩, fun _ => rfl⟩
    · exact ⟨nofun, fun h => absurd h.2 h2⟩
    · exact ⟨nofun, fun h => absurd h.1 h1⟩
    · exact ⟨nofun, fun h => absurd h.1 h1⟩

/-- The pulses of a mark of `n` T behind its first one, from the mark's position (R129). -/
def laterPulses (st : Strategy) (n : Nat) : List (Int × Int) :=
  middlePulses st 0 (n - 3) ++ if 3 ≤ n then [lastPulse st 0 n] else []

theorem middlePulses_moved (st : Strategy) (start : Int) (k : Nat) : (middlePulses st 0 k).map (moved start) = middlePulses st start k := by
  simp only [middlePulses, List.map_map]
  exact List.map_congr_left fun j _ => by simp [moved, add_assoc]

theorem lastPulse_moved (st : Strategy) (start : Int) (n : Nat) : moved start (lastPulse st 0 n) = lastPulse st start n := by
  simp [moved, lastPulse, add_assoc]

theorem openingEdges_eq (st : Strategy) (lead : Int) (k : Nat) :
    openingEdges st lead k = pulseOf (lead, lead + st.tf) ++ (middlePulses st 0 k).flatMap pulseOf := by
  unfold openingEdges middlePulses
  rw [List.flatMap_map]
  simp only [zero_add]
  rfl

theorem nominalEdges_eq (st : Strategy) (lead : Int) (n : Nat) :
    nominalEdges st lead n = pulseOf (lead, lead + st.tf) ++ (laterPulses st n).flatMap pulseOf := by
  unfold nominalEdges laterPulses
  rw [openingEdges_eq, List.flatMap_append, List.append_assoc]
  congr 2
  split
  · simp [lastPulse, pulseOf, pulse]
  · rfl

section
variable {st : Strategy} (h : Safety.strategyInRange st = true)
include h

theorem middle_follow {lead : Int} (hl : lead ≤ 15) (k : Nat) : Follow lead (middlePulses st 0 k) := by
  obtain ⟨-, -, htm, -, -⟩ := shape_bounds h
  have mem : ∀ p ∈ middlePulses st 0 k, ∃ j < k, p = (32 * ((j : Int) + 2), 32 * ((j : Int) + 2) + st.tm) := by
    intro p hp
    obtain ⟨j, hj, rfl⟩ := List.mem_map.mp hp
    exact ⟨j, List.mem_range.mp hj, by simp⟩
  refine ⟨fun p hp => ?_, fun p hp => ?_, ?_⟩
  · obtain ⟨j, -, rfl⟩ := mem p hp
    show 32 * ((j : Int) + 2) < 32 * ((j : Int) + 2) + st.tm
    omega
  · obtain ⟨j, -, rfl⟩ := mem p hp
    show lead < 32 * ((j : Int) + 2) + st.tm
    omega
  · refine List.Pairwise.map _ (fun a b (hab : a < b) => ?_) List.pairwise_lt_range
    show 0 + 32 * ((a : Int) + 2) < 0 + 32 * ((b : Int) + 2) + st.tm
    omega

theorem later_follow {lead : Int} (hl : lead ≤ 15) (n : Nat) : Follow lead (laterPulses st n) := by
  obtain ⟨-, -, htm, htl, -⟩ := shape_bounds h
  obtain ⟨wide, behind, order⟩ := middle_follow h hl (n - 3)
  unfold laterPulses
  split
  · rename_i hn
    refine ⟨fun p hp => ?_, fun p hp => ?_, List.pairwise_append.mpr ⟨order, List.pairwise_singleton _ _, fun p hp q hq => ?_⟩⟩
    · rcases List.mem_append.mp hp with hp | hp
      · exact wide p hp
      · obtain rfl := List.mem_singleton.mp hp
        show 0 + 32 * ((n : Int) - 1) < 0 + 32 * ((n : Int) - 1) + st.tl
        omega
    · rcases List.mem_append.mp hp with hp | hp
      · exact behind p hp
      · obtain rfl := List.mem_singleton.mp hp
        show lead < 0 + 32 * ((n : Int) - 1) + st.tl
        omega
    · obtain ⟨j, hj, rfl⟩ := List.mem_map.mp hp
      obtain rfl := List.mem_singleton.mp hq
      have := List.mem_range.mp hj
      show 0 + 32 * ((j : Int) + 2) < 0 + 32 * ((n : Int) - 1) + st.tl
      omega
  · simpa using ⟨wide, behind, order⟩

end

/-! ### What a T gives the queue and the counters (R141) -/

theorem repeat_shift {α : Type} (f : α → α) : ∀ (k : Nat) (a : α), Nat.repeat f k (f a) = f (Nat.repeat f k a)
  | 0, _ => rfl
  | k + 1, a => congrArg f (repeat_shift f k a)

theorem countTimes_eq (ev : CounterEvent) (key : Option Key) : ∀ (k : Nat) (s : State),
    countTimes ev key k s = Nat.repeat (countEvent ev key 1) k s
  | 0, _ => rfl
  | k + 1, s => by rw [countTimes, countTimes_eq ev key k, repeat_shift]; rfl

theorem repeat_withPgn (ev : CounterEvent) (key : Option Key) (g : Pgn) : ∀ (k : Nat) (s : State),
    { Nat.repeat (countEvent ev key 1) k s with pgn := g } = Nat.repeat (countEvent ev key 1) k { s with pgn := g }
  | 0, _ => rfl
  | k + 1, s => by
    show countEvent ev key 1 { Nat.repeat (countEvent ev key 1) k s with pgn := g } = _
    rw [repeat_withPgn ev key g k s]
    rfl

section
variable {s : State} {e : Entry} {wc : WorkingCopy} {rest : List Entry}

theorem tookT_withPgn (shape : Bool) (k : Nat) (g g' : Pgn) :
    ({ tookT e wc rest shape k g s with pgn := g' } : State) = tookT e wc rest shape k g' s := by
  unfold tookT; rw [repeat_withPgn]

theorem tookT_pgn (shape : Bool) (k : Nat) (g : Pgn) : (tookT e wc rest shape k g s).pgn = g := by
  have kept : ∀ (n : Nat) (u : State), (Nat.repeat (countEvent .edgeCollide (some wc.key) 1) n u).pgn = u.pgn := by
    intro n u
    induction n with
    | zero => rfl
    | succ n ih => exact ih
  rw [tookT, kept]

theorem reportCollisions_eq (hq : s.sgq.queue = e :: rest) (shape : Bool) (k : Nat) (g : Pgn) :
    reportCollisions wc shape k { s with pgn := g } = tookT e wc rest shape k g s := by
  unfold reportCollisions tookT
  rw [countTimes_eq]
  congr 1
  by_cases h : shape = true ∨ k ≠ 0
  · rw [if_pos h, warnShape, withHead_eq (s := { s with pgn := g }) hq]
    have : (e.warnings.shape || shape || decide (k ≠ 0)) = true := by rcases h with h | h <;> simp [h]
    rw [this]
    rfl
  · rw [if_neg h]
    push Not at h
    obtain ⟨h1, rfl⟩ := h
    have : (e.warnings.shape || shape || decide ((0 : Nat) ≠ 0)) = e.warnings.shape := by simp [h1]
    rw [this]
    show _ = ({ queued (e :: rest) s with pgn := g } : State)
    rw [queued, ← hq]

/-! ### The train behind the one before it (R133) -/

theorem meetTail_eq (g : Pgn) (rise : Int) {train : List Edge} (ht : ∃ more, train = { pos := rise, level := .peak } :: more) :
    meetTail g.edges g.tail train = addTrain g rise train := by
  obtain ⟨more, rfl⟩ := ht
  unfold addTrain
  obtain ⟨hnone, h⟩ | ⟨t, ht, h⟩ := meetTail_cases g.edges g.tail { pos := rise, level := .peak } more
  · rw [h, hnone]
  · rw [ht]
    rw [ht] at h
    obtain ⟨h1, h⟩ | ⟨h1, h2, h⟩ | ⟨h1, h2, h⟩ := h
    · rw [h]; simp only; rw [if_pos h1]; rfl
    · rw [h]; simp only; rw [if_neg (by exact not_le.mpr h1), if_pos h2]
    · rw [h]; simp only; rw [if_neg (by exact not_le.mpr h1), if_neg (by exact not_lt.mpr h2)]

/-- A train added keeps its last edge. -/
theorem addTrain_last (g : Pgn) (rise : Int) (first : Edge) (front : List Edge) (last : Edge) :
    (addTrain g rise (first :: front ++ [last])).1.getLast? = some last := by
  have ends : (first :: front ++ [last]).getLast? = some last := List.getLast?_concat
  unfold addTrain
  split
  · rw [List.getLast?_append, ends]; rfl
  · split
    · rw [List.getLast?_append, List.cons_append, List.drop_succ_cons, List.drop_zero, List.getLast?_concat]; rfl
    · split <;> rw [List.getLast?_append, ends] <;> rfl

end

/-! ### What each T gives -/

section
variable {s : State} {e : Entry} {wc : WorkingCopy} {rest : List Entry}

/-- The next T of a write, once every output before its boundary has come (R126). -/
theorem exec_markRead (hw : writing s e wc rest) (hnext : ∀ p ∈ upcoming s.pgn, 32 * ((s.pgn.read : Int) - 9) ≤ p) (w : Bool) :
    exec (.markRead w 1) s = .next (readT wc w s) := by
  change Host.Outcome.next (boundary w s) = _
  have due : s.pgn.outputDue = false := (outputDue_iff s.pgn).mpr hnext
  unfold boundary
  simp only [hw.1, activeWrite_of_writing hw, due, Bool.false_eq_true, if_false]

theorem readEarly_iff (g : Pgn) (mid : Int) :
    g.readEarly mid = true ↔ ∃ r, g.early = some r ∧ 32 * ((r : Int) - 10) ≤ mid ∧ mid < 32 * ((r : Int) - 9) := by
  unfold Pgn.readEarly
  cases g.early <;> simp

/-- The peak sample's place in a pulse (R137). -/
theorem half_width (tf : Nat) : rnd tf 2 = ((tf + 1) / 2 : Nat) := by
  unfold rnd; omega

/-- The mark of 2T to 8T that ends as T number `i` (R128, R129, R132, R133). -/
theorem buildTrain_eq (hq : s.sgq.queue = e :: rest) (hst : Safety.strategyInRange wc.strat = true) (start : Int) {n : Nat} (g : Pgn)
    (hg : g.edges = s.pgn.edges ∧ g.tail = s.pgn.tail) :
    let st := wc.strat
    let cool := coolOf st n
    let first := firstPulse st start n
    let more := (laterPulses st n).map (moved start)
    let fall := lastFall first.2 more
    let placed := addTrain s.pgn first.1 (outline first.1 first.2 more)
    buildTrain wc start n { s with pgn := g } = tookT e wc rest (decide (adjusted st n ≠ (leadOf st n, cool))) (merges first.2 more + placed.2)
      { g with
        edges := withCool placed.1 fall cool, tail := some { fall, gapEnd := fall + cool }
        peaks := if 32 ≤ st.tf then g.peaks ++ [start + leadOf st n + ((st.tf + 1) / 2 : Nat)] else g.peaks
        returns := if 6 ≤ n then g.returns ++ [start + 32 * ((n : Int) - 1)] else g.returns } s := by
  intro st cool first more fall placed
  obtain ⟨hlead, hcool, hholds⟩ := effective_eq hst n
  have htf : 4 ≤ st.tf := (shape_bounds hst).2.1
  obtain ⟨-, hl⟩ := leadOf_bounds st n
  have train := retained_pulses (rise := leadOf st n) (fall := leadOf st n + st.tf) (by omega) (later_follow hst hl n)
  obtain ⟨placedAt, merged⟩ := outline_moved start (laterPulses st n) (leadOf st n) (leadOf st n + st.tf)
  have first_eq : start + (leadOf st n + st.tf) = first.2 := (add_assoc _ _ _).symm
  rw [first_eq] at placedAt merged
  have shifted : shiftEdges start (retained (nominalEdges st (leadOf st n) n)).1 = outline first.1 first.2 more := by
    rw [nominalEdges_eq, train]; exact placedAt
  have dropped : (retained (nominalEdges st (leadOf st n) n)).2 = merges first.2 more := by
    rw [nominalEdges_eq, train]; exact merged.symm
  have met : meetTail g.edges g.tail (outline first.1 first.2 more) = placed := by
    obtain ⟨l, hl, -⟩ := outline_head more first.1 first.2
    rw [hg.1, hg.2]
    exact meetTail_eq s.pgn first.1 ⟨l, hl⟩
  have last : placed.1.getLast? = some { pos := fall, level := .cool } := by
    obtain ⟨front, hf⟩ := outline_last more first.1 first.2
    show (addTrain s.pgn first.1 (outline first.1 first.2 more)).1.getLast? = _
    rw [hf]
    exact addTrain_last s.pgn first.1 _ front _
  unfold buildTrain
  dsimp only
  rw [hlead, hcool, hholds, shifted, dropped, met]
  have closed : ({ g with edges := placed.1 } : Pgn).closeTrain cool
      = { g with edges := withCool placed.1 fall cool, tail := some { fall, gapEnd := fall + cool } } := by
    unfold Pgn.closeTrain
    simp only [last, Option.map_some, Option.getD_some]
    rfl
  have reported := reportCollisions_eq (wc := wc) hq (decide (adjusted st n ≠ (leadOf st n, cool))) (merges first.2 more + placed.2)
    (Pgn.expectReturn start n (Pgn.expectPeak st start (leadOf st n) (({ g with edges := placed.1 } : Pgn).closeTrain cool)))
  refine reported.trans ?_
  rw [closed, Pgn.expectReturn, Pgn.expectPeak, half_width]

/-- The ninth T of a mark: its first pulse and the middle pulses known by then (R131). -/
theorem openLong_eq (hq : s.sgq.queue = e :: rest) (hst : Safety.strategyInRange wc.strat = true) (start : Int) (g : Pgn)
    (hg : g.edges = s.pgn.edges ∧ g.tail = s.pgn.tail) :
    let st := wc.strat
    let opening := firstPulse st start 9
    let more := middlePulses st start 6
    let placed := addTrain s.pgn opening.1 (outline opening.1 opening.2 more)
    openLong wc start { s with pgn := g } = countEvent .longMark (some wc.key) 1
      (tookT e wc rest true (merges opening.2 more + placed.2)
        { g with
          edges := placed.1
          peaks := if 32 ≤ st.tf then g.peaks ++ [start + leadOf st 9 + ((st.tf + 1) / 2 : Nat)] else g.peaks } s) := by
  intro st opening more placed
  obtain ⟨hlead, -, -⟩ := effective_eq hst 9
  have htf : 4 ≤ st.tf := (shape_bounds hst).2.1
  obtain ⟨-, hl⟩ := leadOf_bounds st 9
  have train := retained_pulses (rise := leadOf st 9) (fall := leadOf st 9 + st.tf) (by omega) (middle_follow hst hl 6)
  obtain ⟨placedAt, merged⟩ := outline_moved start (middlePulses st 0 6) (leadOf st 9) (leadOf st 9 + st.tf)
  have first_eq : start + (leadOf st 9 + st.tf) = opening.2 := (add_assoc _ _ _).symm
  rw [first_eq, middlePulses_moved] at placedAt merged
  have shifted : shiftEdges start (retained (openingEdges st (leadOf st 9) 6)).1 = outline opening.1 opening.2 more := by
    rw [openingEdges_eq, train]; exact placedAt
  have dropped : (retained (openingEdges st (leadOf st 9) 6)).2 = merges opening.2 more := by
    rw [openingEdges_eq, train]; exact merged.symm
  have met : meetTail g.edges g.tail (outline opening.1 opening.2 more) = placed := by
    obtain ⟨l, hl, -⟩ := outline_head more opening.1 opening.2
    rw [hg.1, hg.2]
    exact meetTail_eq s.pgn opening.1 ⟨l, hl⟩
  unfold openLong
  dsimp only
  rw [hlead, shifted, dropped, met]
  refine congrArg (countEvent .longMark (some wc.key) 1) ((reportCollisions_eq hq true _ _).trans ?_)
  rw [Pgn.expectPeak, half_width]

/-- A later pulse of a long mark merges with the one before it or stands by itself (R132). -/
theorem addPulse_eq (hq : s.sgq.queue = e :: rest) (rise : Int) {width : Nat} (hwidth : 0 < width) (g : Pgn) {front : List Edge} {last : Edge}
    (hg : g.edges = front ++ [last]) (hfront : ∀ x ∈ front.getLast?, x.pos < rise + width) :
    addPulse wc rise width { s with pgn := g } = tookT e wc rest false (addPulseTo front last (rise, rise + width)).2
      { g with edges := (addPulseTo front last (rise, rise + width)).1 } s := by
  have pulseAdded : retainBehind g.edges (pulse rise width) = addPulseTo front last (rise, rise + width) := by
    rw [hg, retainBehind_pulse front last rise width hwidth hfront]
    rfl
  unfold addPulse
  dsimp only
  rw [pulseAdded]
  exact reportCollisions_eq hq false _ _

theorem addPulseTo_last (front : List Edge) (last : Edge) (p : Int × Int) :
    (addPulseTo front last p).1.getLast? = some { pos := p.2, level := .cool } := by
  unfold addPulseTo
  split <;> simp

/-- The end of a long mark: its last pulse, its cool gap and its return sample (R129, R131, R138). -/
theorem closeLong_eq (hq : s.sgq.queue = e :: rest) (hst : Safety.strategyInRange wc.strat = true) (start : Int) (n : Nat) (g : Pgn)
    {front : List Edge} {last : Edge} (hg : g.edges = front ++ [last])
    (hfront : ∀ x ∈ front.getLast?, x.pos < (lastPulse wc.strat start n).2) :
    let p := lastPulse wc.strat start n
    let cool := coolOf wc.strat n
    closeLong wc start n { s with pgn := g } = tookT e wc rest false (addPulseTo front last p).2
      { g with
        edges := withCool (addPulseTo front last p).1 p.2 cool, tail := some { fall := p.2, gapEnd := p.2 + cool }
        returns := if 6 ≤ n then g.returns ++ [start + 32 * ((n : Int) - 1)] else g.returns } s := by
  intro p cool
  have added := addPulse_eq (wc := wc) hq (start + 32 * ((n : Int) - 1)) (width := wc.strat.tl)
    (by have : 4 ≤ wc.strat.tl := (shape_bounds hst).2.2.2.1; omega) g hg hfront
  have last_eq := addPulseTo_last front last p
  obtain ⟨-, hcool, -⟩ := effective_eq hst n
  unfold closeLong
  rw [added]
  dsimp only
  rw [tookT_pgn, tookT_withPgn, hcool]
  congr 1
  unfold Pgn.expectReturn Pgn.closeTrain
  simp only
  rw [show (addPulseTo front last (start + 32 * ((n : Int) - 1), start + 32 * ((n : Int) - 1) + wc.strat.tl)).1.getLast?
    = some { pos := p.2, level := .cool } from last_eq]
  rfl

end

theorem laterPulses_moved (st : Strategy) (start : Int) {n : Nat} (hn : 2 ≤ n) : (laterPulses st n).map (moved start)
    = if n = 2 then [] else middlePulses st start (n - 3) ++ [lastPulse st start n] := by
  unfold laterPulses
  rw [List.map_append, middlePulses_moved]
  by_cases h : n = 2
  · subst h; rfl
  · rw [if_neg h, if_pos (by omega), List.map_singleton, lastPulse_moved]

/-- A train that meets nothing: its edges ascend from the first rise to the end of its cool gap. -/
theorem withCool_ascends {rise fall : Int} (hw : rise < fall) {ps : List (Int × Int)} (h : Follow rise ps) {cool : Int} (hc : 0 ≤ cool) :
    let edges := withCool (outline rise fall ps) (lastFall fall ps) cool
    edges.Pairwise (·.pos < ·.pos) ∧ edges.head? = some { pos := rise, level := .peak }
      ∧ edges.getLast? = some { pos := lastFall fall ps + cool, level := .space } := by
  intro edges
  obtain ⟨asc, -⟩ := outline_ascends ps rise fall hw h
  obtain ⟨front, hl⟩ := outline_last ps rise fall
  have edges_eq : edges = withCool ({ pos := rise, level := .peak } :: front ++ [{ pos := lastFall fall ps, level := .cool }])
      (lastFall fall ps) cool := by rw [← hl]
  rw [hl] at asc
  rw [edges_eq]
  unfold withCool
  split
  · rename_i h0
    rw [List.dropLast_concat]
    refine ⟨?_, rfl, by rw [List.getLast?_concat, h0, add_zero]⟩
    rw [← List.pairwise_map (f := Edge.pos)] at asc ⊢
    simpa using asc
  · refine ⟨List.pairwise_append.mpr ⟨asc, List.pairwise_singleton _ _, fun x hx y hy => ?_⟩, rfl, List.getLast?_concat⟩
    obtain rfl := List.mem_singleton.mp hy
    show x.pos < lastFall fall ps + cool
    rcases List.mem_append.mp hx with hx | hx
    · have : x.pos < lastFall fall ps := (List.pairwise_append.mp asc).2.2 x hx _ List.mem_cons_self
      omega
    · obtain rfl := List.mem_singleton.mp hx
      show lastFall fall ps < lastFall fall ps + cool
      omega

theorem follow_moved (d : Int) {rise : Int} {ps : List (Int × Int)} (h : Follow rise ps) : Follow (d + rise) (ps.map (moved d)) := by
  refine ⟨fun p hp => ?_, fun p hp => ?_, List.pairwise_map.mpr (h.order.imp fun hab => ?_)⟩
  · obtain ⟨q, hq, rfl⟩ := List.mem_map.mp hp
    have := h.wide q hq
    show d + q.1 < d + q.2
    omega
  · obtain ⟨q, hq, rfl⟩ := List.mem_map.mp hp
    have := h.behind q hq
    show d + rise < d + q.2
    omega
  · show d + _ < d + _
    omega

/-! ### A T goes on with a run of WDATA or begins the next (R126) -/

/-- The generator with T number `read` read, and the run one T longer. -/
def Pgn.longer (g : Pgn) : Pgn := { g with read := g.read + 1, run := { g.run with len := g.run.len + 1 } }

/-- The generator with T number `read` read as the first of a space. -/
def Pgn.spaceBegun (g : Pgn) : Pgn := { g with read := g.read + 1, run := { mark := false, len := 1, own := true } }

section
variable {s : State} {wc : WorkingCopy}

theorem readT_begins (h : s.pgn.run.mark = false) :
    readT wc true s = { s with pgn := Pgn.beginMark s.pgn.read { s.pgn with read := s.pgn.read + 1 } } := by
  simp only [readT, h]

theorem readT_space (h : s.pgn.run.mark = false) : readT wc false s = { s with pgn := s.pgn.longer } := by
  simp only [readT, h, Pgn.longer]

theorem readT_mark (h : s.pgn.run.mark = true) :
    readT wc true s = if s.pgn.run.own = true then growMark wc s.pgn.read (s.pgn.run.len + 1) { s with pgn := s.pgn.longer }
      else { s with pgn := s.pgn.longer } := by
  simp only [readT, h, Pgn.longer]

theorem readT_ends (h : s.pgn.run.mark = true) :
    readT wc false s = if s.pgn.run.own = true then endMark wc s.pgn.read s.pgn.run.len { s with pgn := s.pgn.spaceBegun }
      else { s with pgn := s.pgn.spaceBegun } := by
  simp only [readT, h, Pgn.spaceBegun]

end

theorem lastFall_eq (st : Strategy) (start fall : Int) (n : Nat) :
    lastFall fall (if n = 2 then [] else middlePulses st start (n - 3) ++ [lastPulse st start n])
      = if n = 2 then fall else (lastPulse st start n).2 := by
  unfold lastFall
  split
  · rfl
  · rw [List.getLast?_concat]; rfl

section
variable {s : State} {e : Entry} {wc : WorkingCopy} {rest : List Entry}

/-- The end of a mark of 2T to 8T adds its train. -/
theorem exec_markEnds (hw : writing s e wc rest) (hnext : ∀ p ∈ upcoming s.pgn, 32 * ((s.pgn.read : Int) - 9) ≤ p)
    (hmark : s.pgn.run.mark = true) (hown : s.pgn.run.own = true) (h2 : 2 ≤ s.pgn.run.len) (h8 : s.pgn.run.len ≤ 8)
    (hst : Safety.strategyInRange wc.strat = true) :
    let st := wc.strat
    let n := s.pgn.run.len
    let start : Int := 32 * ((s.pgn.read : Int) - n)
    let cool := coolOf st n
    let first := firstPulse st start n
    let more := if n = 2 then [] else middlePulses st start (n - 3) ++ [lastPulse st start n]
    let fall := if n = 2 then first.2 else (lastPulse st start n).2
    let placed := addTrain s.pgn first.1 (outline first.1 first.2 more)
    exec (.markRead false 1) s = .next (tookT e wc rest (decide (adjusted st n ≠ (leadOf st n, cool))) (merges first.2 more + placed.2)
      { s.pgn.spaceBegun with
        lastEnd := some s.pgn.read, edges := withCool placed.1 fall cool, tail := some { fall, gapEnd := fall + cool }
        peaks := if 32 ≤ st.tf then s.pgn.peaks ++ [start + leadOf st n + ((st.tf + 1) / 2 : Nat)] else s.pgn.peaks
        returns := if 6 ≤ n then s.pgn.returns ++ [start + 32 * ((n : Int) - 1)] else s.pgn.returns } s) := by
  intro st n start cool first more fall placed
  have built := buildTrain_eq hw.2.1 hst start (n := n) { s.pgn.spaceBegun with lastEnd := some s.pgn.read } ⟨rfl, rfl⟩
  dsimp only at built
  rw [laterPulses_moved wc.strat start h2, lastFall_eq] at built
  rw [exec_markRead hw hnext, readT_ends hmark, if_pos hown, endMark, if_neg (Nat.not_lt.mpr h2), if_pos h8]
  exact congrArg Host.Outcome.next built

end

/-- Settles O54, by the level of the T read and the run it goes on or ends. -/
theorem marksBecomeTrains : Obligations.MarksBecomeTrains := by
  unfold Obligations.MarksBecomeTrains
  refine ⟨fun w s => ⟨rfl, fun n t ht => ?_⟩, fun s w hno => ?_, fun s e wc rest hw => ?_⟩
  · obtain rfl : boundary w s = t := Host.Outcome.next.inj ht
    rfl
  · change Host.Outcome.next (boundary w s) = _
    obtain ⟨h, -⟩ | ⟨hl, e, wc, ha, -⟩ := boundary_cases w s
    · rw [h]
    · rcases hno with h | h
      · exact absurd hl h
      · rw [h] at ha; cases ha
  intro i
  have hq : s.sgq.queue = e :: rest := hw.2.1
  refine ⟨fun hearly w => ?_, fun hnext => ?_, fun t ht hnext hmark hown h2 h8 hst hedges htail => ?_⟩
  · change Host.Outcome.next (boundary w s) = _
    have due : s.pgn.outputDue = true := by
      rw [← Bool.not_eq_false, outputDue_iff]
      obtain ⟨p, hp, hlt⟩ := hearly
      exact fun h => by have := h p hp; omega
    unfold boundary
    simp only [hw.1, activeWrite_of_writing hw, due, if_true]
  · intro run st longer spaceBegun ended takes
    have read := exec_markRead hw hnext
    refine ⟨fun hmark => ?_, fun hmark => ?_, fun hmark hshort => ?_, fun hmark hown => ?_, fun hmark hown hlen => ?_,
      fun hmark hown hlen hst => ?_⟩
    · intro begun
      have began : exec (.markRead true 1) s = .next { s with pgn := Pgn.beginMark i { s.pgn with read := i + 1 } } := by
        rw [read, readT_begins hmark]
      rw [began]
      refine ⟨fun last hlast hlong => ?_, fun hshort => ?_⟩
      · intro mid readBefore
        have early : ({ s.pgn with read := i + 1 } : Pgn).readEarly mid = true ↔ readBefore := readEarly_iff _ mid
        obtain ⟨l, hl, -, h⟩ | ⟨h, -⟩ := beginMark_cases i { s.pgn with read := i + 1 }
        · obtain rfl : last = l := Option.some.inj (hlast.symm.trans hl)
          rw [h]
          refine ⟨fun hr => ?_, fun hr => ?_⟩
          · rw [if_pos (early.mpr hr)]
          · rw [if_neg (fun h => hr (early.mp h))]
        · have := h last hlast
          omega
      · obtain ⟨l, hl, hlong, -⟩ | ⟨-, h⟩ := beginMark_cases i { s.pgn with read := i + 1 }
        · have := hshort l hl
          omega
        · rw [h]
    · rw [read, readT_space hmark]; rfl
    · rw [read, readT_mark hmark]
      rcases hshort with h | h
      · rw [if_neg (Bool.eq_false_iff.mp h)]; rfl
      · have short : s.pgn.run.len + 1 < 9 := Nat.succ_lt_succ h
        rw [growMark, if_pos short, ite_self]
        rfl
    · rw [read, readT_ends hmark, if_neg (Bool.eq_false_iff.mp hown)]; rfl
    · have short : s.pgn.run.len < 2 := by show run.len < 2; omega
      rw [read, readT_ends hmark, if_pos hown, endMark, if_pos short, skipMark, warnShape]
      exact congrArg (fun u => Host.Outcome.next (countEvent .shortMark (some wc.key) 1 u))
        (withHead_eq (s := { s with pgn := ended }) hq _)
    · intro n start cool held first sampled returned
      refine ⟨fun h8 => exec_markEnds hw hnext hmark hown hlen h8 hst, fun h8 => ?_, fun front last h9 hedges => ⟨fun hfront => ?_, fun hfront => ?_⟩⟩
      · have ninth : s.pgn.run.len + 1 = 9 := congrArg (· + 1) h8
        have start_eq : 32 * ((s.pgn.read : Int) + 1 - ((9 : Nat) : Int)) = start := by
          show _ = 32 * ((s.pgn.read : Int) - (n : Int)); omega
        intro opening more placed
        rw [read, readT_mark hmark, if_pos hown, growMark, if_neg (by omega), if_pos ninth, ninth, start_eq]
        exact congrArg Host.Outcome.next (openLong_eq hq hst start s.pgn.longer ⟨rfl, rfl⟩)
      · have later : 9 < s.pgn.run.len + 1 := Nat.lt_succ_of_le h9
        have rise_eq : 32 * ((s.pgn.read : Int) + 1 - ((s.pgn.run.len + 1 : Nat) : Int)) + 32 * (((s.pgn.run.len + 1 : Nat) : Int) - 2)
            = start + 32 * ((n : Int) - 1) := by
          show _ = 32 * ((s.pgn.read : Int) - (n : Int)) + 32 * ((n : Int) - 1)
          have : n = s.pgn.run.len := rfl
          omega
        show exec (.markRead true 1) s = _
        have wide : 0 < wc.strat.tm := by have : 4 ≤ wc.strat.tm := (shape_bounds hst).2.2.1; omega
        rw [read, readT_mark hmark, if_pos hown, growMark, if_neg (by omega), if_neg (by omega), rise_eq]
        exact congrArg Host.Outcome.next (addPulse_eq hq _ wide s.pgn.longer hedges hfront)
      · have long : 8 < s.pgn.run.len := Nat.lt_of_succ_le h9
        show exec (.markRead false 1) s = _
        rw [read, readT_ends hmark, if_pos hown, endMark, if_neg (by omega), if_neg (by omega)]
        exact congrArg Host.Outcome.next (closeLong_eq hq hst start n { s.pgn.spaceBegun with lastEnd := some s.pgn.read } hedges hfront)
  · intro n start fall
    have ends := exec_markEnds hw hnext hmark hown h2 h8 hst
    dsimp only at ends
    obtain rfl := Host.Outcome.next.inj (ht.symm.trans ends)
    obtain ⟨-, htf, -⟩ := shape_bounds hst
    obtain ⟨-, hlead⟩ := leadOf_bounds wc.strat n
    obtain ⟨hcool, -⟩ := coolOf_bounds wc.strat n
    have follow := follow_moved start (later_follow (st := wc.strat) hst hlead n)
    rw [laterPulses_moved wc.strat start h2] at follow
    have ascends := withCool_ascends (rise := (firstPulse wc.strat start n).1) (fall := (firstPulse wc.strat start n).2)
      (by show start + leadOf wc.strat n < start + leadOf wc.strat n + wc.strat.tf; omega) follow hcool
    have fall_eq : (if n = 2 then (firstPulse wc.strat start n).2 else (lastPulse wc.strat start n).2) = fall := by
      show _ = start + if n = 2 then _ else _
      split
      · exact add_assoc _ _ _
      · exact add_assoc _ _ _
    rw [lastFall_eq, fall_eq] at ascends
    rw [tookT_pgn]
    dsimp only
    unfold addTrain
    rw [hedges, htail, fall_eq]
    obtain ⟨asc, hhead, hlast⟩ := ascends
    exact ⟨asc, hhead, hlast, rfl⟩

end Sys2Proof.Machine

end


section
/-! SUPPORT. Write-backs at the sources: what each leaves of a record, which notices it raises, and WRITE_BACK (O48). -/

namespace Sys2Proof.Machine

open Sys2Proof.Stated

/-! ### Notices of a write-back (R70, R72) -/

/-- Whether a tally takes the record across its age threshold (R9, R70). -/
def Record.crossing (tally : Nat) (r : Record) : Bool :=
  crosses r.ageThreshold r.onTime (addOnTime r.onTime tally) && decide (r.state ≠ .retiring)

theorem crossing_iff (tally : Nat) (r : Record) : r.crossing tally = true ↔
    r.ageThreshold ≠ 0 ∧ r.onTime < r.ageThreshold ∧ r.ageThreshold ≤ min 16777215 (r.onTime + tally) ∧ r.state ≠ .retiring := by
  unfold Record.crossing crosses addOnTime Config.maxOnTime
  rw [Bool.and_eq_true, decide_eq_true_eq, decide_eq_true_eq]
  exact ⟨fun ⟨⟨h1, h2, h3⟩, h4⟩ => ⟨h1, h2, h3, h4⟩, fun ⟨h1, h2, h3, h4⟩ => ⟨⟨h1, h2, h3⟩, h4⟩⟩

/-- The key that AGED gets when the tally is added to the source `h`. -/
def agedBy (tally : Nat) (h : Handle) (s : State) : Option Key := ((s.record h.index).filter (·.crossing tally)).map (·.key)

theorem agedBy_eq_some {tally : Nat} {h : Handle} {s : State} {k : Key} :
    agedBy tally h s = some k ↔ ∃ r, s.record h.index = some r ∧ r.crossing tally = true ∧ r.key = k := by
  unfold agedBy
  simp only [Option.map_eq_some_iff, Option.filter_eq_some_iff, and_assoc]

/-- Of the notices, a tally added to a source can raise AGED alone. -/
theorem addTally_notices (h : Handle) (tally : Nat) (s : State) :
    (addTally h.index tally s).cpt.notices = { s.cpt.notices with aged := (agedBy tally h s).or s.cpt.notices.aged } := by
  unfold addTally agedBy
  cases s.record h.index with
  | none => rfl
  | some r =>
    dsimp only
    rw [Option.filter_some]
    unfold Record.crossing
    split <;> rfl

/-- Of the notices, a correction stored in a source can raise SUSPECT alone. -/
theorem storeCorrection_notices (h : Handle) (corr : Int) (limit : Bool) (s : State) :
    ∃ k, (storeCorrection h corr limit s).cpt.notices = { s.cpt.notices with suspect := k }
      ∧ ∀ r, s.record h.index = some r → s.gens[h.index]? = some h.gen → limit = true → r.usable = true → k = some r.key := by
  have gen : s.gens[h.index]? = (s.stb[h.index]?).map (·.gen) := List.getElem?_map ..
  have held : s.record h.index = (s.stb[h.index]?).bind (·.held) := rfl
  rw [gen, held, storeCorrection]
  cases s.stb[h.index]? with
  | none => exact ⟨_, rfl, nofun⟩
  | some p =>
    obtain ⟨g, none | r⟩ := p
    · exact ⟨_, rfl, nofun⟩
    · by_cases hg : g = h.gen
      · simp only [if_pos hg]
        by_cases hm : (limit && r.usable) = true
        · rw [if_pos hm]
          refine ⟨some r.key, rfl, fun r' hr _ _ _ => ?_⟩
          obtain rfl : r = r' := Option.some.inj hr
          rfl
        · rw [if_neg hm]
          refine ⟨s.cpt.notices.suspect, rfl, fun r' hr _ hl hu => ?_⟩
          obtain rfl : r = r' := Option.some.inj hr
          exact absurd (by rw [hl, hu]; rfl) hm
      · simp only [if_neg hg]
        exact ⟨_, rfl, fun r' _ hgen => absurd (Option.some.inj hgen) hg⟩

section Fold

variable {g : State → Handle → State} {gens : List Nat} {φ : Handle → Record → Option Record} {tally : Nat}
  (hgens : ∀ s h, (g s h).gens = s.gens)
  (hg : ∀ s h j, s.gens = gens → (g s h).record j = if h.index = j then (s.record j).bind (φ h) else s.record j)
  (hn : ∀ s h, (g s h).cpt.notices.aged = (agedBy tally h s).or s.cpt.notices.aged)

include hgens hg hn

/-- After a row of tallies AGED names a source that aged, or stands when none did. -/
theorem aged_foldl : ∀ (hs : List Handle) (s : State), (hs.map (·.index)).Nodup → s.gens = gens →
    ((∀ h ∈ hs, agedBy tally h s = none) ∧ (hs.foldl g s).cpt.notices.aged = s.cpt.notices.aged)
      ∨ ∃ h ∈ hs, ∃ k, agedBy tally h s = some k ∧ (hs.foldl g s).cpt.notices.aged = some k
  | [], s, _, _ => .inl ⟨nofun, rfl⟩
  | a :: hs, s, distinct, hs' => by
    rw [List.map_cons, List.nodup_cons] at distinct
    obtain ⟨apart, distinct⟩ := distinct
    have same : ∀ h ∈ hs, agedBy tally h (g s a) = agedBy tally h s := fun h hh => by
      unfold agedBy
      rw [hg s a _ hs', if_neg fun heq => apart (List.mem_map.mpr ⟨h, hh, heq.symm⟩)]
    obtain ⟨quiet, aged⟩ | ⟨h, hh, k, hk, aged⟩ := aged_foldl hs (g s a) distinct ((hgens s a).trans hs')
    · rw [hn] at aged
      cases ha : agedBy tally a s with
      | none =>
        rw [ha] at aged
        exact .inl ⟨List.forall_mem_cons.mpr ⟨ha, fun h hh => same h hh ▸ quiet h hh⟩, aged⟩
      | some k =>
        rw [ha] at aged
        exact .inr ⟨a, List.mem_cons_self, k, ha, aged⟩
    · exact .inr ⟨h, List.mem_cons_of_mem _ hh, k, same h hh ▸ hk, aged⟩

end Fold

/-- One source of a full write-back (R69). -/
def fullStep (wc : WorkingCopy) (limit : Bool) (s : State) (h : Handle) : State :=
  unpin h.index (if wc.kind.stores then storeCorrection h wc.running limit (addTally h.index wc.tally s) else addTally h.index wc.tally s)

theorem fullWriteBack_eq (wc : WorkingCopy) (limit : Bool) (s : State) : fullWriteBack wc limit s = wc.sources.foldl (fullStep wc limit) s := rfl

@[simp] theorem gens_fullStep (wc : WorkingCopy) (limit : Bool) (s : State) (h : Handle) : (fullStep wc limit s h).gens = s.gens := by
  unfold fullStep
  split <;> simp

theorem fullStep_notices (wc : WorkingCopy) (limit : Bool) (s : State) (h : Handle) :
    ∃ k, (fullStep wc limit s h).cpt.notices = { s.cpt.notices with aged := (agedBy wc.tally h s).or s.cpt.notices.aged, suspect := k }
      ∧ ∀ r, s.record h.index = some r → s.gens[h.index]? = some h.gen → wc.kind.stores = true → limit = true → r.usable = true →
        k = some r.key := by
  unfold fullStep
  rw [unpin_cpt]
  split
  · obtain ⟨k, hk, hs⟩ := storeCorrection_notices h wc.running limit (addTally h.index wc.tally s)
    rw [addTally_notices] at hk
    refine ⟨k, hk, fun r hr hg _ hl hu => hs (r.tallied wc.tally) ?_ (by rw [gens_addTally]; exact hg) hl ?_⟩
    · rw [record_addTally, if_pos rfl, hr]; rfl
    · simp only [Record.usable, Record.tallied] at hu ⊢
      split <;> simp_all
  · next hstores =>
    rw [addTally_notices]
    exact ⟨_, rfl, fun _ _ _ h => absurd h hstores⟩

/-! ### The record a full write-back leaves (R70 to R74) -/

theorem stores_eq (k : ResKind) : k.stores = decide (k = .exact ∨ k = .exactTrial) := by cases k <;> rfl

/-- What a full write-back makes of a source's record, field by field, before its pin goes. -/
theorem Record.writtenBack_eq (wc : WorkingCopy) (limit current : Bool) (r : Record) :
    let onTime := min 16777215 (r.onTime + wc.tally)
    let crossed := decide (r.ageThreshold ≠ 0 ∧ r.onTime < r.ageThreshold ∧ r.ageThreshold ≤ onTime)
    let exact := decide (wc.kind = .exact ∨ wc.kind = .exactTrial)
    r.writtenBack wc limit current =
      { r with
        onTime
        corr := if exact ∧ current = true then wc.running else r.corr
        state := if r.state = .active ∧ (crossed ∨ (exact ∧ current = true ∧ limit)) then .suspect else r.state } := by
  intro onTime crossed exact
  unfold Record.writtenBack
  rw [stores_eq]
  show (if (exact && current) = true then _ else _) = _
  have after : r.tallied wc.tally = { r with onTime, state := if crossed = true ∧ r.state = .active then .suspect else r.state } := rfl
  rw [after]
  by_cases stores : (exact && current) = true
  · obtain ⟨he, hc⟩ := Bool.and_eq_true_iff.mp stores
    rw [if_pos stores, Record.stored, he, hc]
    cases hs : r.state <;> cases crossed <;> cases limit <;> simp [Record.usable]
  · rw [if_neg stores]
    have apart : ¬ (exact = true ∧ current = true) := fun h => stores (Bool.and_eq_true_iff.mpr h)
    rw [if_neg apart]
    have guard : (r.state = .active ∧ (crossed = true ∨ exact = true ∧ current = true ∧ limit = true)) ↔ (crossed = true ∧ r.state = .active) := by
      tauto
    simp only [guard]

theorem writtenBack_unpinned (wc : WorkingCopy) (limit : Bool) (h : Handle) (gen : Nat) (r : Record) :
    (r.writtenBack wc limit (decide (some gen = some h.gen))).unpinned = writtenBack wc limit h gen r := by
  have current : decide (some gen = some h.gen) = true ↔ gen = h.gen := by rw [decide_eq_true_eq, Option.some_inj]
  obtain ⟨-, pins, state⟩ := writtenBack_fields wc limit (decide (some gen = some h.gen)) r
  unfold Record.unpinned Stated.writtenBack
  by_cases gone : r.state = .retiring ∧ r.pins ≤ 1
  · rw [if_pos ⟨state.mpr gone.1, by rw [pins]; omega⟩, if_pos gone]
  · rw [if_neg fun h => gone ⟨state.mp h.1, by have := h.2; rw [pins] at this; omega⟩, if_neg gone, Record.writtenBack_eq]
    simp only [current]

/-! ### WRITE_BACK -/

/-- Safety's reading of a working copy: only a DERIVED one has two sources, and the others one (R47). -/
theorem source_of_stores {wc : WorkingCopy} (hf : Safety.sourcesFit wc = true) (hk : wc.kind.stores = true) : ∃ h, wc.sources = [h] := by
  unfold Safety.sourcesFit at hf
  cases hw : wc.kind <;> rw [hw] at hf hk
  case derived | borrowed => cases hk
  all_goals exact List.length_eq_one_iff.mp (of_decide_eq_true hf)

theorem fullWriteBack_aged {wc : WorkingCopy} (limit : Bool) {s : State} (hn : (wc.sources.map (·.index)).Nodup) :
    ((∀ h ∈ wc.sources, agedBy wc.tally h s = none) ∧ (fullWriteBack wc limit s).cpt.notices.aged = s.cpt.notices.aged)
      ∨ ∃ h ∈ wc.sources, ∃ k, agedBy wc.tally h s = some k ∧ (fullWriteBack wc limit s).cpt.notices.aged = some k := by
  rw [fullWriteBack_eq]
  refine aged_foldl (gens := s.gens) (φ := fun h r => (r.writtenBack wc limit (decide (s.gens[h.index]? = some h.gen))).unpinned)
    (gens_fullStep wc limit) (fun u h j hu => ?_) (fun u h => ?_) wc.sources s hn rfl
  · rw [← hu]
    exact record_fullStep wc limit h j u
  · obtain ⟨k, hk, -⟩ := fullStep_notices wc limit u h
    rw [hk]

theorem fullWriteBack_needsRecord (wc : WorkingCopy) (limit : Bool) (s : State) :
    (fullWriteBack wc limit s).cpt.notices.needsRecord = s.cpt.notices.needsRecord := by
  rw [fullWriteBack_eq]
  refine foldl_keeps (fun u => u.cpt.notices.needsRecord) _ (fun u h => ?_) _ _
  obtain ⟨k, hk, -⟩ := fullStep_notices wc limit u h
  rw [hk]

/-- A source's record after a full write-back (R70 to R74). -/
theorem fullWriteBack_record {wc : WorkingCopy} (limit : Bool) {s : State} (hn : (wc.sources.map (·.index)).Nodup) {h : Handle}
    (hh : h ∈ wc.sources) {p : Place} {r : Record} (hp : s.stb[h.index]? = some p) (hr : p.held = some r) :
    (fullWriteBack wc limit s).record h.index = writtenBack wc limit h p.gen r := by
  have gen : s.gens[h.index]? = some p.gen := by rw [State.gens, List.getElem?_map, hp]; rfl
  have held : s.record h.index = some r := by rw [State.record, hp]; exact hr
  rw [fullWriteBack_eq, record_foldl_named (gens := s.gens)
    (φ := fun h r => (r.writtenBack wc limit (decide (s.gens[h.index]? = some h.gen))).unpinned) (gens_fullStep wc limit)
    (fun u h j hu => by rw [← hu]; exact record_fullStep wc limit h j u) hn hh rfl, held, gen]
  exact writtenBack_unpinned wc limit h p.gen r

/-- The state of a write-back before its entry ends: the sources, then NEEDS_RECORD and STALE_WRITEBACK (R69 to R74). -/
def writtenOff (wc : WorkingCopy) (limit stale : Bool) (s : State) : State :=
  let u := fullWriteBack wc limit s
  let u := if needsRecord wc limit u.cpt.settings.deriveWarn then u.withNotices ({ · with needsRecord := some wc.key }) else u
  if stale then countEvent .staleWriteback (some wc.key) 1 u else u

section
variable (wc : WorkingCopy) (limit stale : Bool) (s : State)

theorem closeEntry_eq (e : Entry) :
    let stale := wc.kind.stores && wc.sources.any fun h => !s.generationMatches h
    closeEntry e wc s = finishEntry .ok { e with warnings := { e.warnings with staleWriteback := e.warnings.staleWriteback || stale } }
      (writtenOff wc e.warnings.corrLimit stale s) := rfl

theorem writtenOff_stb : (writtenOff wc limit stale s).stb = (fullWriteBack wc limit s).stb := by
  unfold writtenOff
  dsimp only
  split <;> split <;> rfl

/-- What a write-back leaves as it is until its entry ends. -/
theorem writtenOff_frame : (writtenOff wc limit stale s).sgq = s.sgq ∧ (writtenOff wc limit stale s).flk = s.flk
    ∧ (writtenOff wc limit stale s).lsc = s.lsc ∧ (writtenOff wc limit stale s).wgd = s.wgd ∧ (writtenOff wc limit stale s).pkp = s.pkp
    ∧ (writtenOff wc limit stale s).pgn = s.pgn ∧ (writtenOff wc limit stale s).plp = s.plp := by
  unfold writtenOff
  dsimp only
  split <;> split <;> simp

theorem writtenOff_act : (writtenOff wc limit stale s).act
    = if stale then s.act.map (Counter.add .staleWriteback (some wc.key) 1) else s.act := by
  unfold writtenOff
  dsimp only
  split <;> split <;> simp

theorem writtenOff_notices : let n := (writtenOff wc limit stale s).cpt.notices
    n.aged = (fullWriteBack wc limit s).cpt.notices.aged ∧ n.suspect = (fullWriteBack wc limit s).cpt.notices.suspect
      ∧ n.needsRecord = if needsRecord wc limit s.cpt.settings.deriveWarn then some wc.key else s.cpt.notices.needsRecord := by
  have counted : ∀ u : State, let n := (if stale then countEvent .staleWriteback (some wc.key) 1 u else u).cpt.notices
      n.aged = u.cpt.notices.aged ∧ n.suspect = u.cpt.notices.suspect ∧ n.needsRecord = u.cpt.notices.needsRecord := by
    intro u
    split
    · have counts := countEvent_onward .staleWriteback (some wc.key) 1 u
      exact ⟨counts.aged, counts.suspect, counts.needsRecord⟩
    · exact ⟨rfl, rfl, rfl⟩
  unfold writtenOff
  dsimp only
  obtain ⟨aged, suspect, needs⟩ := counted
    (if needsRecord wc limit (fullWriteBack wc limit s).cpt.settings.deriveWarn
      then (fullWriteBack wc limit s).withNotices ({ · with needsRecord := some wc.key }) else fullWriteBack wc limit s)
  rw [aged, suspect, needs, fullWriteBack_settings, ← fullWriteBack_needsRecord wc limit s]
  split <;> exact ⟨rfl, rfl, rfl⟩

end

/-- The queue without its head. -/
theorem filter_head {e : Entry} {rest : List Entry} (hn : ((e :: rest).map (·.pos)).Nodup) :
    (e :: rest).filter (fun x => decide (x.pos ≠ e.pos)) = rest := by
  rw [List.map_cons, List.nodup_cons] at hn
  rw [List.filter_cons_of_neg (by simp), List.filter_eq_self]
  exact fun x hx => decide_eq_true fun heq => hn.1 (heq ▸ List.mem_map_of_mem hx)

/-- Settles O48: the sources one after the other, each named once, then the notices and the DONE. -/
theorem writeBackUpdatesTheSources : Obligations.WriteBackUpdatesTheSources := by
  unfold Obligations.WriteBackUpdatesTheSources
  intro s e wc rest hpins hq hclosing hcopy limit exact stale
  obtain ⟨pinned, -⟩ := (pinsAgree_iff s).mp hpins
  have he : e ∈ s.sgq.queue := by rw [hq]; exact List.mem_cons_self
  have sources_eq : e.sources = wc.sources := by rw [Entry.sources, hcopy]
  have distinct : (wc.sources.map (·.index)).Nodup := sources_eq ▸ pinned.distinct e he
  have stale_eq : (wc.kind.stores && wc.sources.any fun h => !s.generationMatches h) = stale := by
    have moved : (fun h : Handle => !s.generationMatches h) = fun h => ((s.stb[h.index]?).map (·.gen)) != some h.gen := by
      funext h
      unfold State.generationMatches
      cases s.stb[h.index]? <;> rfl
    rw [stores_eq, moved]
  have closed := closeEntry_eq wc s e
  rw [stale_eq] at closed
  have run : exec .writeBack s = .next (settleCodes s (goOn (closeEntry e wc s))) := by
    change execWriteBack s = _
    unfold execWriteBack
    rw [hq]
    dsimp only
    rw [if_pos hclosing, hcopy]
  refine ⟨closeEntry e wc s, run, ?_⟩
  obtain ⟨hsgq, hflk, hlsc, hwgd, hpkp, hpgn, hplp⟩ := writtenOff_frame wc limit stale s
  obtain ⟨aged, suspect, needs⟩ := writtenOff_notices wc limit stale s
  rw [closed]
  obtain ⟨done_aged, done_suspect, done_needs, -⟩ := finishEntry_notices .ok
    { e with warnings := { e.warnings with staleWriteback := e.warnings.staleWriteback || stale } } (writtenOff wc limit stale s)
  have stb : ∀ o e', (finishEntry o e' (writtenOff wc limit stale s)).stb = (fullWriteBack wc limit s).stb := fun o e' => by
    rw [finishEntry_stb, writtenOff_stb]
  have record : ∀ o e' i, (finishEntry o e' (writtenOff wc limit stale s)).record i = (fullWriteBack wc limit s).record i := fun o e' i => by
    rw [State.record, stb]; rfl
  have frame := fullWriteBack_unpinned distinct limit s
  refine ⟨?_, ?_, fun h p r hh hp hr => ⟨?_, fun h1 h2 h3 h4 => ?_, fun hl hx hgen hu => ?_⟩, fun i hi => ?_, fun room => ?_, ?_, ?_,
    by rw [finishEntry_lsc, hlsc], by rw [finishEntry_wgd, hwgd], by rw [finishEntry_pkp, hpkp], by rw [finishEntry_pgn, hpgn],
    by rw [finishEntry_plp, hplp]⟩
  · rw [finishEntry_queue, hsgq, hq]
    exact filter_head (hq ▸ pinned.fits.positions)
  · rw [stb]; exact frame.gens
  · rw [record]
    exact fullWriteBack_record limit distinct hh hp hr
  · rw [done_aged, aged]
    obtain ⟨quiet, -⟩ | ⟨-, -, k, -, hk⟩ := fullWriteBack_aged (wc := wc) limit (s := s) distinct
    · have held : s.record h.index = some r := by rw [State.record, hp]; exact hr
      have := quiet h hh
      rw [agedBy_eq_some.mpr ⟨r, held, (crossing_iff _ _).mpr ⟨h1, h2, h3, h4⟩, rfl⟩] at this
      cases this
    · rw [hk]; rfl
  · have stores : wc.kind.stores = true := by rw [stores_eq]; exact hx
    have fits : Safety.sourcesFit wc = true := by
      have := pinned.fits.copies e he
      unfold Safety.copyFits at this
      rw [hcopy] at this
      cases hk : e.kind <;> rw [hk] at this
      case read => cases this
      all_goals exact (Bool.and_eq_true_iff.mp this).2
    obtain ⟨h', only⟩ := source_of_stores fits stores
    obtain rfl : h = h' := by rw [only] at hh; exact List.mem_singleton.mp hh
    have held : s.record h.index = some r := by rw [State.record, hp]; exact hr
    have gen : s.gens[h.index]? = some h.gen := by rw [State.gens, List.getElem?_map, hp, ← hgen]; rfl
    rw [done_suspect, suspect, fullWriteBack_eq, only]
    obtain ⟨k, hk, marks⟩ := fullStep_notices wc e.warnings.corrLimit s h
    rw [List.foldl_cons, List.foldl_nil, hk]
    exact marks r held gen stores hl hu
  · rw [record]
    exact frame.unnamed i hi
  · rw [finishEntry_flk _ _ _ (by rw [hflk]; exact room), hflk]
  · rw [done_needs, needs]
    have needs_iff : needsRecord wc e.warnings.corrLimit s.cpt.settings.deriveWarn = true
        ↔ exact = false ∧ (limit = true ∨ s.cpt.settings.deriveWarn ≤ (wc.running - wc.initial).natAbs) := by
      rw [needsRecord, stores_eq, Bool.and_eq_true, Bool.or_eq_true, Bool.not_eq_true', decide_eq_true_eq]
    by_cases raised : exact = false ∧ (limit = true ∨ s.cpt.settings.deriveWarn ≤ (wc.running - wc.initial).natAbs)
    · rw [if_pos raised, if_pos (needs_iff.mpr raised)]
    · rw [if_neg raised, if_neg (raised ∘ needs_iff.mp)]
  · rw [finishEntry_act, if_pos rfl, writtenOff_act]

end Sys2Proof.Machine

end


section
/-! SUPPORT. A write that ends otherwise than by the gate, the flush of the queue, and QUEUE_ABORT (O49). -/

namespace Sys2Proof.Machine

open Sys2Proof.Stated

/-! ### The partial write-back (R69, R70) -/

theorem tallyFor_none {s : State} (h : s.sgq.activeWrite = none) (i : Nat) : tallyFor s i = none := by unfold tallyFor; rw [h]

theorem tallyFor_some {s : State} {e : Entry} {wc : WorkingCopy} (h : s.sgq.activeWrite = some (e, wc)) (i : Nat) :
    tallyFor s i = if e.uses i = true then some wc.tally else none := by unfold tallyFor; rw [h]

theorem ages_iff {s : State} {i n : Nat} {r : Record} (h : tallyFor s i = some n) : ages s i r ↔ r.crossing n = true := by
  unfold ages
  rw [h, crossing_iff]
  exact ⟨fun ⟨m, hm, hr⟩ => Option.some.inj hm ▸ hr, fun hr => ⟨n, rfl, hr⟩⟩

theorem not_ages {s : State} {i : Nat} {r : Record} (h : tallyFor s i = none) : ¬ ages s i r := by
  rintro ⟨n, hn, -⟩
  rw [h] at hn
  cases hn

/-- What a record becomes with its tally, but for pins and place: PartlyWritten's clause for one record. -/
structure Tallied (s : State) (i : Nat) (r q : Record) : Prop where
  pins : q.pins ≤ r.pins
  onTime : q.onTime = match tallyFor s i with
    | some n => min 16777215 (r.onTime + n)
    | none => r.onTime
  aged : ages s i r → r.state = .active → q.state = .suspect
  kept : ¬ (ages s i r ∧ r.state = .active) → q.state = r.state
  rest : q = { r with pins := q.pins, onTime := q.onTime, state := q.state }

theorem tallied_of_none {s : State} {i : Nat} (h : tallyFor s i = none) {r : Record} {n : Nat} (hn : n ≤ r.pins) :
    Tallied s i r { r with pins := n } :=
  ⟨hn, by rw [h], fun ha => absurd ha (not_ages h), fun _ => rfl, rfl⟩

theorem tallied_of_some {s : State} {i n : Nat} (h : tallyFor s i = some n) (r : Record) {m : Nat} (hm : m ≤ r.pins) :
    Tallied s i r { r.tallied n with pins := m } := by
  have crossed : ∀ ha : r.state = .active, (crosses r.ageThreshold r.onTime (addOnTime r.onTime n) = true ↔ ages s i r) := fun ha => by
    rw [ages_iff h, Record.crossing, ha]
    simp
  refine ⟨hm, by rw [h]; rfl, fun hages ha => if_pos ⟨(crossed ha).mpr hages, ha⟩, fun hno => if_neg fun ⟨hc, ha⟩ => hno ⟨(crossed ha).mp hc, ha⟩, rfl⟩

/-- A record that has its tally and then loses pins. -/
theorem Tallied.loosened {s : State} {i : Nat} {r q : Record} (h : Tallied s i r q) {n : Nat} (hn : n ≤ q.pins) :
    Tallied s i r { q with pins := n } :=
  ⟨hn.trans h.pins, h.onTime, h.aged, h.kept, by rw [h.rest]⟩

/-- No record changes but by releases and the partial write-back of the ACTIVE write: PartlyWritten, said with `Tallied`. -/
theorem partlyWritten_iff (s t : State) : PartlyWritten s t ↔
    t.gens = s.gens
      ∧ (∀ i, (s.record i = none → t.record i = none)
        ∧ ∀ r, s.record i = some r → (t.record i = none ∧ r.state = .retiring) ∨ ∃ q, t.record i = some q ∧ Tallied s i r q)
      ∧ ((∀ i r, s.record i = some r → ¬ ages s i r) → t.cpt.notices.aged = s.cpt.notices.aged)
      ∧ ∀ i r, s.record i = some r → ages s i r → ∃ j q, s.record j = some q ∧ ages s j q ∧ t.cpt.notices.aged = some q.key := by
  have same : ∀ i r q, Tallied s i r q ↔ q.pins ≤ r.pins
            ∧ q.onTime = (match tallyFor s i with
              | some n => min 16777215 (r.onTime + n)
              | none => r.onTime)
            ∧ (ages s i r → r.state = .active → q.state = .suspect)
            ∧ (¬ (ages s i r ∧ r.state = .active) → q.state = r.state)
            ∧ q = { r with pins := q.pins, onTime := q.onTime, state := q.state } := fun i r q =>
    ⟨fun ⟨pins, onTime, aged, kept, rest⟩ => ⟨pins, onTime, aged, kept, rest⟩, fun ⟨pins, onTime, aged, kept, rest⟩ => ⟨pins, onTime, aged, kept, rest⟩⟩
  simp only [same]
  exact Iff.rfl

/-- Releases after a partial write-back, AGED as it left it. -/
theorem partlyWritten_trans {s t u : State} (h : PartlyWritten s t) (hu : Loosened t u) (ha : u.cpt.notices.aged = t.cpt.notices.aged) :
    PartlyWritten s u := by
  rw [partlyWritten_iff] at h ⊢
  obtain ⟨gens, records, quiet, aged⟩ := h
  obtain ⟨gens', loose⟩ := hu
  refine ⟨gens'.trans gens, fun i => ⟨fun hi => (loose i).1 ((records i).1 hi), fun r hr => ?_⟩, ?_, ?_⟩
  · obtain ⟨gone, retiring⟩ | ⟨q, hq, tallied⟩ := (records i).2 r hr
    · exact .inl ⟨(loose i).1 gone, retiring⟩
    · obtain ⟨gone, retiring⟩ | ⟨n, hn, hu⟩ := (loose i).2 q hq
      · refine .inl ⟨gone, ?_⟩
        by_cases h : ages s i r ∧ r.state = .active
        · rw [tallied.aged h.1 h.2] at retiring; cases retiring
        · rw [← tallied.kept h]; exact retiring
      · exact .inr ⟨_, hu, tallied.loosened hn⟩
  · rw [ha]; exact quiet
  · rw [ha]; exact aged

/-- With no ACTIVE write records are only released. -/
theorem partlyWritten_of_loosened {s t : State} (hw : s.sgq.activeWrite = none) (h : Loosened s t)
    (ha : t.cpt.notices.aged = s.cpt.notices.aged) : PartlyWritten s t := by
  rw [partlyWritten_iff]
  obtain ⟨gens, loose⟩ := h
  refine ⟨gens, fun i => ⟨(loose i).1, fun r hr => ?_⟩, fun _ => ha, fun i r _ h => absurd h (not_ages (tallyFor_none hw i))⟩
  obtain gone | ⟨n, hn, ht⟩ := (loose i).2 r hr
  · exact .inl gone
  · exact .inr ⟨_, ht, tallied_of_none (tallyFor_none hw i) hn⟩

theorem partialWriteBack_aged {wc : WorkingCopy} {s : State} (hn : (wc.sources.map (·.index)).Nodup) :
    ((∀ h ∈ wc.sources, agedBy wc.tally h s = none) ∧ (partialWriteBack wc s).cpt.notices.aged = s.cpt.notices.aged)
      ∨ ∃ h ∈ wc.sources, ∃ k, agedBy wc.tally h s = some k ∧ (partialWriteBack wc s).cpt.notices.aged = some k := by
  refine aged_foldl (gens := s.gens) (φ := fun _ r => (r.tallied wc.tally).unpinned) (fun u h => by simp) (fun u h j _ => ?_) (fun u h => ?_)
    wc.sources s hn rfl
  · rw [record_unpin, record_addTally]
    by_cases heq : h.index = j <;> simp [heq, Option.bind_map]
  · rw [unpin_cpt, addTally_notices]

/-- The partial write-back of the ACTIVE write of `s`, from a state with its records. -/
theorem partialWriteBack_partly {s u : State} {e : Entry} {wc : WorkingCopy} (hw : s.sgq.activeWrite = some (e, wc))
    (hn : (wc.sources.map (·.index)).Nodup) (hstb : u.stb = s.stb) (haged : u.cpt.notices.aged = s.cpt.notices.aged) :
    PartlyWritten s (partialWriteBack wc u) := by
  rw [partlyWritten_iff]
  have record : ∀ i, u.record i = s.record i := fun i => by rw [State.record, hstb]; rfl
  have sources : e.sources = wc.sources := by rw [Entry.sources, (activeWrite_eq_some.mp hw).2.2]
  have tally : ∀ i, tallyFor s i = if e.uses i = true then some wc.tally else none := tallyFor_some hw
  have used : ∀ i, e.uses i = true ↔ ∃ h ∈ wc.sources, h.index = i := fun i => sources ▸ uses_iff e i
  have step := partialWriteBack_unpinned hn u
  have named : ∀ h ∈ wc.sources, (partialWriteBack wc u).record h.index = (s.record h.index).bind fun r => (r.tallied wc.tally).unpinned := by
    intro h hh
    rw [← record]
    refine record_foldl_named (gens := u.gens) (φ := fun _ r => (r.tallied wc.tally).unpinned) (fun u h => by simp) (fun u h j _ => ?_) hn hh rfl
    rw [record_unpin, record_addTally]
    by_cases heq : h.index = j <;> simp [heq, Option.bind_map]
  have aging : ∀ h ∈ wc.sources, ∀ k, agedBy wc.tally h u = some k ↔ ∃ r, s.record h.index = some r ∧ ages s h.index r ∧ r.key = k := by
    intro h hh k
    rw [agedBy_eq_some, record]
    simp only [ages_iff (show tallyFor s h.index = some wc.tally by rw [tally, if_pos ((used _).mpr ⟨h, hh, rfl⟩)])]
  have source_of_ages : ∀ i r, ages s i r → ∃ h ∈ wc.sources, h.index = i := by
    rintro i r ⟨n, hn, -⟩
    rw [tally] at hn
    by_contra no
    rw [if_neg (fun h => no ((used i).mp h))] at hn
    cases hn
  refine ⟨step.gens.trans (by rw [State.gens, hstb]; rfl), fun i => ⟨fun hi => step.empty i ((record i).trans hi), fun r hr => ?_⟩, fun quiet => ?_,
    fun i r hr hages => ?_⟩
  · by_cases h : e.uses i = true
    · obtain ⟨h', hh', rfl⟩ := (used i).mp h
      have tallies : tallyFor s h'.index = some wc.tally := by rw [tally, if_pos h]
      rw [named h' hh', hr, Option.bind_some]
      unfold Record.unpinned
      split
      · next gone => exact .inl ⟨rfl, (tallied_fields wc.tally r).2.2.mp gone.1⟩
      · exact .inr ⟨_, rfl, tallied_of_some tallies r (Nat.sub_le _ _)⟩
    · have apart : ∀ h' ∈ wc.sources, h'.index ≠ i := fun h' hh' heq => h ((used i).mpr ⟨h', hh', heq⟩)
      rw [step.unnamed i apart, record]
      exact .inr ⟨r, hr, tallied_of_none (by rw [tally, if_neg h]) le_rfl⟩
  · obtain ⟨-, aged⟩ | ⟨h, hh, k, hk, -⟩ := partialWriteBack_aged (s := u) hn
    · rw [aged, haged]
    · obtain ⟨r, hr, hages, -⟩ := (aging h hh k).mp hk
      exact absurd hages (quiet _ r hr)
  · obtain ⟨none, -⟩ | ⟨h, hh, k, hk, aged⟩ := partialWriteBack_aged (s := u) hn
    · obtain ⟨h, hh, rfl⟩ := source_of_ages i r hages
      have := none h hh
      rw [(aging h hh r.key).mpr ⟨r, hr, hages, rfl⟩] at this
      cases this
    · obtain ⟨q, hq, hages', rfl⟩ := (aging h hh k).mp hk
      exact ⟨_, q, hq, hages', aged⟩

/-! ### A flush (R99, R100) -/

/-- The outcome that a flush gives an entry. -/
def flushOutcome (o : DoneOutcome) (e : Entry) : DoneOutcome := if e.state = .active ∧ e.kind ≠ .read then o else .aborted

/-- The message that a flush sends for an entry. -/
def flushDone (o : DoneOutcome) (e : Entry) : List Byte := doneBytes e.tag e.cls (flushOutcome o e) e.warnings

theorem kind_of_copyFits {e : Entry} (h : Safety.copyFits e = true) :
    (e.kind = .read ↔ ∃ p, e.copy = .read p) ∧ (e.kind ≠ .read → e.state ≠ .pending → e.state ≠ .resolving → ∃ wc, e.copy = .strategy wc) := by
  unfold Safety.copyFits at h
  cases hk : e.kind <;> cases hc : e.copy <;> simp_all
  all_goals tauto

theorem flushEntry_closing (o : DoneOutcome) (s : State) {e : Entry} (h : e.state = .closing) : flushEntry o s e = s := by
  rw [flushEntry, if_pos h]

/-- The flush of one entry that is not CLOSING: its pins go, by a partial write-back or by releases, and it ends. -/
theorem flushEntry_ends (o : DoneOutcome) (s : State) {e : Entry} (hc : Safety.copyFits e = true) (h : e.state ≠ .closing) :
    (∃ wc, e.state = .active ∧ e.copy = .strategy wc ∧ flushEntry o s e = finishEntry (flushOutcome o e) e (partialWriteBack wc s))
      ∨ ((e.state = .active → ∀ wc, e.copy ≠ .strategy wc) ∧ flushEntry o s e = finishEntry (flushOutcome o e) e (release e s)) := by
  obtain ⟨read, write⟩ := kind_of_copyFits hc
  unfold flushOutcome
  obtain ⟨closing, -⟩ | ⟨wc, active, copy, he⟩ | ⟨active, copy, he⟩ | ⟨-, idle, he⟩ := flushEntry_cases o s e
  · exact absurd closing h
  · have writes : e.kind ≠ .read := fun hk => by
      obtain ⟨p, hp⟩ := read.mp hk
      rw [copy] at hp; cases hp
    exact .inl ⟨wc, active, copy, by rw [he, if_pos ⟨active, writes⟩]; rfl⟩
  · have reads : e.kind = .read := by
      by_contra hk
      obtain ⟨wc, hwc⟩ := write hk (by rw [active]; nofun) (by rw [active]; nofun)
      exact copy wc hwc
    obtain ⟨p, hp⟩ := read.mp reads
    have unpinned : release e s = s := by simp [release, Entry.sources, hp]
    refine .inr ⟨fun _ => copy, ?_⟩
    rw [he, if_neg (fun h => h.2 reads), unpinned]
  · exact .inr ⟨fun h => absurd h idle, by rw [he, if_neg (fun h => idle h.1)]; rfl⟩

theorem flushEntry_queue (o : DoneOutcome) (s : State) {e : Entry} (hc : Safety.copyFits e = true) (h : e.state ≠ .closing) :
    (flushEntry o s e).sgq.queue = s.sgq.queue.filter (fun x => decide (x.pos ≠ e.pos)) := by
  obtain ⟨wc, -, -, he⟩ | ⟨-, he⟩ := flushEntry_ends o s hc h <;> rw [he, finishEntry_queue]
  · rw [partialWriteBack_sgq]
  · rw [release_sgq]

theorem flushEntry_out (o : DoneOutcome) (s : State) {e : Entry} (hc : Safety.copyFits e = true) (h : e.state ≠ .closing)
    (room : s.flk.out.length < 32) : (flushEntry o s e).flk.out = s.flk.out ++ [flushDone o e] := by
  obtain ⟨wc, -, -, he⟩ | ⟨-, he⟩ := flushEntry_ends o s hc h
  · rw [he, finishEntry_flk _ _ _ (by rw [partialWriteBack_flk]; exact room), partialWriteBack_flk]; rfl
  · rw [he, finishEntry_flk _ _ _ (by rw [release_flk]; exact room), release_flk]; rfl

/-- The entries of a queue flushed one after the other: those that are not CLOSING leave, each with its message. -/
theorem flush_fold (o : DoneOutcome) : ∀ (front back : List Entry) (s : State), (∀ e ∈ back, Safety.copyFits e = true) →
    s.sgq.queue = front ++ back → ((front ++ back).map (·.pos)).Nodup →
    (back.foldl (flushEntry o) s).sgq.queue = front ++ back.filter (fun e => decide (e.state = .closing))
      ∧ (s.flk.out.length + (back.filter (fun e => decide (e.state ≠ .closing))).length ≤ 32 →
          (back.foldl (flushEntry o) s).flk.out = s.flk.out ++ (back.filter (fun e => decide (e.state ≠ .closing))).map (flushDone o))
  | front, [], s, _, hq, _ => ⟨hq, fun _ => by simp⟩
  | front, e :: back, s, hc, hq, hn => by
    obtain ⟨fits, hc⟩ := List.forall_mem_cons.mp hc
    rw [List.foldl_cons]
    by_cases h : e.state = .closing
    · rw [flushEntry_closing o s h]
      obtain ⟨queue, out⟩ := flush_fold o (front ++ [e]) back s hc (by rw [hq, List.append_assoc]; rfl) (by rw [List.append_assoc]; exact hn)
      rw [List.filter_cons_of_pos (by simpa using h), List.filter_cons_of_neg (by simpa using h), queue, List.append_assoc]
      exact ⟨rfl, out⟩
    · have apart : ∀ x ∈ front ++ back, x.pos ≠ e.pos := fun x hx heq => by
        have perm : ((front ++ e :: back).map (·.pos)).Perm (e.pos :: (front ++ back).map (·.pos)) := by
          simpa only [List.map_cons] using (List.perm_middle (a := e) (l₁ := front) (l₂ := back)).map (·.pos)
        exact (List.nodup_cons.1 (perm.nodup_iff.1 hn)).1 (heq ▸ List.mem_map.2 ⟨x, hx, rfl⟩)
      have left : (flushEntry o s e).sgq.queue = front ++ back := by
        have kept : ∀ l : List Entry, (∀ x ∈ l, x.pos ≠ e.pos) → l.filter (fun x => decide (x.pos ≠ e.pos)) = l := fun l hl =>
          List.filter_eq_self.2 fun x hx => decide_eq_true (hl x hx)
        rw [flushEntry_queue o s fits h, hq, List.filter_append, List.filter_cons_of_neg (by simp),
          kept front fun x hx => apart x (List.mem_append_left _ hx), kept back fun x hx => apart x (List.mem_append_right _ hx)]
      have distinct : ((front ++ back).map (·.pos)).Nodup := by
        have sub : (front ++ back).Sublist (front ++ e :: back) := (List.sublist_cons_self e back).append_left front
        exact hn.sublist (sub.map _)
      obtain ⟨queue, out⟩ := flush_fold o front back (flushEntry o s e) hc left distinct
      rw [List.filter_cons_of_neg (by simpa using h), List.filter_cons_of_pos (by simpa using h), queue]
      refine ⟨rfl, fun room => ?_⟩
      rw [List.length_cons] at room
      have sent := flushEntry_out o s fits h (by omega)
      rw [out (by rw [sent, List.length_append, List.length_singleton]; omega), sent, List.map_cons, List.append_assoc]
      rfl

theorem flush_queue {s : State} (hf : QueueFits s) (o : DoneOutcome) :
    (flush o s).sgq.queue = s.sgq.queue.filter (fun e => decide (e.state = .closing))
      ∧ (s.flk.out.length + (s.sgq.queue.filter (fun e => decide (e.state ≠ .closing))).length ≤ 32 →
          (flush o s).flk.out = s.flk.out ++ (s.sgq.queue.filter (fun e => decide (e.state ≠ .closing))).map (flushDone o)) :=
  flush_fold o [] s.sgq.queue s hf.copies rfl hf.positions

theorem flushEntry_onward (o : DoneOutcome) (s : State) {e : Entry} (hc : Safety.copyFits e = true) (h : e.state ≠ .active) :
    Onward s (flushEntry o s e) := by
  by_cases hcl : e.state = .closing
  · rw [flushEntry_closing o s hcl]; exact .refl s
  · obtain ⟨wc, active, -⟩ | ⟨-, he⟩ := flushEntry_ends o s hc hcl
    · exact absurd active h
    · rw [he]; exact (release_onward e s).trans (finishEntry_onward ..)

/-- The records after a flush of the queue of `s`, from a state with its records and its queue (R69, R99). -/
theorem flush_partly {s u : State} (hp : Pinned s) (o : DoneOutcome) (hq : u.sgq.queue = s.sgq.queue) (hstb : u.stb = s.stb)
    (haged : u.cpt.notices.aged = s.cpt.notices.aged) : PartlyWritten s (flush o u) := by
  have waiting : ∀ (l : List Entry) (t : State), (∀ x ∈ l, Safety.copyFits x = true ∧ x.state ≠ .active) → Onward t (l.foldl (flushEntry o) t) := by
    intro l
    induction l with
    | nil => exact fun t _ => .refl t
    | cons x l ih =>
      intro t hl
      obtain ⟨⟨fits, idle⟩, hl⟩ := List.forall_mem_cons.mp hl
      exact (flushEntry_onward o t fits idle).trans (ih _ hl)
  have start : Loosened s u := .of_stb hstb
  have copies := hp.fits.copies
  have tail := hp.fits.tail
  have distinct := hp.distinct
  unfold flush
  rw [hq]
  cases hqs : s.sgq.queue with
  | nil => exact partlyWritten_of_loosened (by unfold Sgq.activeWrite; rw [hqs]) start haged
  | cons e rest =>
    rw [hqs] at copies tail distinct
    obtain ⟨fits, restFits⟩ := List.forall_mem_cons.mp copies
    have idle : ∀ x ∈ rest, Safety.copyFits x = true ∧ x.state ≠ .active := fun x hx => by
      refine ⟨restFits x hx, fun h => ?_⟩
      have := tail x hx
      rw [Safety.waits, h] at this
      cases this
    rw [List.foldl_cons]
    have rest_onward := waiting rest (flushEntry o u e) idle
    refine partlyWritten_trans ?_ rest_onward.records rest_onward.aged
    by_cases active : ∃ wc, s.sgq.activeWrite = some (e, wc)
    · obtain ⟨wc, hw⟩ := active
      obtain ⟨-, hs, hc⟩ := activeWrite_eq_some.mp hw
      have nodup : (wc.sources.map (·.index)).Nodup := by
        have := distinct e List.mem_cons_self
        rwa [Entry.sources, hc] at this
      obtain ⟨wc', -, hc', he⟩ | ⟨no, -⟩ := flushEntry_ends o u fits (by rw [hs]; nofun)
      · obtain rfl : wc = wc' := Copy.strategy.inj (hc.symm.trans hc')
        have ended := finishEntry_onward (flushOutcome o e) e (partialWriteBack wc u)
        rw [he]
        exact partlyWritten_trans (partialWriteBack_partly hw nodup hstb haged) ended.records ended.aged
      · exact absurd hc (no hs wc)
    · have none : s.sgq.activeWrite = none := by
        rw [← Option.not_isSome_iff_eq_none, Option.isSome_iff_exists]
        rintro ⟨⟨e', wc⟩, h⟩
        have := (activeWrite_eq_some.mp h).1
        rw [hqs] at this
        obtain rfl : e = e' := Option.some.inj this
        exact active ⟨wc, h⟩
      have released : Onward u (flushEntry o u e) := by
        by_cases hcl : e.state = .closing
        · rw [flushEntry_closing o u hcl]; exact .refl u
        · obtain ⟨wc, hs, hc, -⟩ | ⟨-, he⟩ := flushEntry_ends o u fits hcl
          · exact absurd ⟨wc, activeWrite_eq_some.mpr ⟨by rw [hqs]; rfl, hs, hc⟩⟩ active
          · rw [he]; exact (release_onward e u).trans (finishEntry_onward ..)
      exact partlyWritten_of_loosened none (start.trans released.records) (released.aged.trans haged)

/-! ### The end of an event -/

/-- What a computation of the codes keeps, the end of an event keeps. -/
theorem settleCodes_keeps {α : Type} (f : State → α) (hf : ∀ b s, f (recompute b s) = f s) (s t : State) : f (settleCodes s t) = f t := by
  obtain h | h := settleCodes_cases s t <;> rw [h]
  exact hf _ t

theorem recompute_sgq (b : Bool) (s : State) : (recompute b s).sgq = (warnGoverning s.computeCodes s).sgq := by
  have reported : ∀ (key : Option Key) (ls : List LevelCode) (u : State), (ls.foldl (reportLevel key) u).sgq = u.sgq := fun key ls u =>
    foldl_keeps (fun t => t.sgq) _ (by intros; simp) _ _
  have warned : ∀ u : State, u.sgq = s.sgq → (warnGoverning s.computeCodes u).sgq = (warnGoverning s.computeCodes s).sgq := fun u hu => by
    simp only [warnGoverning, State.withHead, hu]
    split <;> simp only [hu]
  unfold recompute
  dsimp only
  rw [handOver_sgq, reported]
  split
  · exact warned _ rfl
  · rfl

/-- A computation keeps every entry's tag and state. -/
theorem warnGoverning_badges (c : Computed) (s : State) {β : Type} (f : Entry → β) (hf : ∀ e w, f { e with warnings := w } = f e) :
    (warnGoverning c s).sgq.queue.map f = s.sgq.queue.map f := by
  unfold warnGoverning State.withHead
  split
  · cases s.sgq.queue with
    | nil => rfl
    | cons e rest => exact congrArg (· :: rest.map f) (hf e _)
  · rfl

theorem settleCodes_badges (s t : State) {β : Type} (f : Entry → β) (hf : ∀ e w, f { e with warnings := w } = f e) :
    (settleCodes s t).sgq.queue.map f = t.sgq.queue.map f :=
  settleCodes_keeps (fun u => u.sgq.queue.map f) (fun b u => by rw [recompute_sgq]; exact warnGoverning_badges _ u f hf) s t

theorem settleCodes_partly {s t : State} (h : PartlyWritten s t) (u : State) : PartlyWritten s (settleCodes u t) := by
  have settled := settleCodes_onward u (.refl t)
  exact partlyWritten_trans h settled.records settled.aged

/-- The level selected and the outputs to come stand when the codes are computed. -/
theorem recompute_pgn (b : Bool) (s : State) : (recompute b s).pgn
    = if b = true ∨ s.lsc.laser ≠ .write then { s.pgn with presented := s.computeCodes.codes, waiting := none }
      else { s.pgn with waiting := some s.computeCodes.codes } := by
  have reported : ∀ (key : Option Key) (ls : List LevelCode) (u : State), (ls.foldl (reportLevel key) u).pgn = u.pgn
      ∧ (ls.foldl (reportLevel key) u).lsc = u.lsc := fun key ls u =>
    ⟨foldl_keeps (fun t => t.pgn) _ (by intros; simp) _ _, foldl_keeps (fun t => t.lsc) _ (by intros; simp) _ _⟩
  have noted : ∀ (d : Bool), (if d = true then s.withNotices ({ · with diodeTrackLimit := true }) else s).pgn = s.pgn
      ∧ (if d = true then s.withNotices ({ · with diodeTrackLimit := true }) else s).lsc = s.lsc := fun d => by cases d <;> exact ⟨rfl, rfl⟩
  unfold recompute handOver
  dsimp only
  rw [(reported _ _ _).1, (reported _ _ _).2, warnGoverning_pgn, warnGoverning_lsc, (noted _).1, (noted _).2]
  split <;> rfl

/-! ### QUEUE_ABORT -/

/-- The state with its laser out of WRITE, when it was in it. -/
def outOfWrite (l : LaserState) (s : State) : State := if s.lsc.laser = .write then leaveWrite l s else s

section
variable (l : LaserState) (s : State)

@[simp] theorem outOfWrite_sgq : (outOfWrite l s).sgq = s.sgq := by unfold outOfWrite; split <;> rfl
@[simp] theorem outOfWrite_stb : (outOfWrite l s).stb = s.stb := by unfold outOfWrite; split <;> rfl
@[simp] theorem outOfWrite_mst : (outOfWrite l s).mst = s.mst := by unfold outOfWrite; split <;> rfl
@[simp] theorem outOfWrite_flk : (outOfWrite l s).flk = s.flk := by unfold outOfWrite; split <;> rfl
@[simp] theorem outOfWrite_pkp : (outOfWrite l s).pkp = s.pkp := by unfold outOfWrite; split <;> rfl
@[simp] theorem outOfWrite_cpt : (outOfWrite l s).cpt = s.cpt := by unfold outOfWrite; split <;> rfl
@[simp] theorem outOfWrite_lines : (outOfWrite l s).lines = s.lines := by unfold outOfWrite; split <;> rfl
@[simp] theorem outOfWrite_pending : (outOfWrite l s).pending = s.pending := by unfold outOfWrite; split <;> rfl

theorem outOfWrite_lsc : (outOfWrite l s).lsc = if s.lsc.laser = .write then { s.lsc with laser := l } else s.lsc := by
  unfold outOfWrite; split <;> rfl

theorem outOfWrite_wgd : (outOfWrite l s).wgd = if s.lsc.laser = .write then { s.wgd with keepalive := none } else s.wgd := by
  unfold outOfWrite; split <;> rfl

theorem outOfWrite_pgn : (outOfWrite l s).pgn = if s.lsc.laser = .write then (periodClosed s).pgn else s.pgn := by
  unfold outOfWrite; split <;> rfl

end

theorem QueueFits.of_sgq {s t : State} (h : QueueFits s) (hq : t.sgq = s.sgq) : QueueFits t := h.sublist (by rw [hq])

/-- Behind the head nothing is CLOSING. -/
theorem closing_head {s : State} (hf : QueueFits s) : s.sgq.queue.filter (fun e => decide (e.state = .closing)) = []
    ∨ ∃ e rest, s.sgq.queue = e :: rest ∧ e.state = .closing
      ∧ s.sgq.queue.filter (fun e => decide (e.state = .closing)) = [e] := by
  cases hq : s.sgq.queue with
  | nil => exact .inl rfl
  | cons e rest =>
    have none : rest.filter (fun e => decide (e.state = .closing)) = [] := by
      rw [List.filter_eq_nil_iff]
      intro x hx hc
      have waits := hf.tail x (by rw [hq]; exact hx)
      rw [Safety.waits, of_decide_eq_true hc] at waits
      cases waits
    by_cases h : e.state = .closing
    · exact .inr ⟨e, rest, rfl, h, by rw [List.filter_cons_of_pos (by simpa using h), none]⟩
    · exact .inl (by rw [List.filter_cons_of_neg (by simpa using h), none])

theorem activeWrite_closing {s : State} {e : Entry} {rest : List Entry} (hq : s.sgq.queue = e :: rest) (h : e.state = .closing) :
    s.sgq.activeWrite = none := by
  unfold Sgq.activeWrite
  rw [hq]
  dsimp only
  rw [if_neg (by rw [h]; nofun)]

/-- QUEUE_ABORT's flush and the computation at its end. -/
def aborted (s : State) : State := settleCodes s (flush .aborted (outOfWrite .read s))

theorem serveQueueAbort_eq {s : State} (writes : s.lsc.laser = .write ↔ s.sgq.activeWrite.isSome = true) :
    serveQueueAbort [] s = replied 97 .ok [BitVec.ofNat 8 (s.sgq.queue.filter (·.state ≠ .closing)).length,
      if s.sgq.queue.any (·.state = .closing) = true then 1 else 0] (aborted s) := by
  have left : (if s.sgq.activeWrite.isSome = true ∧ s.lsc.laser = .write then leaveWrite .read s else s) = outOfWrite .read s := by
    unfold outOfWrite
    by_cases hw : s.lsc.laser = .write
    · rw [if_pos ⟨writes.mp hw, hw⟩, if_pos hw]
    · rw [if_neg (fun h => hw h.2), if_neg hw]
  unfold serveQueueAbort
  dsimp only
  rw [left, List.countP_eq_length_filter]
  have bool : ∀ b : Bool, putBool b = [if b = true then (1 : Byte) else 0] := fun b => by cases b <;> rfl
  rw [bool]
  rfl

theorem aborted_queue {s : State} (hf : QueueFits s) (writes : s.lsc.laser = .write ↔ s.sgq.activeWrite.isSome = true) :
    (aborted s).sgq.queue = s.sgq.queue.filter (·.state = .closing) := by
  obtain ⟨queue, -⟩ := flush_queue (hf.of_sgq (outOfWrite_sgq .read s)) .aborted
  rw [outOfWrite_sgq] at queue
  obtain none | ⟨e, rest, hq, hc, only⟩ := closing_head hf
  · have tags := settleCodes_badges s (flush .aborted (outOfWrite .read s)) (·.tag) fun _ _ => rfl
    rw [queue, none, List.map_nil, List.map_eq_nil_iff] at tags
    rw [none]
    exact tags
  · have reads : s.lsc.laser ≠ .write := fun h => by
      have := writes.mp h
      rw [activeWrite_closing hq hc] at this
      cases this
    unfold aborted
    rw [settleCodes_of_head, queue]
    · rw [flush_lsc, outOfWrite_lsc, if_neg reads]
    · rw [queue, only, hq]; rfl

/-- Settles O49: the laser leaves WRITE, then the flush, then the computation. -/
theorem queueAbortEndsTheQueue : Obligations.QueueAbortEndsTheQueue := by
  unfold Obligations.QueueAbortEndsTheQueue
  intro s idle guarded hpins
  obtain ⟨pinned, -⟩ := (pinsAgree_iff s).mp hpins
  obtain ⟨-, -, writes, -⟩ := guarded
  have fits := pinned.fits
  refine ⟨clocked (frame []) s (serveQueueAbort [] s), exec_frame (c := .queueAbort) (fun _ _ => rfl) idle rfl (by decide), ?_⟩
  rw [serveQueueAbort_eq writes]
  obtain ⟨-, out⟩ := flush_queue (fits.of_sgq (outOfWrite_sgq .read s)) .aborted
  have keeps : ∀ {α : Type} (f : State → α), (∀ b u, f (recompute b u) = f u) → f (aborted s) = f (flush .aborted (outOfWrite .read s)) :=
    fun f hf => settleCodes_keeps f hf s _
  refine ⟨aborted_queue fits writes, ?_, fun hw => ?_, ?_, fun room => ?_, rfl, ?_, ?_, ?_, ?_, ?_⟩
  · show (aborted s).lsc = _
    rw [keeps State.lsc recompute_lsc, flush_lsc, outOfWrite_lsc]
  · have changed : s.lsc.laser ≠ (flush .aborted (outOfWrite .read s)).lsc.laser := by
      rw [flush_lsc, outOfWrite_lsc, if_pos hw, hw]; nofun
    show (aborted s).pgn.level = _ ∧ (aborted s).pgn.edges = _ ∧ (aborted s).pgn.waiting = _
    unfold aborted
    rw [settleCodes_of_laser_ne changed, recompute_pgn, if_pos (.inl rfl), flush_pgn, outOfWrite_pgn, if_pos hw]
    exact ⟨rfl, rfl, rfl⟩
  · show (aborted s).wgd = _
    rw [keeps State.wgd recompute_wgd, flush_wgd, outOfWrite_wgd]
  · show (aborted s).flk.out = _
    rw [outOfWrite_flk, outOfWrite_sgq] at out
    rw [keeps State.flk recompute_flk, out room]
    have outcome : ∀ e : Entry, flushDone .aborted e = doneBytes e.tag e.cls .aborted e.warnings := fun e => by
      rw [flushDone, flushOutcome, ite_self]
    rw [funext outcome]
  · exact settleCodes_partly (flush_partly pinned .aborted (by rw [outOfWrite_sgq]) (outOfWrite_stb _ s) (by rw [outOfWrite_cpt])) s
  · show (aborted s).pkp = _
    rw [keeps State.pkp recompute_pkp, flush_pkp, outOfWrite_pkp]
  · show (aborted s).cpt.settings = _
    rw [keeps (·.cpt.settings) recompute_settings, flush_settings, outOfWrite_cpt]
  · show (aborted s).lines = _
    rw [keeps State.lines recompute_lines, flush_lines, outOfWrite_lines]
  · show (aborted s).pending = _
    rw [keeps State.pending recompute_pending, flush_pending, outOfWrite_pending]

end Sys2Proof.Machine

end


section
/-! SUPPORT. Entering HOLD from another laser state, a further cause in HOLD, and the samples that a trip leaves (O50). -/

namespace Sys2Proof.Machine

open Sys2Proof.Stated

/-! ### Entering HOLD (R174) -/

/-- The state in which HOLD is entered from `s`, with the write period closed and the queue not yet flushed. -/
def holding (c : HoldCause) (s : State) : State :=
  { outOfWrite .hold s with
    lsc :=
      { laser := .hold, causes := s.lsc.causes.join c, settle := none, ret := some (if s.lsc.laser = .off then .dark else .lit)
        offered := none } }

theorem enterHold_eq (c : HoldCause) (s : State) :
    enterHold c s = (flush .guard (holding c s)).withNotices ({ · with holdEntered := true }) := by
  unfold enterHold holding outOfWrite
  dsimp only
  split <;> rfl

section
variable (c : HoldCause) (s : State)

@[simp] theorem holding_sgq : (holding c s).sgq = s.sgq := outOfWrite_sgq _ s
@[simp] theorem holding_stb : (holding c s).stb = s.stb := outOfWrite_stb _ s
@[simp] theorem holding_flk : (holding c s).flk = s.flk := outOfWrite_flk _ s
@[simp] theorem holding_pkp : (holding c s).pkp = s.pkp := outOfWrite_pkp _ s
@[simp] theorem holding_cpt : (holding c s).cpt = s.cpt := outOfWrite_cpt _ s
@[simp] theorem holding_pending : (holding c s).pending = s.pending := outOfWrite_pending _ s

theorem holding_wgd : (holding c s).wgd = if s.lsc.laser = .write then { s.wgd with keepalive := none } else s.wgd := outOfWrite_wgd _ s

theorem holding_pgn : (holding c s).pgn = if s.lsc.laser = .write then (periodClosed s).pgn else s.pgn := outOfWrite_pgn _ s

theorem holding_plp : (holding c s).plp.diode = s.plp.diode ∧ (holding c s).plp.limits = s.plp.limits
    ∧ (holding c s).plp.sample = s.plp.sample := by
  unfold holding outOfWrite
  split <;> exact ⟨rfl, rfl, rfl⟩

end

/-- A state in which a hold cause is raised for `s`: it differs in nothing that the entry into HOLD reads or keeps. -/
structure Beside (s u : State) : Prop where
  stb : u.stb = s.stb
  sgq : u.sgq = s.sgq
  flk : u.flk = s.flk
  pkp : u.pkp = s.pkp
  plp : u.plp = s.plp
  lsc : u.lsc = s.lsc
  cpt : u.cpt = s.cpt
  pending : u.pending = s.pending
  keepalive : u.wgd.keepalive = s.wgd.keepalive
  supplyWarn : u.wgd.supplyWarn = s.wgd.supplyWarn
  level : u.pgn.level = s.pgn.level

theorem Beside.refl (s : State) : Beside s s := ⟨rfl, rfl, rfl, rfl, rfl, rfl, rfl, rfl, rfl, rfl, rfl⟩

/-- A cause raised outside HOLD, with the computation of the codes at the end of the event. -/
def held (c : HoldCause) (s u : State) : State := settleCodes s (raiseCause c u)

section
variable {c : HoldCause} {s u : State} (hb : Beside s u) (outside : s.lsc.laser ≠ .hold)
include hb outside

theorem held_eq : held c s u = recompute true (enterHold c u) := by
  have laser : (enterHold c u).lsc.laser = .hold := by rw [enterHold_eq]; show (flush _ _).lsc.laser = _; rw [flush_lsc]; rfl
  unfold held
  rw [raiseCause_enters c u (by rw [hb.lsc]; exact outside), settleCodes_of_laser_ne (by rw [laser]; exact outside)]

theorem held_lsc : (held c s u).lsc =
    { laser := .hold, causes := s.lsc.causes.join c, settle := none
      ret := some (if s.lsc.laser = .off then .dark else .lit), offered := none } := by
  rw [held_eq hb outside, recompute_lsc, enterHold_eq]
  show (flush _ _).lsc = _
  rw [flush_lsc, ← hb.lsc]
  rfl

theorem held_wgd : (held c s u).wgd = if s.lsc.laser = .write then { u.wgd with keepalive := none } else u.wgd := by
  rw [held_eq hb outside, recompute_wgd, enterHold_eq]
  show (flush _ _).wgd = _
  rw [flush_wgd, holding_wgd, hb.lsc]

/-- The codes presented in HOLD are those of a disabled laser when it is disabled (R148, R166). -/
theorem held_dark (hlen : (held c s u).lsc.len = false) : (held c s u).pgn.presented = CodeSet.zero := by
  rw [held_eq hb outside] at hlen ⊢
  rw [recompute_pgn, if_pos (.inl rfl)]
  rw [recompute_lsc] at hlen
  exact (computeCodes_values _).1 hlen

theorem held_entered (hp : Pinned s) (hk : s.wgd.keepalive.isSome = true ↔ s.lsc.laser = .write) : HoldEntered c s (held c s u) := by
  have start : (holding c u).sgq = s.sgq := (holding_sgq c u).trans hb.sgq
  obtain ⟨queue, out⟩ := flush_queue (hp.fits.of_sgq start) .guard
  rw [start] at queue out
  rw [holding_flk, hb.flk] at out
  have keeps : ∀ {α : Type} (f : State → α), (∀ b u, f (recompute b u) = f u) →
      f (held c s u) = f ((flush .guard (holding c u)).withNotices ({ · with holdEntered := true })) := fun f hf => by
    rw [held_eq hb outside, hf, enterHold_eq]
  refine ⟨by rw [held_lsc hb outside], fun _ => by rw [held_lsc hb outside], ?_, ?_, fun room => ?_, ?_, ?_, fun lit => ?_,
    held_dark hb outside, ?_, ?_, ?_, ?_, ?_, ?_, ?_, ?_⟩
  · rw [held_wgd hb outside]
    split
    · rfl
    · next h =>
      rw [hb.keepalive, ← Option.not_isSome_iff_eq_none]
      exact fun hs => h (hk.mp hs)
  · rw [keeps (fun t => t.sgq.queue.map (·.tag)) fun b v => by rw [recompute_sgq]; exact warnGoverning_badges _ v _ fun _ _ => rfl]
    exact congrArg (List.map (·.tag)) queue
  · rw [keeps State.flk recompute_flk]
    exact out room
  · rw [held_eq hb outside, (recompute_onward true _).holdEntered, enterHold_eq]
    rfl
  · have flushed := flush_partly hp .guard (u := holding c u) (by rw [start]) ((holding_stb c u).trans hb.stb) (by rw [holding_cpt, hb.cpt])
    rw [held_eq hb outside, enterHold_eq]
    have computed := recompute_onward true ((flush .guard (holding c u)).withNotices ({ · with holdEntered := true }))
    exact partlyWritten_trans (partlyWritten_trans flushed (.of_stb rfl) rfl) computed.records computed.aged
  · rw [held_eq hb outside, recompute_pgn, if_pos (.inl rfl), enterHold_eq]
    show (flush _ _).pgn.level = _
    rw [flush_pgn, holding_pgn, hb.lsc]
    split
    · rfl
    · next h => rw [hb.level]; exact lit.resolve_left h
  · rw [keeps State.pkp recompute_pkp]
    show (flush _ _).pkp = _
    rw [flush_pkp, holding_pkp, hb.pkp]
  · rw [keeps (·.plp.diode) fun b v => by rw [recompute_plp]]
    show (flush _ _).plp.diode = _
    rw [flush_plp, (holding_plp c u).1, hb.plp]
  · rw [keeps (·.plp.limits) fun b v => by rw [recompute_plp]]
    show (flush _ _).plp.limits = _
    rw [flush_plp, (holding_plp c u).2.1, hb.plp]
  · rw [keeps (·.plp.sample) fun b v => by rw [recompute_plp]]
    show (flush _ _).plp.sample = _
    rw [flush_plp, (holding_plp c u).2.2, hb.plp]
  · rw [keeps (·.cpt.settings) recompute_settings]
    show (flush _ _).cpt.settings = _
    rw [flush_settings, holding_cpt, hb.cpt]
  · rw [keeps (·.cpt.port) recompute_port]
    show (flush _ _).cpt.port = _
    rw [flush_port, holding_cpt, hb.cpt]
  · rw [held_wgd hb outside]
    split <;> exact hb.supplyWarn
  · rw [keeps State.pending recompute_pending]
    show (flush _ _).pending = _
    rw [flush_pending, holding_pending, hb.pending]

end

/-! ### A sample left by a trip (R163, R173) -/

/-- A sample left to be taken after a trip of the supply. -/
theorem keepSample_entered {s t : State} (h : HoldEntered .supplyTrip s t) {sample : Option OfferedSample}
    (hw : s.lsc.laser ≠ .write → sample = none) : HoldEntered .supplyTrip s (keepSample sample t) := by
  obtain ⟨-, hk⟩ | ⟨o, ho, hk⟩ := keepSample_cases sample t <;> rw [hk]
  · exact h
  · obtain ⟨hlsc, -, keepalive, tags, out, notice, partly, level, dark, rest⟩ := h
    refine ⟨?_, fun hne => ?_, keepalive, tags, out, notice, partly, level, dark, rest⟩
    · show ({ t.lsc with offered := _ } : Lsc) = _
      rw [hlsc]
    · obtain h | h := hne
      · exact absurd rfl h
      · rw [hw h] at ho; cases ho

theorem sampleDue_outside {s : State} (h : s.lsc.laser ≠ .write) : s.sampleDue = none := by
  cases hs : s.sampleDue with
  | none => rfl
  | some o => exact absurd (sampleDue_write s o hs) h

/-- What a supply trip finds due in a write: a space sample, a peak sample or none (R136, R137, R139). -/
theorem sampleDue_cases {s : State} {e : Entry} {wc : WorkingCopy} {rest : List Entry} {c : Captured} (hw : writing s e wc rest)
    (hc : e.captured = some c) :
    (∀ p ∈ s.pgn.spaces.head?, outputAt s.pgn p → ∀ h, s.pgn.held = some h →
        s.sampleDue = some { ceiling := c.ceiling, held := some h.reading })
      ∧ (∀ p ∈ s.pgn.peaks.head?, peakDue s.pgn p → s.sampleDue = some { ceiling := c.ceiling, held := none })
      ∧ ((∀ p ∈ s.pgn.spaces.head?, ¬ outputAt s.pgn p) → (∀ p ∈ s.pgn.peaks.head?, ¬ peakDue s.pgn p) → s.sampleDue = none) := by
  have due : s.sampleDue =
      if s.pgn.spaces.head?.any s.pgn.reached then s.pgn.held.map fun h => { ceiling := c.ceiling, held := some h.reading }
      else if s.pgn.peaks.head?.any s.pgn.peakReached then some { ceiling := c.ceiling, held := none }
      else none := by
    unfold State.sampleDue
    simp only [hw.1, activeWrite_of_writing hw, hc, Option.map_some, Option.getD_some]
  have space : s.pgn.spaces.head?.any s.pgn.reached = true ↔ ∃ p ∈ s.pgn.spaces.head?, outputAt s.pgn p := by
    cases s.pgn.spaces.head? <;> simp [reached_iff]
  have peak : s.pgn.peaks.head?.any s.pgn.peakReached = true ↔ ∃ p ∈ s.pgn.peaks.head?, peakDue s.pgn p := by
    cases s.pgn.peaks.head? <;> simp [peakReached_iff]
  rw [due]
  refine ⟨fun p hp hat h hh => ?_, fun p hp hdue => ?_, fun noSpace noPeak => ?_⟩
  · rw [if_pos (space.mpr ⟨p, hp, hat⟩), hh]; rfl
  · have spaceLater : ¬ ∃ q ∈ s.pgn.spaces.head?, outputAt s.pgn q := by
      rintro ⟨q, hq, hat⟩
      have before := hdue.2.2 q hq
      have comes : p ∈ upcoming s.pgn := by
        unfold upcoming
        cases hps : s.pgn.peaks with
        | nil => rw [hps] at hp; cases hp
        | cons x xs =>
          rw [hps] at hp
          obtain rfl : x = p := Option.some.inj hp
          simp
      have := hat.2 p comes
      omega
    rw [if_neg (mt space.mp spaceLater), if_pos (peak.mpr ⟨p, hp, hdue⟩)]
  · rw [if_neg (mt space.mp (by rintro ⟨p, hp, hat⟩; exact noSpace p hp hat)),
      if_neg (mt peak.mp (by rintro ⟨p, hp, hat⟩; exact noPeak p hp hat))]

/-! ### The supply trip -/

/-- The state in which a trip of the supply is raised. -/
def tripped (s : State) : State := { s with lines := { s.lines with ldtrip := true } }

theorem tripped_beside (s : State) : Beside s (tripped s) := ⟨rfl, rfl, rfl, rfl, rfl, rfl, rfl, rfl, rfl, rfl, rfl⟩

theorem exec_ldtripAssert (s : State) : exec .ldtripAssert s = .next (keepSample s.sampleDue (held .supplyTrip s (tripped s))) := rfl

theorem keepSample_offered {t : State} (ht : t.lsc.offered = none) (sample : Option OfferedSample) :
    (keepSample sample t).lsc.offered = if Config.sampleSurvivesTrip = true then sample else none := by
  obtain ⟨rfl, hk⟩ | ⟨o, rfl, hk⟩ := keepSample_cases sample t <;> rw [hk]
  · rw [ht, ite_self]

theorem join_ne {c : HoldCause} {l : HoldCauses} (h : l.has c = false) : l.join c ≠ l := by
  intro heq
  have joined : (l.join c).has c = true := by cases c <;> rfl
  rw [heq, h] at joined
  cases joined

/-- A further cause in HOLD, with the computation of the codes: the set grows, and the codes are those of the new set. -/
theorem held_joins {c : HoldCause} {s u : State} (laser : u.lsc.laser = s.lsc.laser) (causes : u.lsc.causes = s.lsc.causes)
    (hold : s.lsc.laser = .hold) (hc : s.lsc.causes.has c = false) : held c s u
      = recompute false ({ u with lsc := { u.lsc with causes := s.lsc.causes.join c } }.withNotices ({ · with holdEntered := true })) := by
  unfold held
  rw [raiseCause_joins c u (laser.trans hold) (by rw [causes]; exact hc), causes]
  have due : recomputeDue s ({ u with lsc := { u.lsc with causes := s.lsc.causes.join c } }.withNotices ({ · with holdEntered := true })) = true :=
    decide_eq_true (.inr (.inr ⟨laser.trans hold, (join_ne hc).symm⟩))
  rw [settleCodes, if_pos due]
  congr 1
  exact decide_eq_false (not_not.mpr laser.symm)

theorem held_again {c : HoldCause} {s u : State} (laser : u.lsc.laser = s.lsc.laser) (causes : u.lsc.causes = s.lsc.causes) (hg : u.sgq = s.sgq)
    (hold : s.lsc.laser = .hold) (hc : s.lsc.causes.has c = true) : held c s u = u := by
  unfold held settleCodes recomputeDue
  rw [raiseCause_again c u (laser.trans hold) (by rw [causes]; exact hc)]
  rw [laser, causes, hg]
  simp

/-- A sample with the cause that came before it in HOLD (R173). -/
theorem takeOffered_eq {s : State} (hold : s.lsc.laser = .hold) (o : OfferedSample) (m : Nat) :
    let taken : Lsc := { s.lsc with offered := none }
    let joined : State :=
      { s with
        lsc := { taken with causes := { s.lsc.causes with overpower := true } }
        cpt := { s.cpt with notices := { s.cpt.notices with holdEntered := true } } }
    takeOffered o m s = if o.ceiling + s.cpt.settings.tripMargin < m ∧ s.lsc.causes.overpower = false then recompute false joined
      else { s with lsc := taken } := by
  intro taken joined
  have take : takeOffered o m s = if o.ceiling + s.cpt.settings.tripMargin < m then held .overpower s { s with lsc := taken }
    else { s with lsc := taken } := rfl
  rw [take]
  by_cases above : o.ceiling + s.cpt.settings.tripMargin < m
  · rw [if_pos above]
    by_cases again : s.lsc.causes.overpower = true
    · rw [if_neg (fun h => by rw [again] at h; cases h.2), 
        held_again (s := s) (u := { s with lsc := taken }) (c := .overpower) rfl rfl rfl hold again]
    · have new : s.lsc.causes.overpower = false := by simpa using again
      rw [if_pos ⟨above, new⟩, held_joins (s := s) (u := { s with lsc := taken }) (c := .overpower) rfl rfl hold new]
      rfl
  · rw [if_neg above, if_neg (fun h => above h.1)]

theorem exec_peakSample_hold {s : State} (hold : s.lsc.laser = .hold) (m : Nat) : exec (.peakSample m) s
    = .next (match s.lsc.offered with
      | some o => if o.held = none then takeOffered o m s else s
      | none => s) := by
  change execPeakSample m s = _
  unfold execPeakSample
  simp only [hold]
  cases s.lsc.offered with
  | none => rfl
  | some o => dsimp only; split <;> rfl

theorem exec_spaceSample_hold {s : State} (hold : s.lsc.laser = .hold) : exec .spaceSample s
    = .next (match s.lsc.offered.bind fun o => o.held.map fun m => (o, m) with
      | some (o, m) => takeOffered o m s
      | none => s) := by
  change execSpaceSample s = _
  unfold execSpaceSample
  simp only [hold]
  cases s.lsc.offered.bind fun o => o.held.map fun m => (o, m) <;> rfl

/-- OVERPOWER disables the laser (R148, R166, R173). -/
theorem held_overpower {s u : State} (hb : Beside s u) (outside : s.lsc.laser ≠ .hold) :
    (held .overpower s u).pgn.presented = CodeSet.zero := by
  refine held_dark hb outside ?_
  rw [held_lsc hb outside]
  unfold Lsc.len
  simp [HoldCauses.join]

section
variable {s : State} {e : Entry} {wc : WorkingCopy} {rest : List Entry} {c : Captured} (hw : writing s e wc rest) (hc : e.captured = some c)
  {m : Nat} (above : c.ceiling + s.cpt.settings.tripMargin < m)
include hw hc above

/-- A peak sample above the trip level raises OVERPOWER (R162). -/
theorem exec_peakSample_above {p : Int} (hp : p ∈ s.pgn.peaks.head?) (hdue : peakDue s.pgn p) :
    ∃ u, Beside s u ∧ exec (.peakSample m) s = .next (held .overpower s u) := by
  obtain ⟨later, hl⟩ := List.head?_eq_some_iff.mp hp
  have trips : tripLevel e s < m := by rw [tripLevel, hc]; exact above
  refine ⟨{ s with pgn := { s.pgn with peaks := later } }, ⟨rfl, rfl, rfl, rfl, rfl, rfl, rfl, rfl, rfl, rfl, rfl⟩, ?_⟩
  rw [exec_peakSample_writing hw m hl, (peakReached_iff _ p).mpr hdue, if_neg nofun, if_pos trips]
  rfl

/-- A space sample above the trip level raises OVERPOWER (R162). -/
theorem exec_spaceSample_above {p : Int} (hp : p ∈ s.pgn.spaces.head?) (hat : outputAt s.pgn p) {h : HeldReading} (hh : s.pgn.held = some h)
    (hm : h.reading = m) : ∃ u, Beside s u ∧ exec .spaceSample s = .next (held .overpower s u) := by
  obtain ⟨later, hl⟩ := List.head?_eq_some_iff.mp hp
  have trips : tripLevel e s < h.reading := by rw [tripLevel, hc, hm]; exact above
  refine ⟨{ s with pgn := { s.pgn with spaces := later, held := none } }, ⟨rfl, rfl, rfl, rfl, rfl, rfl, rfl, rfl, rfl, rfl, rfl⟩, ?_⟩
  rw [exec_spaceSample_writing hw hl hh, (reached_iff _ p).mpr hat, if_neg nofun, if_pos trips]
  rfl

end

/-- A trip with an overpower sample due, and the sample with the trip behind it: the causes of either order (R163, R173). -/
theorem trip_and_overpower {s : State} {e : Entry} {wc : WorkingCopy} {rest : List Entry} {c : Captured} (hw : writing s e wc rest)
    (hc : e.captured = some c) (noCause : s.lsc.causes = HoldCauses.empty) {t : State} (entered : HoldEntered .supplyTrip s t)
    {p : Int} (hp : p ∈ s.pgn.peaks.head?) (hdue : peakDue s.pgn p)
    (hoffered : t.lsc.offered = if Config.sampleSurvivesTrip = true then some { ceiling := c.ceiling, held := none } else none)
    {m : Nat} (above : c.ceiling + s.cpt.settings.tripMargin < m) :
    ∃ u v w, exec (.peakSample m) t = .next u ∧ exec (.peakSample m) s = .next v ∧ exec .ldtripAssert v = .next w
      ∧ u.lsc.causes = { HoldCauses.empty with overpower := Config.sampleSurvivesTrip, supplyTrip := true }
      ∧ w.lsc.causes = { HoldCauses.empty with overpower := true, supplyTrip := true } := by
  obtain ⟨hlsc, -, -, -, -, -, -, -, -, -, -, -, -, hsettings, -⟩ := entered
  have outside : s.lsc.laser ≠ .hold := by rw [hw.1]; nofun
  have hold : t.lsc.laser = .hold := by rw [hlsc]
  have causes : t.lsc.causes = HoldCauses.empty.join .supplyTrip := by rw [hlsc, noCause]
  obtain ⟨v, beside, runs⟩ := exec_peakSample_above hw hc above hp hdue
  refine ⟨_, _, _, exec_peakSample_hold hold m, runs, exec_ldtripAssert _, ?_, ?_⟩
  · rw [hoffered]
    by_cases survives : Config.sampleSurvivesTrip = true
    · rw [if_pos survives, survives]
      dsimp only
      rw [if_pos rfl, takeOffered_eq hold]
      dsimp only
      rw [if_pos ⟨by rw [hsettings]; exact above, by rw [causes]; rfl⟩, recompute_lsc, causes]
      rfl
    · rw [if_neg survives, causes, Bool.eq_false_iff.mpr survives]
      rfl
  · have later : (held .overpower s v).lsc.laser = .hold := by rw [held_lsc beside outside]
    have joined : (held .overpower s v).lsc.causes = HoldCauses.empty.join .overpower := by rw [held_lsc beside outside, noCause]
    rw [sampleDue_outside (by rw [later]; nofun)]
    show (held .supplyTrip _ (tripped _)).lsc.causes = _
    rw [held_joins (c := .supplyTrip) (s := held .overpower s v) (u := tripped (held .overpower s v)) rfl rfl later (by rw [joined]; rfl),
      recompute_lsc, joined]
    rfl

/-- Settles O50: each cause raised outside HOLD enters it, and in HOLD joins the set. -/
theorem holdCausesEnterHold : Obligations.HoldCausesEnterHold := by
  unfold Obligations.HoldCausesEnterHold
  intro s guarded hpins
  obtain ⟨pinned, -⟩ := (pinsAgree_iff s).mp hpins
  obtain ⟨-, ⟨noCause, -, -, -, timer, -⟩, writes, -⟩ := guarded
  have entered : ∀ {c : HoldCause} {u : State}, Beside s u → s.lsc.laser ≠ .hold → HoldEntered c s (held c s u) := fun hb ho =>
    held_entered hb ho pinned timer
  refine ⟨fun k hw hk => ⟨fun due => ?_, fun early => ?_⟩, fun k hw hk hwindow hearly => ?_, fun hgate => ?_, fun ho => ?_, fun hold => ?_,
    fun e wc rest c m hw hc above => ⟨fun p hp hdue => ?_, fun p hp hat h hh hm => ?_⟩, fun e wc rest c t hw hc ht => ?_, fun hold o m ho => ?_⟩
  · have outside : s.lsc.laser ≠ .hold := by rw [hw]; nofun
    have run : exec .keepaliveExpiry s = if k.k ≤ k.count then .next (held .keepExpired s s)
        else if k.k = k.count + 1 ∧ s.wgd.tickTaken = false then
          .next (held .keepExpired s { s with wgd := { s.wgd with tickTaken := true } })
        else .next s := by
      change execKeepaliveExpiry s = _
      unfold execKeepaliveExpiry
      rw [hw, hk]
      rfl
    rw [run]
    by_cases ended : k.k ≤ k.count
    · rw [if_pos ended]
      have self := Beside.refl s
      refine ⟨_, rfl, entered self outside, ?_⟩
      rw [held_wgd self outside, if_pos hw, decide_eq_false (Nat.not_lt.mpr ended), Bool.or_false]
    · have last := due.resolve_left ended
      rw [if_neg ended, if_pos last]
      have beside : Beside s { s with wgd := { s.wgd with tickTaken := true } } := ⟨rfl, rfl, rfl, rfl, rfl, rfl, rfl, rfl, rfl, rfl, rfl⟩
      refine ⟨_, rfl, entered beside outside, ?_⟩
      rw [held_wgd beside outside, if_pos hw, decide_eq_true (Nat.not_le.mp ended), Bool.or_true]
  · change execKeepaliveExpiry s = _
    unfold execKeepaliveExpiry
    rw [hw, hk]
    dsimp only
    rw [if_neg (by omega), if_neg]
    rintro ⟨h1, h2⟩
    obtain h | ⟨-, h⟩ := early
    · omega
    · rw [h2] at h; cases h
  · have run : exec .keepStrobe s = .next (held .keepEarly s s) := by
      change execKeepStrobe s = _
      unfold execKeepStrobe Keepalive.window
      rw [hw, hk]
      dsimp only
      rw [if_pos ⟨hwindow, hearly⟩]
      rfl
    exact ⟨_, run, entered (.refl s) (by rw [hw]; nofun)⟩
  · have outside : s.lsc.laser ≠ .hold := by obtain h | h | ⟨h, -⟩ := hgate <;> rw [h] <;> nofun
    have run : exec .wgateRise s = .next (held .gateEarly s (s.observeGate true)) := by
      change execWgateRise s = _
      unfold execWgateRise
      obtain h | h | ⟨h, unarmed⟩ := hgate <;> rw [h]
      · rfl
      · rfl
      · have idle : s.sgq.headArmedWrite = false := by
          unfold Sgq.headArmedWrite
          cases hq : s.sgq.queue with
          | nil => rfl
          | cons e rest =>
            rw [hq] at unarmed
            have : e.state ≠ .armed := of_decide_eq_true unarmed
            simp [this]
        rw [idle]
        rfl
    exact ⟨_, run, entered ⟨rfl, rfl, rfl, rfl, rfl, rfl, rfl, rfl, rfl, rfl, rfl⟩ outside⟩
  · exact ⟨_, exec_ldtripAssert s,
      keepSample_entered (entered (tripped_beside s) ho) sampleDue_outside⟩
  · rw [exec_ldtripAssert, sampleDue_outside (by rw [hold]; nofun)]
    refine ⟨held .supplyTrip s (tripped s), rfl, ?_⟩
    by_cases again : s.lsc.causes.supplyTrip = true
    · rw [held_again (s := s) (u := tripped s) (c := .supplyTrip) rfl rfl rfl hold again]
      refine ⟨?_, rfl, rfl, fun new => by rw [again] at new; cases new⟩
      rw [← again]
      rfl
    · have new : s.lsc.causes.supplyTrip = false := by simpa using again
      rw [held_joins (s := s) (u := tripped s) (c := .supplyTrip) rfl rfl hold new]
      refine ⟨by rw [recompute_lsc]; rfl, by rw [recompute_lines]; rfl, ?_, fun _ => ⟨?_, ?_⟩⟩
      · rw [recompute_sgq]
        exact warnGoverning_badges _ _ _ fun _ _ => rfl
      · rw [(recompute_onward false _).holdEntered]; rfl
      · rw [recompute_pgn, if_pos (.inr (by show s.lsc.laser ≠ .write; rw [hold]; nofun))]
        refine (computeCodes_values _).1 ?_
        show Lsc.len { s.lsc with causes := s.lsc.causes.join .supplyTrip } = false
        unfold Lsc.len
        simp [hold, HoldCauses.join]
  · have outside : s.lsc.laser ≠ .hold := by rw [hw.1]; nofun
    obtain ⟨u, beside, runs⟩ := exec_peakSample_above hw hc above hp hdue
    exact ⟨_, runs, entered beside outside, held_overpower beside outside⟩
  · have outside : s.lsc.laser ≠ .hold := by rw [hw.1]; nofun
    obtain ⟨u, beside, runs⟩ := exec_spaceSample_above hw hc above hp hat hh hm
    exact ⟨_, runs, entered beside outside, held_overpower beside outside⟩
  · have outside : s.lsc.laser ≠ .hold := by rw [hw.1]; nofun
    have beside := tripped_beside s
    obtain rfl := Host.Outcome.next.inj ((exec_ldtripAssert s).symm.trans ht)
    have hold := keepSample_entered (entered beside outside) (sample := s.sampleDue) sampleDue_outside
    obtain ⟨space, peak, neither⟩ := sampleDue_cases hw hc
    have offered := keepSample_offered (t := held .supplyTrip s (tripped s)) (by rw [held_lsc beside outside]) s.sampleDue
    refine ⟨fun p hp hat h hh => by rw [offered, space p hp hat h hh], fun p hp hdue => by rw [offered, peak p hp hdue],
      fun hs hp => by rw [offered, neither hs hp, ite_self], fun m above p hp hdue => ?_⟩
    exact trip_and_overpower hw hc (noCause (.inr (.inr hw.1))) hold hp hdue (by rw [offered, peak p hp hdue]) above
  · rw [exec_peakSample_hold hold, exec_spaceSample_hold hold, ho]
    refine ⟨fun hnone => ?_, fun hsome => ?_⟩
    · dsimp only
      rw [if_pos hnone, takeOffered_eq hold, Option.bind_some, hnone]
      exact ⟨rfl, rfl⟩
    · refine ⟨?_, fun n => ?_⟩
      · rw [Option.bind_some, hsome]
        exact congrArg Host.Outcome.next (takeOffered_eq hold o m)
      · rw [exec_peakSample_hold hold, ho]
        dsimp only
        rw [if_neg (by rw [hsome]; nofun)]

end Sys2Proof.Machine

end


section
/-! SUPPORT. A loss of focus by the head it meets, and the focus layer (O53). -/

namespace Sys2Proof.Machine

open Sys2Proof.Stated

/-! ### A loss of focus (R121) -/

/-- The state in which a loss of focus meets the head. -/
def unfocused (s : State) : State := { s with pkp := { s.pkp with focus := .unknown } }.withNotices ({ · with focusLost := true })

theorem loseFocus_idle {s : State}
    (h : s.sgq.queue.head?.all (fun e => decide (e.state ≠ .active ∧ e.state ≠ .armed ∧ e.state ≠ .arming)) = true) :
    loseFocus s = unfocused s := by
  cases hq : s.sgq.queue with
  | nil => simp only [loseFocus, State.withNotices, hq]; rfl
  | cons e rest =>
    rw [hq] at h
    obtain ⟨h1, h2, h3⟩ := of_decide_eq_true h
    cases hs : e.state with
    | active => exact absurd hs h1
    | armed => exact absurd hs h2
    | arming => exact absurd hs h3
    | pending | resolving | ready | closing => simp only [loseFocus, State.withNotices, hq, hs]; rfl

theorem loseFocus_arming {s : State} {e : Entry} {rest : List Entry} (hq : s.sgq.queue = e :: rest) (ha : e.state = .arming) :
    loseFocus s = if s.lsc.laser = .read then jumpRequested e (unfocused s) else unfocused s := by
  have again : loseFocus s = judgeAgain (unfocused s) := by
    simp only [loseFocus, State.withNotices, hq, ha]; rfl
  rw [again, judgeAgain_arming (s := unfocused s) hq ha]
  unfold judgeHead judge
  by_cases hl : s.lsc.laser = .read
  · rw [if_neg (show ¬ (unfocused s).lsc.laser ≠ .read from not_not.mpr hl), if_pos hl]; rfl
  · rw [if_pos (show (unfocused s).lsc.laser ≠ .read from hl), if_neg hl]

/-- The state in which a head that runs or is armed ends with a loss of focus: its pins are gone, and a write has left the laser in READ. -/
structure LosesHead (s : State) (v : State) : Prop where
  sgq : v.sgq = s.sgq
  flk : v.flk = s.flk
  lsc : v.lsc = (outOfWrite .read s).lsc
  wgd : v.wgd = (outOfWrite .read s).wgd
  focusLost : v.cpt.notices.focusLost = true

theorem partialWriteBack_focusLost (wc : WorkingCopy) (s : State) :
    (partialWriteBack wc s).cpt.notices.focusLost = s.cpt.notices.focusLost := by
  unfold partialWriteBack
  refine foldl_keeps (fun u => u.cpt.notices.focusLost) _ (fun u h => ?_) _ _
  rw [unpin_cpt, addTally_notices]

/-- A head that runs or is armed ends (R121): by a partial write-back, or with its pins released. -/
theorem loseFocus_ends {s : State} {e : Entry} {rest : List Entry} (hq : s.sgq.queue = e :: rest) (hs : e.state = .active ∨ e.state = .armed)
    (hn : (e.sources.map (·.index)).Nodup) (writes : s.lsc.laser = .write ↔ s.sgq.activeWrite.isSome = true) :
    ∃ v, LosesHead s v ∧ PartlyWritten s v ∧ loseFocus s = goOn (finishEntry .focusLost e v) := by
  by_cases active : ∃ wc, e.state = .active ∧ e.copy = .strategy wc
  · obtain ⟨wc, ha, hc⟩ := active
    have hw : s.sgq.activeWrite = some (e, wc) := activeWrite_eq_some.mpr ⟨by rw [hq]; rfl, ha, hc⟩
    have nodup : (wc.sources.map (·.index)).Nodup := by rwa [Entry.sources, hc] at hn
    refine ⟨partialWriteBack wc (outOfWrite .read (unfocused s)), ⟨?_, ?_, ?_, ?_, ?_⟩,
      partialWriteBack_partly hw nodup (outOfWrite_stb _ _) (by rw [outOfWrite_cpt]; rfl), ?_⟩
    · rw [partialWriteBack_sgq, outOfWrite_sgq]; rfl
    · rw [partialWriteBack_flk, outOfWrite_flk]; rfl
    · rw [partialWriteBack_lsc, outOfWrite_lsc, outOfWrite_lsc]; rfl
    · rw [partialWriteBack_wgd, outOfWrite_wgd, outOfWrite_wgd]; rfl
    · rw [partialWriteBack_focusLost, outOfWrite_cpt]; rfl
    · simp only [loseFocus, State.withNotices, hq, ha, hc]; rfl
  · have none : s.sgq.activeWrite = none := by
      rw [← Option.not_isSome_iff_eq_none, Option.isSome_iff_exists]
      rintro ⟨⟨e', wc⟩, h⟩
      obtain ⟨head, ha, hc⟩ := activeWrite_eq_some.mp h
      rw [hq] at head
      obtain rfl : e = e' := Option.some.inj head
      exact active ⟨wc, ha, hc⟩
    have reads : s.lsc.laser ≠ .write := fun h => by
      have := writes.mp h
      rw [none] at this
      cases this
    have still : outOfWrite .read s = s := if_neg reads
    obtain ha | ha := hs
    · refine ⟨unfocused s, ⟨rfl, rfl, by rw [still]; rfl, by rw [still]; rfl, rfl⟩,
        partlyWritten_of_loosened none (.of_stb rfl) rfl, ?_⟩
      cases hc : e.copy with
      | strategy wc => exact absurd ⟨wc, ha, hc⟩ active
      | none | read p => simp only [loseFocus, State.withNotices, hq, ha, hc]; rfl
    · refine ⟨release e (unfocused s), ⟨?_, ?_, ?_, ?_, ?_⟩,
        partlyWritten_of_loosened none (release_loosened e (unfocused s)) (by rw [release_cpt]; rfl), ?_⟩
      · rw [release_sgq]; rfl
      · rw [release_flk]; rfl
      · rw [release_lsc, still]; rfl
      · rw [release_wgd, still]; rfl
      · rw [release_cpt]; rfl
      · simp only [loseFocus, State.withNotices, hq, ha]; rfl

/-- The end of a head at a loss of focus, and the queue going on behind it. -/
theorem lostHead {s : State} {e : Entry} {rest : List Entry} (hq : s.sgq.queue = e :: rest) (hf : QueueFits s) (before : State) {v : State}
    (h : LosesHead s v) (partly : PartlyWritten s v) :
    let t := settleCodes before (goOn (finishEntry .focusLost e v))
    (∀ x ∈ t.sgq.queue, x.tag ≠ e.tag)
      ∧ (s.flk.out.length < 32 → t.flk.out[s.flk.out.length]? = some (doneBytes e.tag e.cls .focusLost e.warnings))
      ∧ t.cpt.notices.focusLost = true ∧ PartlyWritten s t
      ∧ t.lsc = (if s.lsc.laser = .write then { s.lsc with laser := .read } else s.lsc)
      ∧ t.wgd = (if s.lsc.laser = .write then { s.wgd with keepalive := none } else s.wgd) := by
  intro t
  have onward : Onward (finishEntry .focusLost e v) t := settleCodes_onward before (goOn_onward _)
  have done : Onward v (finishEntry .focusLost e v) := finishEntry_onward ..
  have he : e ∈ v.sgq.queue := by rw [h.sgq, hq]; exact List.mem_cons_self
  have credits : Safety.QueueWithinCredits v := (hf.of_sgq h.sgq).credits
  obtain ⟨erased, -⟩ := finishEntry_tags credits he .focusLost
  refine ⟨fun x hx heq => ?_, fun room => ?_, ?_, partlyWritten_trans (partlyWritten_trans partly done.records done.aged) onward.records onward.aged,
    ?_, ?_⟩
  · have left : e.tag ∈ (v.sgq.queue.map (·.tag)).erase e.tag := by
      rw [← erased, ← heq]
      exact onward.tags.subset (List.mem_map_of_mem hx)
    exact List.Nodup.not_mem_erase credits.2.1 left
  · obtain ⟨more, out⟩ := onward.out
    rw [out, finishEntry_flk _ _ _ (by rw [h.flk]; exact room), h.flk, List.append_assoc]
    rw [List.getElem?_append_right le_rfl, Nat.sub_self]
    rfl
  · rw [onward.focusLost, done.focusLost, h.focusLost]
  · show (settleCodes _ _).lsc = _
    rw [settleCodes_keeps State.lsc recompute_lsc, goOn_lsc, finishEntry_lsc, h.lsc, outOfWrite_lsc]
  · show (settleCodes _ _).wgd = _
    rw [settleCodes_keeps State.wgd recompute_wgd, goOn_wgd, finishEntry_wgd, h.wgd, outOfWrite_wgd]

/-- Settles O53, by the focus layer state, and a loss by the state of the head. -/
theorem focusAndJumps : Obligations.FocusAndJumps := by
  unfold Obligations.FocusAndJumps
  intro s
  refine ⟨fun l => ⟨fun hf => ?_, fun t a hf hne => ?_, fun a hf => ?_⟩, fun hf => ⟨?_, fun f => ?_⟩, fun f hf => ?_,
    fun guarded hpins l c lines hf hc => ?_, fun t ht => ⟨fun a hf => ?_, fun hf => ⟨fun e rest hq ha hr => ?_, fun hh => ?_⟩⟩⟩
  · change execFokRise l s = _
    simp only [execFokRise, hf]
  · change execFokRise l s = _
    simp only [execFokRise, hf, if_neg hne]
  · change execFokRise l s = _
    simp only [execFokRise, hf, if_true]
    rfl
  · change execFokFall s = _
    unfold execFokFall
    dsimp only
    cases h : s.pkp.focus with
    | steady l => exact absurd h (hf l)
    | unknown | jumping t a => rfl
  · change execFlayChange f s = _
    unfold execFlayChange
    dsimp only
    cases h : s.pkp.focus with
    | steady l => exact absurd h (hf l)
    | unknown | jumping t a => rfl
  · change execFlayChange f s = _
    unfold execFlayChange
    dsimp only
    cases h : s.pkp.focus with
    | unknown | jumping t a => rfl
    | steady l =>
      refine if_neg ?_
      rintro ⟨hne, hfok⟩
      obtain hsteady | hlow := hf
      · rw [h] at hsteady
        exact hne (FocusState.steady.inj hsteady).symm
      · rw [hlow] at hfok; cases hfok
  · obtain ⟨pinned, -⟩ := (pinsAgree_iff s).mp hpins
    obtain ⟨-, -, writes, -⟩ := guarded
    intro u
    have run : exec c s = .next (settleCodes s (loseFocus { s with lines })) := by
      obtain ⟨rfl, rfl⟩ | ⟨f, rfl, hne, hfok, rfl⟩ := hc
      · change execFokFall s = _
        simp only [execFokFall, hf]
      · change execFlayChange f s = _
        simp only [execFlayChange, hf]
        rw [if_pos ⟨hne, hfok⟩]
    have still : ∀ v : State, v.lsc = s.lsc → v.sgq.queue = s.sgq.queue → settleCodes s v = v := fun v hl hv =>
      settleCodes_of_head hl (by rw [hv])
    rw [run]
    refine ⟨fun hidle => ?_, fun e he ha => ?_, fun e he hs => ?_⟩
    · rw [loseFocus_idle (s := { s with lines }) hidle, still (unfocused { s with lines }) rfl rfl]
      rfl
    · obtain ⟨rest, hq⟩ := List.head?_eq_some_iff.mp he
      rw [loseFocus_arming (s := { s with lines }) hq ha]
      split
      · rw [still (jumpRequested e (unfocused { s with lines })) rfl rfl]; rfl
      · rw [still (unfocused { s with lines }) rfl rfl]; rfl
    · obtain ⟨rest, hq⟩ := List.head?_eq_some_iff.mp he
      have distinct := pinned.distinct e (by rw [hq]; exact List.mem_cons_self)
      obtain ⟨v, loses, partly, ended⟩ := loseFocus_ends (s := { s with lines }) hq hs distinct writes
      rw [ended]
      exact ⟨_, rfl, lostHead (s := { s with lines }) hq (pinned.fits.of_sgq rfl) s loses partly⟩
  · change execJumpTimerExpiry s = _
    simp only [execJumpTimerExpiry, hf, ht]
  · have run : execJumpTimerExpiry s = .next (settleCodes s (goOn (endEntry .jumpFail e (endJump .unknown s)))) := by
      simp only [execJumpTimerExpiry, hf, ht, hq]
      rw [if_pos ⟨ha, hr⟩]
    exact run
  · have run : execJumpTimerExpiry s = .next (settleCodes s (judgeAgain (endJump .unknown s))) := by
      cases hq : s.sgq.queue with
      | nil =>
        have again : judgeAgain (endJump .unknown s) = endJump .unknown s := judgeAgain_idle (by
          show s.sgq.queue.head?.all _ = true
          rw [hq]; rfl)
        have still : settleCodes s (endJump .unknown s) = endJump .unknown s := settleCodes_of_head rfl rfl
        simp only [execJumpTimerExpiry, hf, ht, hq, again, still]
      | cons e rest =>
        rw [hq] at hh
        simp only [execJumpTimerExpiry, hf, ht, hq]
        rw [if_neg (fun h => (of_decide_eq_true hh).elim (fun h' => h' h.1) fun h' => h' h.2)]
    exact run

end Sys2Proof.Machine

end


section
/-! SUPPORT. The laser's promises through every command: what touches neither laser nor generator, and what the end of an event restores
(O17). -/

namespace Sys2Proof.Machine

open Sys2Proof.Stated

/-! ### What the promises speak of -/

/-- What the laser's promises speak of: laser state, keepalive period, generator and accumulations. -/
def State.light (s : State) : Lsc × Option Keepalive × Pgn × ReturnAcc × TrackAcc :=
  (s.lsc, s.wgd.keepalive, s.pgn, s.plp.returns, s.plp.track)

theorem light_eq {s t : State} (hl : t.lsc = s.lsc) (hw : t.wgd = s.wgd) (hg : t.pgn = s.pgn) (hp : t.plp = s.plp) : t.light = s.light := by
  unfold State.light; rw [hl, hw, hg, hp]

theorem light_iff (s t : State) : t.light = s.light ↔ t.lsc = s.lsc ∧ t.wgd.keepalive = s.wgd.keepalive ∧ t.pgn = s.pgn
    ∧ t.plp.returns = s.plp.returns ∧ t.plp.track = s.plp.track := by
  unfold State.light
  simp only [Prod.mk.injEq]

/-- The laser's promises from one state to another (R127, R148, R166, R178). -/
structure LaserSound (s t : State) : Prop where
  consistent : Safety.LaserConsistent s → Safety.LaserConsistent t
  safe : Safety.LaserSafe s → Safety.LaserSafe t

theorem LaserSound.of_light {s t : State} (h : t.light = s.light) : LaserSound s t := by
  obtain ⟨hlsc, hkeep, hpgn, hret, htrack⟩ := (light_iff s t).mp h
  have consistent : Safety.LaserConsistent s → Safety.LaserConsistent t := fun hs => by
    unfold Safety.LaserConsistent
    rw [hlsc, hkeep]
    exact hs
  refine ⟨consistent, fun ⟨hs, hperiod, hdark⟩ => ⟨consistent hs, fun hw => ?_, fun hlen => ?_⟩⟩
  · rw [hpgn, hret, htrack]
    rw [hlsc] at hw
    exact hperiod hw
  · rw [hpgn]
    rw [hlsc] at hlen
    exact hdark hlen

theorem LaserSound.refl (s : State) : LaserSound s s := ⟨id, id⟩

theorem LaserSound.trans {s t u : State} (h : LaserSound s t) (h' : LaserSound t u) : LaserSound s u :=
  ⟨h'.consistent ∘ h.consistent, h'.safe ∘ h.safe⟩

/-! ### A computation restores what the end of a write leaves -/

/-- A generator with nothing of a write period left but its code sets (R135). -/
def Pgn.Ended (g : Pgn) : Prop := g = { g.closed with presented := g.presented, waiting := g.waiting }

/-- Outside WRITE the write period is closed, but for the code sets, of which one may still wait for the computation at the end of the event
(R135, R140). -/
def PeriodEnds (s : State) : Prop :=
  s.lsc.laser ≠ .write →
    s.pgn.Ended ∧ s.plp.returns = ReturnAcc.empty ∧ s.plp.track = TrackAcc.empty

theorem PeriodEnds.of_light {s t : State} (h : t.light = s.light) (hs : PeriodEnds s) : PeriodEnds t := by
  obtain ⟨hlsc, -, hpgn, hret, htrack⟩ := (light_iff s t).mp h
  unfold PeriodEnds
  rw [hlsc, hpgn, hret, htrack]
  exact hs

theorem periodEnds_of_fits {s : State} (h : Safety.WritePeriodFits s) : PeriodEnds s := fun hw => by
  obtain ⟨hpgn, hret, htrack⟩ := h hw
  refine ⟨?_, hret, htrack⟩
  unfold Pgn.Ended
  have waiting : s.pgn.waiting = none := by rw [hpgn]; rfl
  rw [waiting]
  exact hpgn

/-- A computation of the codes presents them outside WRITE and empties what waits (R140, R148). -/
theorem recompute_safe {s : State} (b : Bool) (hc : Safety.LaserConsistent s) (hp : PeriodEnds s) : Safety.LaserSafe (recompute b s) := by
  refine ⟨?_, fun hw => ?_, fun hlen => ?_⟩
  · unfold Safety.LaserConsistent
    rw [recompute_lsc, recompute_wgd]
    exact hc
  · rw [recompute_lsc] at hw
    obtain ⟨hpgn, hret, htrack⟩ := hp hw
    rw [recompute_pgn, if_pos (.inr hw), recompute_plp]
    refine ⟨?_, hret, htrack⟩
    unfold Pgn.Ended at hpgn
    rw [hpgn]
    rfl
  · rw [recompute_lsc] at hlen
    have dark : s.lsc.laser ≠ .write := fun h => by simp [Lsc.len, h] at hlen
    rw [recompute_pgn, if_pos (.inr dark)]
    exact (computeCodes_values s).1 hlen

/-- The end of an event: the codes are computed, or nothing that they depend on has changed and the promises stand by themselves. -/
theorem settleCodes_safe {s u : State} (hc : Safety.LaserConsistent u) (hp : PeriodEnds u)
    (same : u.lsc.laser = s.lsc.laser → (u.lsc.laser = .hold → s.lsc.causes = u.lsc.causes) → Safety.LaserSafe u) :
    Safety.LaserSafe (settleCodes s u) := by
  unfold settleCodes
  by_cases due : recomputeDue s u = true
  · rw [if_pos due]
    exact recompute_safe _ hc hp
  · rw [if_neg due]
    have still : ¬ (s.lsc.laser ≠ u.lsc.laser ∨ s.sgq.governing.map (·.pos) ≠ u.sgq.governing.map (·.pos)
        ∨ (u.lsc.laser = .hold ∧ s.lsc.causes ≠ u.lsc.causes)) := fun h => due (decide_eq_true h)
    push Not at still
    exact same still.1.symm still.2.2

theorem settleCodes_consistent {s u : State} (hc : Safety.LaserConsistent u) : Safety.LaserConsistent (settleCodes s u) := by
  unfold Safety.LaserConsistent
  rw [settleCodes_keeps State.lsc recompute_lsc, settleCodes_keeps State.wgd recompute_wgd]
  exact hc

theorem settled_light {s u : State} (h : u.light = s.light) (before : State) : LaserSound s (settleCodes before u) := by
  have sound := LaserSound.of_light h
  refine ⟨fun hs => settleCodes_consistent (sound.consistent hs), fun hs => ?_⟩
  obtain ⟨hc, hp, hd⟩ := sound.safe hs
  exact settleCodes_safe hc (periodEnds_of_fits hp) fun _ _ => ⟨hc, hp, hd⟩

theorem recomputed_light {s u : State} (h : u.light = s.light) (b : Bool) : LaserSound s (recompute b u) := by
  have sound := LaserSound.of_light h
  have computed : Safety.LaserConsistent u → Safety.LaserConsistent (recompute b u) := fun hs => by
    unfold Safety.LaserConsistent
    rw [recompute_lsc, recompute_wgd]
    exact hs
  exact ⟨fun hs => computed (sound.consistent hs), fun hs =>
    recompute_safe b (sound.safe hs).1 (periodEnds_of_fits (sound.safe hs).2.1)⟩

/-! ### Commands that touch neither laser nor generator -/

theorem TablesOnly.light {s t : State} (h : TablesOnly s t) : t.light = s.light := by
  obtain ⟨hlsc, hwgd, -, hpgn, hplp, -⟩ := h.rest
  exact light_eq hlsc hwgd hpgn hplp

section
variable (s : State)

@[simp] theorem answer_light (code : Byte) (st : Status) (p : List Byte) : (answer code st p s).light = s.light := rfl
@[simp] theorem answerStatus_light (code : Byte) (st : Status) : (answerStatus code st s).light = s.light := rfl
@[simp] theorem send_light (m : List Byte) : (send m s).light = s.light := light_eq (by simp) (by simp) (by simp) (by simp)
@[simp] theorem finishEntry_light (o : DoneOutcome) (e : Entry) : (finishEntry o e s).light = s.light := light_eq (by simp) (by simp) (by simp) (by simp)
@[simp] theorem endEntry_light (o : DoneOutcome) (e : Entry) : (endEntry o e s).light = s.light := light_eq (by simp) (by simp) (by simp) (by simp)
@[simp] theorem goOn_light : (goOn s).light = s.light := light_eq (by simp) (by simp) (by simp) (by simp)
@[simp] theorem judgeAgain_light : (judgeAgain s).light = s.light := light_eq (by simp) (by simp) (by simp) (by simp)
@[simp] theorem arbiter_light : (arbiter s).light = s.light := light_eq (by simp) (by simp) (by simp) (by simp)
@[simp] theorem reResolve_light (p : Entry → Bool) : (reResolve p s).light = s.light := (reResolve_tablesOnly p s).light
@[simp] theorem leaveService_light (i : Nat) : (leaveService i s).light = s.light := (leaveService_tablesOnly i s).light
@[simp] theorem freePlace_light (i : Nat) : (freePlace i s).light = s.light := (freePlace_tablesOnly i s).light
@[simp] theorem placeRecord_light (i : Nat) (r : Record) : (placeRecord i r s).light = s.light := rfl
@[simp] theorem countEvent_light (ev : CounterEvent) (k : Option Key) (n : Nat) : (countEvent ev k n s).light = s.light := rfl
@[simp] theorem withHead_light (f : Entry → Entry) : (s.withHead f).light = s.light := light_eq (by simp) (by simp) (by simp) (by simp)
@[simp] theorem partialWriteBack_light (wc : WorkingCopy) : (partialWriteBack wc s).light = s.light :=
  light_eq (by simp) (by simp) (by simp) (by simp)
@[simp] theorem matchesRetired_light (l : List Nat) : (matchesRetired l s).light = s.light := (matchesRetired_tablesOnly l s).light
@[simp] theorem linkFault_light : (linkFault s).light = s.light := rfl

end

/-! ### Requests that touch neither laser nor generator -/

section
variable (s : State)

@[simp] theorem withPlace_light (i : Nat) (f : Place → Place) : (s.withPlace i f).light = s.light := rfl
@[simp] theorem withRecord_light (i : Nat) (f : Record → Record) : (s.withRecord i f).light = s.light := rfl
@[simp] theorem withSlot_light (i : Nat) (f : Slot → Slot) : (s.withSlot i f).light = s.light := rfl
@[simp] theorem joinWaitList_light (code : Byte) (r : HostLookup) : (joinWaitList code r s).light = s.light := by
  unfold joinWaitList
  rw [arbiter_light]
  rfl

theorem withHandle_light (code : Byte) (index gen : Nat) {work : Record → State → State} (h : ∀ r, (work r s).light = s.light) :
    (withHandle code index gen work s).light = s.light := by
  unfold withHandle
  (repeat' split) <;> simp [h]

end

section
variable (p : List Byte) (s : State)

theorem serveCounterSet_light : (serveCounterSet p s).light = s.light := by
  unfold serveCounterSet
  (repeat' split) <;> rfl

theorem serveCounterRead_light : (serveCounterRead p s).light = s.light := by
  unfold serveCounterRead
  split <;> rfl

theorem serveDiodeRead_light : (serveDiodeRead p s).light = s.light := rfl
theorem serveSupplyAck_light : (serveSupplyAck p s).light = s.light := by
  unfold serveSupplyAck
  split <;> rfl

theorem serveMediaInstall_light : (serveMediaInstall p s).light = s.light := by
  unfold serveMediaInstall
  dsimp only
  (repeat' split) <;> rfl

theorem serveMediaAmend_light : (serveMediaAmend p s).light = s.light := by
  unfold serveMediaAmend
  dsimp only
  (repeat' split) <;> rfl

theorem serveMediaMount_light : (serveMediaMount p s).light = s.light := by
  unfold serveMediaMount
  dsimp only
  (repeat' split) <;> rfl

theorem serveMediaUnmount_light : (serveMediaUnmount p s).light = s.light := by
  unfold serveMediaUnmount
  (repeat' split) <;> rfl

theorem serveMediaRetire_light : (serveMediaRetire p s).light = s.light := by
  unfold serveMediaRetire
  dsimp only
  (repeat' split) <;> rfl

theorem serveMediaRead_light : (serveMediaRead p s).light = s.light := by
  unfold serveMediaRead
  split <;> rfl

theorem serveZoneMap_light : (serveZoneMap p s).light = s.light := by
  unfold serveZoneMap
  dsimp only
  (repeat' split) <;> rfl

theorem serveSpeedMap_light : (serveSpeedMap p s).light = s.light := by
  unfold serveSpeedMap
  dsimp only
  (repeat' split) <;> rfl

theorem servePickupRead_light : (servePickupRead p s).light = s.light := rfl
theorem serveNoticesRead_light : (serveNoticesRead p s).light = s.light := rfl
theorem serveStatus_light : (serveStatus p s).light = s.light := rfl
theorem serveIdent_light : (serveIdent p s).light = s.light := rfl
theorem serveQueueRead_light : (serveQueueRead p s).light = s.light := rfl
theorem serveRecFind_light : (serveRecFind p s).light = s.light := by
  unfold serveRecFind
  dsimp only
  (repeat' split) <;> simp

theorem serveRecScan_light : (serveRecScan p s).light = s.light := by
  unfold serveRecScan
  (repeat' split) <;> simp

theorem serveRecInstall_light : (serveRecInstall p s).light = s.light := by
  unfold serveRecInstall
  dsimp only
  (repeat' split) <;> simp [sendBackAll]

theorem serveRecAmend_light : (serveRecAmend p s).light = s.light := by
  unfold serveRecAmend
  refine withHandle_light s _ _ _ fun r => ?_
  dsimp only
  (repeat' split) <;> simp [sendBackAll]

theorem serveRecPromote_light : (serveRecPromote p s).light = s.light := by
  unfold serveRecPromote
  refine withHandle_light s _ _ _ fun r => ?_
  dsimp only
  (repeat' split) <;> simp [sendBackAll]

theorem serveRecRetire_light : (serveRecRetire p s).light = s.light := by
  unfold serveRecRetire
  refine withHandle_light s _ _ _ fun r => ?_
  dsimp only
  (repeat' split) <;> simp [sendBackAll]

theorem serveRecRetireMatch_light : (serveRecRetireMatch p s).light = s.light := by
  unfold serveRecRetireMatch
  (repeat' split) <;> simp

theorem serveRecRead_light : (serveRecRead p s).light = s.light := by
  unfold serveRecRead
  exact withHandle_light s _ _ _ fun r => rfl

end

end Sys2Proof.Machine

end


section
/-! SUPPORT. The laser's promises through the commands that change laser, write period or codes, and with them every command (O17). -/

namespace Sys2Proof.Machine

open Sys2Proof.Stated

/-! ### Changes of the laser state -/

/-- A change of the laser state outside WRITE, with the computation at the end of the event. -/
theorem laser_changed {s u : State} (outside : s.lsc.laser ≠ .write) (changed : u.lsc.laser ≠ s.lsc.laser) (hpgn : u.pgn = s.pgn)
    (hret : u.plp.returns = s.plp.returns) (htrack : u.plp.track = s.plp.track)
    (hc : Safety.LaserConsistent s → Safety.LaserConsistent u) : LaserSound s (settleCodes s u) := by
  refine ⟨fun hs => settleCodes_consistent (hc hs), fun ⟨hs, hp, _⟩ => settleCodes_safe (hc hs) (fun _ => ?_) fun same => absurd same changed⟩
  rw [hpgn, hret, htrack]
  exact periodEnds_of_fits hp outside

/-- In WRITE generator and power loop are free: a change of them alone keeps the promises. -/
theorem LaserSound.of_write {s t : State} (hw : s.lsc.laser = .write) (hlsc : t.lsc = s.lsc) (hkeep : t.wgd.keepalive = s.wgd.keepalive) :
    LaserSound s t := by
  have consistent : Safety.LaserConsistent s → Safety.LaserConsistent t := fun hs => by
    unfold Safety.LaserConsistent
    rw [hlsc, hkeep]
    exact hs
  refine ⟨consistent, fun ⟨hs, _, _⟩ => ⟨consistent hs, fun h => absurd (hlsc ▸ hw) h, fun hlen => ?_⟩⟩
  rw [hlsc, Lsc.len, hw] at hlen
  cases hlen

/-- The laser out of WRITE to READ, with the computation at the end of the event (R135, R172). -/
theorem outOfWrite_sound {s v u : State} (hv : v.light = s.light) (hu : u.light = (outOfWrite .read v).light) :
    LaserSound s (settleCodes s u) := by
  obtain ⟨vlsc, vkeep, vpgn, vret, vtrack⟩ := (light_iff s v).mp hv
  by_cases hw : v.lsc.laser = .write
  · have out : outOfWrite .read v = leaveWrite .read v := if_pos hw
    rw [out] at hu
    obtain ⟨ulsc, ukeep, upgn, uret, utrack⟩ := (light_iff _ u).mp hu
    have hws : s.lsc.laser = .write := vlsc ▸ hw
    have laser : u.lsc = { s.lsc with laser := .read } := by rw [ulsc, ← vlsc]; rfl
    have keep : u.wgd.keepalive = none := ukeep
    have consistent : Safety.LaserConsistent s → Safety.LaserConsistent u := by
      rintro ⟨noCause, -, settle, ret, -, offered⟩
      have causes := noCause (.inr (.inr hws))
      unfold Safety.LaserConsistent
      rw [laser, keep]
      refine ⟨fun _ => causes, nofun, ⟨fun h => ?_, nofun⟩, ⟨fun h => ?_, nofun⟩, ⟨nofun, nofun⟩, fun h => ?_⟩
      · have := settle.mp h
        rw [hws] at this; cases this
      · have := ret.mp h
        rw [hws] at this; cases this
      · have := (offered h).1
        rw [hws] at this; cases this
    refine ⟨fun hs => settleCodes_consistent (consistent hs), fun hs => settleCodes_safe (consistent hs.1) (fun _ => ?_) fun same => ?_⟩
    · rw [upgn, uret, utrack]
      exact ⟨rfl, rfl, rfl⟩
    · rw [laser, hws] at same
      cases same
  · have out : outOfWrite .read v = v := if_neg hw
    rw [out] at hu
    exact settled_light (hu.trans hv) s

/-! ### Hold causes -/

theorem join_ne_empty (c : HoldCause) (l : HoldCauses) : l.join c ≠ HoldCauses.empty := by
  intro h
  have joined : (l.join c).has c = true := by cases c <;> rfl
  have absent : HoldCauses.empty.has c = false := by cases c <;> rfl
  rw [h, absent] at joined
  cases joined

/-- A hold cause raised, with the computation at the end of the event; `u` may have dropped what a sample took of a write period. -/
theorem held_sound {s u : State} (c : HoldCause) (hlsc : u.lsc = s.lsc) (hsgq : u.sgq = s.sgq) (hkeep : u.wgd.keepalive = s.wgd.keepalive)
    (hplp : u.plp = s.plp) (hpgn : s.lsc.laser ≠ .write → u.pgn = s.pgn) : LaserSound s (held c s u) := by
  by_cases hold : s.lsc.laser = .hold
  · have hpgn := hpgn (by rw [hold]; nofun)
    cases hc : s.lsc.causes.has c with
    | true =>
      rw [held_again (by rw [hlsc]) (by rw [hlsc]) hsgq hold hc]
      exact .of_light ((light_iff s u).mpr ⟨hlsc, hkeep, hpgn, by rw [hplp], by rw [hplp]⟩)
    | false =>
      rw [held_joins (by rw [hlsc]) (by rw [hlsc]) hold hc]
      set v : State := ({ u with lsc := { u.lsc with causes := s.lsc.causes.join c } }.withNotices ({ · with holdEntered := true })) with hv
      have laser : v.lsc = { s.lsc with causes := s.lsc.causes.join c } := by
        show ({ u.lsc with causes := s.lsc.causes.join c } : Lsc) = _
        rw [hlsc]
      have consistent : Safety.LaserConsistent s → Safety.LaserConsistent v := by
        rintro ⟨-, -, settle, ret, keep, offered⟩
        unfold Safety.LaserConsistent
        rw [laser, show v.wgd.keepalive = s.wgd.keepalive from hkeep]
        refine ⟨fun h => ?_, fun _ => join_ne_empty c _, settle, ret, keep, fun h => ⟨hold, ?_⟩⟩
        · have : s.lsc.laser = .settling ∨ s.lsc.laser = .read ∨ s.lsc.laser = .write := h
          rw [hold] at this
          simp at this
        · have trip := (offered h).2
          cases c with
          | supplyTrip => rfl
          | overpower | keepExpired | keepEarly | gateEarly => exact trip
      have period : Safety.LaserSafe s → PeriodEnds v := fun hs hw => by
        have := periodEnds_of_fits hs.2.1 (by rw [hold]; nofun)
        show u.pgn.Ended ∧ u.plp.returns = _ ∧ u.plp.track = _
        rw [hplp, hpgn]
        exact this
      refine ⟨fun hs => ?_, fun hs => recompute_safe false (consistent hs.1) (period hs)⟩
      unfold Safety.LaserConsistent
      rw [recompute_lsc, recompute_wgd]
      exact consistent hs
  · have entered : (enterHold c u).lsc = { laser := .hold, causes := s.lsc.causes.join c, settle := none
                                           ret := some (if s.lsc.laser = .off then .dark else .lit), offered := none } := by
      rw [enterHold_eq]
      show (flush _ _).lsc = _
      rw [flush_lsc, ← hlsc]
      rfl
    have keep : Safety.LaserConsistent s → (enterHold c u).wgd.keepalive = none := by
      rintro ⟨-, -, -, -, hk, -⟩
      rw [enterHold_eq]
      show (flush _ _).wgd.keepalive = none
      rw [flush_wgd, holding_wgd, hlsc]
      split
      · rfl
      · next h => rw [hkeep, ← Option.not_isSome_iff_eq_none]; exact fun hs => h (hk.mp hs)
    have consistent : Safety.LaserConsistent s → Safety.LaserConsistent (enterHold c u) := fun hs => by
      unfold Safety.LaserConsistent
      rw [entered, keep hs]
      simp [join_ne_empty]
    have period : Safety.LaserSafe s → PeriodEnds (enterHold c u) := fun hs _ => by
      rw [enterHold_eq]
      show (flush _ _).pgn.Ended ∧ (flush _ _).plp.returns = _ ∧ (flush _ _).plp.track = _
      rw [flush_pgn, flush_plp]
      by_cases hw : u.lsc.laser = .write
      · have out : outOfWrite .hold u = leaveWrite .hold u := if_pos hw
        rw [holding, out]
        exact ⟨rfl, rfl, rfl⟩
      · have out : outOfWrite .hold u = u := if_neg hw
        rw [holding, out]
        show u.pgn.Ended ∧ u.plp.returns = _ ∧ u.plp.track = _
        rw [hlsc] at hw
        rw [hpgn hw, hplp]
        exact periodEnds_of_fits hs.2.1 hw
    have raised : held c s u = settleCodes s (enterHold c u) := by
      unfold held
      rw [raiseCause_enters c u (by rw [hlsc]; exact hold)]
    rw [raised]
    refine ⟨fun hs => settleCodes_consistent (consistent hs), fun hs => settleCodes_safe (consistent hs.1) (period hs) fun same => ?_⟩
    rw [entered] at same
    exact absurd same.symm hold

/-! ### The requests of the laser -/

section
variable {s : State}

theorem endWrite_light (b : Byte) (body : List Byte) (t : State) : (endWrite b body t).light = t.light := rfl

/-- What a request's service keeps, the request keeps. -/
theorem request_sound (code : Byte) (len : Nat) (w : HostWrite) {serve : List Byte → State → State} (h : ∀ p, LaserSound s (serve p s)) :
    LaserSound s (request code len w serve s) := by
  unfold request
  obtain ⟨-, e⟩ | ⟨body, b, -, e⟩ | e := transaction_cases code w (takeRequest code len serve) s <;> rw [e]
  · exact .of_light rfl
  · refine LaserSound.trans (t := takeRequest code len serve body s) ?_ (.of_light rfl)
    unfold takeRequest
    split
    · split
      · exact h _
      · exact .of_light rfl
    · exact .of_light rfl
  · exact .refl s

theorem answered {t : State} (h : LaserSound s t) (code : Byte) (st : Status) (p : List Byte) : LaserSound s (answer code st p t) :=
  h.trans (.of_light rfl)

theorem serveLaserOn_sound (p : List Byte) : LaserSound s (serveLaserOn p s) := by
  unfold serveLaserOn
  split
  · exact .of_light rfl
  · next hoff =>
    have off : s.lsc.laser = .off := not_not.mp hoff
    (repeat' split)
    · exact .of_light rfl
    · exact .of_light rfl
    · exact .of_light rfl
    · refine answered (laser_changed (s := s) (u := startSettling s) (by rw [off]; nofun) (by rw [off]; nofun) rfl rfl rfl ?_) _ _ _
      rintro ⟨-, -, -, -, keep, -⟩
      refine ⟨fun _ => rfl, nofun, ⟨fun _ => rfl, fun _ => rfl⟩, ⟨nofun, nofun⟩, ⟨fun h => ?_, nofun⟩, nofun⟩
      have := keep.mp h
      rw [off] at this
      cases this

/-- The laser goes OFF from a state other than WRITE and OFF. -/
theorem laserToOff_sound (hw : s.lsc.laser ≠ .write) (ho : s.lsc.laser ≠ .off) : LaserSound s (settleCodes s (laserToOff s)) := by
  refine laser_changed hw (Ne.symm ho) rfl rfl rfl ?_
  rintro ⟨-, -, -, -, keep, -⟩
  exact ⟨(by rintro (h | h | h) <;> cases h), nofun, ⟨nofun, nofun⟩, ⟨nofun, nofun⟩, ⟨fun h => absurd (keep.mp h) hw, nofun⟩, nofun⟩

theorem serveLaserOff_sound (p : List Byte) : LaserSound s (serveLaserOff p s) := by
  unfold serveLaserOff
  cases hl : s.lsc.laser with
  | off | write => exact .of_light rfl
  | hold => exact answered (laserToOff_sound (by rw [hl]; nofun) (by rw [hl]; nofun)) _ _ _
  | settling | read =>
    dsimp only
    split
    · exact answered (laserToOff_sound (by rw [hl]; nofun) (by rw [hl]; nofun)) _ _ _
    · exact .of_light rfl

theorem serveHoldClear_sound (p : List Byte) : LaserSound s (serveHoldClear p s) := by
  unfold serveHoldClear
  cases hl : s.lsc.laser with
  | settling | read | write => exact .of_light rfl
  | off =>
    dsimp only
    (repeat' split)
    · exact .of_light rfl
    · exact .of_light rfl
    · have emptied : LaserSound s { s with lsc := { s.lsc with causes := HoldCauses.empty } } := by
        have consistent : Safety.LaserConsistent s → Safety.LaserConsistent { s with lsc := { s.lsc with causes := HoldCauses.empty } } := by
          rintro ⟨-, -, settle, ret, keep, offered⟩
          refine ⟨fun _ => rfl, fun h => ?_, settle, ret, keep, fun h => ?_⟩
          · rw [show s.lsc.laser = .hold from h] at hl; cases hl
          · rw [(offered h).1] at hl; cases hl
        refine ⟨consistent, fun ⟨hs, hp, hd⟩ => ⟨consistent hs, hp, fun hlen => hd ?_⟩⟩
        simp only [Lsc.len, hl]
      exact answered emptied _ _ _
  | hold =>
    have out : s.lsc.laser ≠ .write := by rw [hl]; nofun
    dsimp only
    (repeat' split)
    · exact .of_light rfl
    · refine answered (laser_changed (s := s) (u := startSettling s) out (by rw [hl]; nofun) rfl rfl rfl ?_) _ _ _
      rintro ⟨-, -, -, -, keep, -⟩
      exact ⟨fun _ => rfl, nofun, ⟨fun _ => rfl, fun _ => rfl⟩, ⟨nofun, nofun⟩, ⟨fun h => absurd (keep.mp h) out, nofun⟩, nofun⟩
    · refine answered (laser_changed (s := s) (u := { s with lsc := Lsc.reset }) out (by rw [hl]; nofun) rfl rfl rfl ?_) _ _ _
      rintro ⟨-, -, -, -, keep, -⟩
      exact ⟨fun _ => rfl, nofun, ⟨nofun, nofun⟩, ⟨nofun, nofun⟩, ⟨fun h => absurd (keep.mp h) out, nofun⟩, nofun⟩

theorem serveDiodeSet_sound (p : List Byte) : LaserSound s (serveDiodeSet p s) := by
  unfold serveDiodeSet
  (repeat' split)
  · exact .of_light rfl
  · exact .of_light rfl
  · exact answered (recomputed_light (s := s) (u := { s with plp := { s.plp with diode := readDiode p, diodeValid := true } }) rfl false) _ _ _

theorem serveLimitsSet_sound (p : List Byte) : LaserSound s (serveLimitsSet p s) := by
  unfold serveLimitsSet
  dsimp only
  (repeat' split)
  · exact .of_light rfl
  · exact .of_light rfl
  · exact answered (recomputed_light (s := s) (u := { s with plp := { s.plp with limits := some { pd := u16 p 0, imax := u16 p 2 } } }) rfl false) _ _ _

theorem serveSettings_sound (p : List Byte) : LaserSound s (serveSettings p s) := by
  unfold serveSettings
  dsimp only
  split
  · exact .of_light rfl
  · exact answered (recomputed_light (s := s) (u := { s with cpt := { s.cpt with settings := Settings.select (u16 p 0) (offeredSettings p) s.cpt.settings } }) rfl false) _ _ _

theorem serveQueueAbort_sound (p : List Byte) : LaserSound s (serveQueueAbort p s) := by
  unfold serveQueueAbort
  dsimp only
  have flushed : ∀ u : State, (flush .aborted u).light = u.light := fun u => light_eq (by simp) (by simp) (by simp) (by simp)
  split
  · next h =>
    have out : outOfWrite .read s = leaveWrite .read s := if_pos h.2
    exact answered (outOfWrite_sound (v := s) rfl (by rw [flushed, out])) _ _ _
  · exact answered (settled_light (flushed s) s) _ _ _

theorem serveSoftReset_sound (found : FoundLines) (p : List Byte) : LaserSound s (serveSoftReset found p s) := by
  have consistent : Safety.LaserConsistent (serveSoftReset found p s) :=
    ⟨fun _ => rfl, nofun, ⟨nofun, nofun⟩, ⟨nofun, nofun⟩, ⟨nofun, nofun⟩, nofun⟩
  exact ⟨fun _ => consistent, fun _ => ⟨consistent, fun _ => ⟨rfl, rfl, rfl⟩, fun _ => rfl⟩⟩

end

/-! ### The formatter link -/

section
variable (s : State)

theorem deliver_sound (m : LinkMessage) : LaserSound s (deliver m s) := by
  have seg : ∀ d, LaserSound s (takeSeg d s) := fun d => by
    unfold takeSeg
    split
    · exact .of_light (send_light s _)
    · exact settled_light (by rw [arbiter_light, goOn_light]; rfl) s
  have cancel : ∀ tag, LaserSound s (takeCancel tag s) := fun tag => by
    unfold takeCancel
    (repeat' split)
    · exact .of_light rfl
    · exact settled_light (by rw [goOn_light, endEntry_light]) s
    · exact .of_light rfl
  have ends : ∀ tag, LaserSound s (takeEnd tag s) := fun tag => by
    unfold takeEnd
    (repeat' split)
    · exact settled_light (by rw [goOn_light, finishEntry_light]) s
    · exact .of_light rfl
    · exact .of_light rfl
  unfold deliver
  (repeat' split)
  · exact seg _
  · exact cancel _
  · exact ends _

theorem receiveByte_sound (b : Byte) : LaserSound s (receiveByte s b) := by
  have completed : ∀ (m : LinkMessage) (u : State), u.light = s.light → LaserSound s (completeMessage m u) := fun m u hu => by
    refine LaserSound.trans (.of_light hu) ?_
    unfold completeMessage
    split
    · exact deliver_sound u m
    · exact .of_light rfl
  unfold receiveByte
  split
  · split <;> exact .of_light rfl
  · split
    · split <;> exact .of_light rfl
    · exact completed _ _ rfl
    · exact .of_light rfl

theorem receive_sound (m : List Byte) : LaserSound s (receive m s) := by
  unfold receive
  induction m generalizing s with
  | nil => exact .refl s
  | cons b m ih => exact (receiveByte_sound s b).trans (ih _)

end

/-! ### WDATA, the output timeline and samples -/

section
variable {s : State}

theorem boundary_sound (w : Bool) : LaserSound s (boundary w s) := by
  obtain ⟨h, -⟩ | ⟨hl, e, wc, -, ⟨-, h⟩ | ⟨-, h⟩⟩ := boundary_cases w s <;> rw [h]
  · refine ⟨id, fun ⟨hc, hp, hd⟩ => ⟨hc, fun hw => ?_, hd⟩⟩
    obtain ⟨hpgn, acc⟩ := hp hw
    refine ⟨?_, acc⟩
    show ({ s.pgn with run := { mark := w, len := 0, own := false } } : Pgn) = _
    rw [hpgn]
    rfl
  · exact .refl s
  · exact .of_write hl (readT_lsc ..) (by rw [readT_wgd])

theorem boundaries_sound (w : Bool) : ∀ (n : Nat) (s : State), LaserSound s (boundaries w n s)
  | 0, s => .refl s
  | n + 1, _ => (boundary_sound w).trans (boundaries_sound w n _)

/-- A change of the generator that comes only while something is to be output keeps the promises: outside WRITE nothing is. -/
theorem output_sound {g : Pgn} (busy : s.lsc.laser ≠ .write → s.pgn ≠ { s.pgn.closed with presented := s.pgn.presented }) :
    LaserSound s { s with pgn := g } := by
  by_cases hw : s.lsc.laser = .write
  · exact .of_write hw rfl rfl
  · exact ⟨id, fun ⟨_, hp, _⟩ => absurd (hp hw).1 (busy hw)⟩

theorem completeTracking_laser (key : Option Key) (a : TrackAcc) (u : State) :
    (completeTracking key a u).lsc = u.lsc ∧ (completeTracking key a u).wgd = u.wgd := by
  unfold completeTracking
  dsimp only
  (repeat' split) <;> simp

theorem correctionUpdate_laser (wc : WorkingCopy) (sum : Nat) (u : State) :
    (correctionUpdate wc sum u).lsc = u.lsc ∧ (correctionUpdate wc sum u).wgd = u.wgd := by
  unfold correctionUpdate
  dsimp only
  (repeat' split) <;> simp

theorem takeOffered_sound (hold : s.lsc.laser = .hold) (o : OfferedSample) (m : Nat) : LaserSound s (takeOffered o m s) := by
  rw [takeOffered_eq hold]
  dsimp only
  have taken : LaserSound s { s with lsc := { s.lsc with offered := none } } := by
    have consistent : Safety.LaserConsistent s → Safety.LaserConsistent { s with lsc := { s.lsc with offered := none } } :=
      fun ⟨h1, h2, h3, h4, h5, _⟩ => ⟨h1, h2, h3, h4, h5, nofun⟩
    exact ⟨consistent, fun ⟨hc, hp, hd⟩ => ⟨consistent hc, hp, hd⟩⟩
  split
  · next above =>
    have joins := held_sound (s := { s with lsc := { s.lsc with offered := none } }) .overpower rfl rfl rfl rfl fun _ => rfl
    have eq := held_joins (s := { s with lsc := { s.lsc with offered := none } }) (u := { s with lsc := { s.lsc with offered := none } })
      (c := .overpower) rfl rfl hold above.2
    rw [eq] at joins
    exact taken.trans joins
  · exact taken

end

/-! ### Gate, timers and lines -/

section
variable {s : State}

/-- WRITE opens from READ: the keepalive period starts with it (R171, R178). -/
theorem enterWrite_sound (hl : s.lsc.laser = .read) : LaserSound s (settleCodes s (enterWrite (s.observeGate true))) := by
  set u := enterWrite (s.observeGate true) with hu
  have laser : u.lsc = { s.lsc with laser := .write } := by
    rw [hu]
    unfold enterWrite
    simp only [closeWritePeriod, withHead_lsc]
    rfl
  have keep : u.wgd.keepalive.isSome = true := rfl
  have consistent : Safety.LaserConsistent s → Safety.LaserConsistent u := by
    rintro ⟨h1, -, h3, h4, -, h6⟩
    unfold Safety.LaserConsistent
    rw [laser]
    refine ⟨fun _ => h1 (.inr (.inl hl)), nofun, ⟨fun h => ?_, nofun⟩, ⟨fun h => ?_, nofun⟩, ⟨fun _ => rfl, fun _ => keep⟩, fun h => ?_⟩
    · have := h3.mp h
      rw [hl] at this; cases this
    · have := h4.mp h
      rw [hl] at this; cases this
    · have := (h6 h).1
      rw [hl] at this; cases this
  refine ⟨fun hs => settleCodes_consistent (consistent hs), fun hs => settleCodes_safe (consistent hs.1) (fun out => ?_) fun same => ?_⟩
  · rw [laser] at out
    exact absurd rfl out
  · rw [laser, hl] at same
    cases same

theorem wgateRise_sound : ∃ t, exec .wgateRise s = .next t ∧ LaserSound s t := by
  change ∃ t, execWgateRise s = .next t ∧ _
  have early : LaserSound s (held .gateEarly s (s.observeGate true)) := held_sound .gateEarly rfl rfl rfl rfl fun _ => rfl
  unfold execWgateRise
  cases hl : s.lsc.laser with
  | hold | write => exact ⟨_, rfl, .of_light rfl⟩
  | off | settling => exact ⟨_, rfl, early⟩
  | read =>
    cases ha : s.sgq.headArmedWrite with
    | false => exact ⟨_, rfl, early⟩
    | true => exact ⟨_, rfl, enterWrite_sound hl⟩

theorem wgateFall_sound : ∃ t, exec .wgateFall s = .next t ∧ LaserSound s t := by
  change ∃ t, execWgateFall s = .next t ∧ _
  unfold execWgateFall
  dsimp only
  split
  · next e hw _ =>
    have out : outOfWrite .read ((s.observeGate false).withHead ({ · with state := .closing }))
        = leaveWrite .read ((s.observeGate false).withHead ({ · with state := .closing })) := if_pos (by rw [withHead_lsc]; exact hw)
    exact ⟨_, rfl, outOfWrite_sound (v := (s.observeGate false).withHead ({ · with state := .closing }))
      (withHead_light (s.observeGate false) _) (by rw [out])⟩
  · exact ⟨_, rfl, .of_light rfl⟩

theorem msTick_sound : LaserSound s (tickTimers (tickQueue s)) := by
  have queue : (tickQueue s).light = s.light := by
    unfold tickQueue
    dsimp only
    rw [countEvent_light]
    split
    · rw [countEvent_light, withHead_light]
    · rfl
  refine LaserSound.trans (.of_light queue) ?_
  set u := tickQueue s
  have consistent : Safety.LaserConsistent u → Safety.LaserConsistent (tickTimers u) := by
    rintro ⟨h1, h2, h3, h4, h5, h6⟩
    refine ⟨h1, h2, ?_, h4, ?_, h6⟩
    · show (u.lsc.settle.map (· - 1)).isSome = true ↔ _
      rw [Option.isSome_map]
      exact h3
    · show (if u.wgd.tickTaken then u.wgd.keepalive else u.wgd.keepalive.map _).isSome = true ↔ _
      split
      · exact h5
      · rw [Option.isSome_map]; exact h5
  exact ⟨consistent, fun ⟨hc, hp, hd⟩ => ⟨consistent hc, hp, hd⟩⟩

theorem keepaliveExpiry_sound : ∃ t, exec .keepaliveExpiry s = .next t ∧ LaserSound s t := by
  change ∃ t, execKeepaliveExpiry s = .next t ∧ _
  unfold execKeepaliveExpiry
  (repeat' split)
  · exact ⟨_, rfl, held_sound .keepExpired rfl rfl rfl rfl fun _ => rfl⟩
  · exact ⟨_, rfl, held_sound .keepExpired rfl rfl rfl rfl fun _ => rfl⟩
  · exact ⟨_, rfl, .refl s⟩
  · exact ⟨_, rfl, .refl s⟩

theorem keepStrobe_sound : ∃ t, exec .keepStrobe s = .next t ∧ LaserSound s t := by
  change ∃ t, execKeepStrobe s = .next t ∧ _
  unfold execKeepStrobe
  (repeat' split)
  · exact ⟨_, rfl, held_sound .keepEarly rfl rfl rfl rfl fun _ => rfl⟩
  · next k hw hk _ =>
    refine ⟨_, rfl, ?_⟩
    have consistent : Safety.LaserConsistent s → Safety.LaserConsistent
        { s with wgd := { s.wgd with keepalive := some { count := 0, k := s.cpt.settings.keepPeriod } } } :=
      fun ⟨h1, h2, h3, h4, _, h6⟩ => ⟨h1, h2, h3, h4, ⟨fun _ => hw, fun _ => rfl⟩, h6⟩
    exact ⟨consistent, fun ⟨hc, hp, hd⟩ => ⟨consistent hc, hp, hd⟩⟩
  · exact ⟨_, rfl, .refl s⟩

theorem settleExpiry_sound : ∃ t, exec .settleExpiry s = .next t ∧ LaserSound s t := by
  change ∃ t, execSettleExpiry s = .next t ∧ _
  unfold execSettleExpiry
  split
  · next h =>
    refine ⟨_, rfl, ?_⟩
    set u : State := { s with lsc := { s.lsc with laser := .read, settle := none } } with hu
    obtain ⟨ulsc, ukeep, upgn, uret, utrack⟩ := (light_iff u (judgeAgain u)).mp (judgeAgain_light u)
    refine laser_changed (by rw [h.1]; nofun) (by rw [ulsc, h.1]; nofun) upgn uret utrack ?_
    rintro ⟨h1, -, -, h4, h5, h6⟩
    unfold Safety.LaserConsistent
    rw [ulsc, ukeep]
    refine ⟨fun _ => h1 (.inl h.1), nofun, ⟨nofun, nofun⟩, ⟨fun hr => ?_, nofun⟩, ⟨fun hk => ?_, nofun⟩, fun ho => ?_⟩
    · have := h4.mp hr
      rw [h.1] at this; cases this
    · have := h5.mp hk
      rw [h.1] at this; cases this
    · have := (h6 ho).1
      rw [h.1] at this; cases this
  · exact ⟨_, rfl, .refl s⟩

/-- A trip of the supply leads to HOLD with SUPPLY_TRIP among its causes, so that a sample may wait to be taken (R173). -/
theorem ldtripAssert_sound : LaserSound s (keepSample s.sampleDue (held .supplyTrip s (tripped s))) := by
  have raised : LaserSound s (held .supplyTrip s (tripped s)) := held_sound .supplyTrip rfl rfl rfl rfl fun _ => rfl
  obtain ⟨-, hk⟩ | ⟨o, ho, hk⟩ := keepSample_cases s.sampleDue (held .supplyTrip s (tripped s)) <;> rw [hk]
  · exact raised
  · have write := sampleDue_write s o ho
    have hold := held_lsc (c := .supplyTrip) (tripped_beside s) (by rw [write]; nofun)
    set t := held .supplyTrip s (tripped s)
    refine raised.trans ?_
    have consistent : Safety.LaserConsistent t → Safety.LaserConsistent
        { t with lsc := { t.lsc with offered := if Config.sampleSurvivesTrip then some o else none } } :=
      fun ⟨h1, h2, h3, h4, h5, _⟩ => ⟨h1, h2, h3, h4, h5, fun _ => by rw [hold]; exact ⟨rfl, rfl⟩⟩
    exact ⟨consistent, fun ⟨hc, hp, hd⟩ => ⟨consistent hc, hp, hd⟩⟩

end

end Sys2Proof.Machine

end


section
/-! SUPPORT. The laser's promises through samples, lookups, focus and resets, and with them every command (O17). -/

namespace Sys2Proof.Machine

open Sys2Proof.Stated

/-! ### Samples -/

section
variable {s : State}

theorem takeTemperature_sound (reading : Int) : LaserSound s (takeTemperature reading s) := by
  unfold takeTemperature
  dsimp only
  generalize warned : (if hold Config.minTemp Config.maxTemp reading ≠ reading then s.withNotices ({ · with tempRange := true }) else s) = v
  have same : v.light = s.light := by
    rw [← warned]
    split <;> rfl
  split
  · exact recomputed_light (s := s) (u := { v with plp := { v.plp with
      sample := some (hold Config.minTemp Config.maxTemp reading), tempTicks := v.plp.tempTicks - Config.tempPeriod } }) same false
  · exact .of_light same

theorem temperatureSample_sound (reading : Int) : ∃ t, exec (.temperatureSample reading) s = .next t ∧ LaserSound s t := by
  change ∃ t, execTemperatureSample reading s = .next t ∧ _
  unfold execTemperatureSample
  split
  · exact ⟨_, rfl, takeTemperature_sound reading⟩
  · exact ⟨_, rfl, .refl s⟩

theorem spaceSample_sound : ∃ t, exec .spaceSample s = .next t ∧ LaserSound s t := by
  change ∃ t, execSpaceSample s = .next t ∧ _
  unfold execSpaceSample
  split
  · next e wc p later h hw _ _ _ =>
    (repeat' split)
    · exact ⟨_, rfl, .refl s⟩
    · exact ⟨_, rfl, held_sound (u := { s with pgn := { s.pgn with spaces := later, held := none } }) .overpower rfl rfl rfl rfl
        fun h => absurd hw h⟩
    · exact ⟨_, rfl, .of_write hw rfl rfl⟩
  · next hold =>
    split
    · exact ⟨_, rfl, takeOffered_sound hold _ _⟩
    · exact ⟨_, rfl, .refl s⟩
  · exact ⟨_, rfl, .refl s⟩

theorem peakSample_sound (reading : Nat) : ∃ t, exec (.peakSample reading) s = .next t ∧ LaserSound s t := by
  change ∃ t, execPeakSample reading s = .next t ∧ _
  unfold execPeakSample
  dsimp only
  split
  · next e wc p later hw _ _ =>
    (repeat' split)
    · exact ⟨_, rfl, .refl s⟩
    · exact ⟨_, rfl, held_sound (u := { s with pgn := { s.pgn with peaks := later } }) .overpower rfl rfl rfl rfl fun h => absurd hw h⟩
    · exact ⟨_, rfl, .of_write hw (completeTracking_laser ..).1 (congrArg Wgd.keepalive (completeTracking_laser ..).2)⟩
    · exact ⟨_, rfl, .of_write hw rfl rfl⟩
  · next hold =>
    (repeat' split)
    · exact ⟨_, rfl, takeOffered_sound hold _ _⟩
    · exact ⟨_, rfl, .refl s⟩
    · exact ⟨_, rfl, .refl s⟩
  · exact ⟨_, rfl, .refl s⟩

theorem returnSample_sound (reading : Nat) : ∃ t, exec (.returnSample reading) s = .next t ∧ LaserSound s t := by
  change ∃ t, execReturnSample reading s = .next t ∧ _
  unfold execReturnSample
  dsimp only
  split
  · next e wc p later hw _ _ =>
    (repeat' split)
    · exact ⟨_, rfl, .refl s⟩
    · exact ⟨_, rfl, .of_write hw (correctionUpdate_laser ..).1 (congrArg Wgd.keepalive (correctionUpdate_laser ..).2)⟩
    · exact ⟨_, rfl, .of_write hw rfl rfl⟩
  · exact ⟨_, rfl, .refl s⟩

theorem markStart_sound : ∃ t, exec .markStart s = .next t ∧ LaserSound s t := by
  change ∃ t, execMarkStart s = .next t ∧ _
  unfold execMarkStart
  split
  · exact ⟨_, rfl, .refl s⟩
  · next p later hs =>
    split
    · exact ⟨_, rfl, output_sound fun _ hc => by rw [hc] at hs; cases hs⟩
    · exact ⟨_, rfl, .refl s⟩

theorem outputLevelChange_sound : ∃ t, exec .outputLevelChange s = .next t ∧ LaserSound s t := by
  change ∃ t, execOutputLevelChange s = .next t ∧ _
  unfold execOutputLevelChange
  split
  · exact ⟨_, rfl, .refl s⟩
  · next e later he =>
    split
    · exact ⟨_, rfl, output_sound fun _ hc => by rw [hc] at he; cases he⟩
    · exact ⟨_, rfl, .refl s⟩

theorem spaceMidpointReading_sound (reading : Nat) : ∃ t, exec (.spaceMidpointReading reading) s = .next t ∧ LaserSound s t := by
  change ∃ t, execSpaceMidpointReading reading s = .next t ∧ _
  unfold execSpaceMidpointReading
  split
  · split
    · next inside => exact ⟨_, rfl, .of_write ((insideLongSpace_iff s).mp inside).1 rfl rfl⟩
    · exact ⟨_, rfl, .refl s⟩
  · next p later hm =>
    split
    · exact ⟨_, rfl, output_sound fun _ hc => by rw [hc] at hm; cases hm⟩
    · exact ⟨_, rfl, .refl s⟩

end

/-! ### Lookups and write-backs -/

section
variable (s : State)

theorem completeSegment_light (e : Entry) : (completeSegment e s).light = s.light := by
  cases hw : working s.stb (s.entryKey e)
      (resolve s.stb s.cpt.settings (if e.kind = .trial then .trial else .normal) (s.entryKey e)) with
  | some w => rw [completeSegment_found hw, goOn_light, lookedUp_eq]; rfl
  | none =>
    rw [completeSegment_none hw, goOn_light, unresolved, finishEntry_light]
    split <;> rfl

theorem segmentLookupCompletion_sound : ∃ t, exec .segmentLookupCompletion s = .next t ∧ LaserSound s t := by
  change ∃ t, execSegmentLookupCompletion s = .next t ∧ _
  unfold execSegmentLookupCompletion
  dsimp only
  (repeat' split)
  · refine ⟨_, rfl, settled_light ?_ s⟩
    rw [arbiter_light, completeSegment_light]
    rfl
  · refine ⟨_, rfl, settled_light ?_ s⟩
    rw [arbiter_light]
    rfl
  · refine ⟨_, rfl, .of_light ?_⟩
    rw [arbiter_light]
    rfl
  · exact ⟨_, rfl, .refl s⟩

theorem hostDone_light (code : Byte) (p : List Byte) : (hostDone code p s).light = s.light := by
  rw [hostDone, arbiter_light]
  rfl

theorem recFindCompletion_sound : ∃ t, exec .recFindCompletion s = .next t ∧ LaserSound s t := by
  change ∃ t, execRecFindCompletion s = .next t ∧ _
  unfold execRecFindCompletion
  split
  · exact ⟨_, rfl, .of_light (hostDone_light ..)⟩
  · exact ⟨_, rfl, .refl s⟩

theorem recScanCompletion_sound : ∃ t, exec .recScanCompletion s = .next t ∧ LaserSound s t := by
  change ∃ t, execRecScanCompletion s = .next t ∧ _
  unfold execRecScanCompletion
  split
  · exact ⟨_, rfl, .of_light (hostDone_light ..)⟩
  · exact ⟨_, rfl, .refl s⟩

theorem recRetireMatchCompletion_sound : ∃ t, exec .recRetireMatchCompletion s = .next t ∧ LaserSound s t := by
  change ∃ t, execRecRetireMatchCompletion s = .next t ∧ _
  unfold execRecRetireMatchCompletion
  split
  · refine ⟨_, rfl, .of_light ?_⟩
    rw [completeRetireMatch_eq, hostDone_light, matchesRetired_light]
  · exact ⟨_, rfl, .refl s⟩

theorem writeBack_sound : ∃ t, exec .writeBack s = .next t ∧ LaserSound s t := by
  change ∃ t, execWriteBack s = .next t ∧ _
  unfold execWriteBack
  (repeat' split)
  · refine ⟨_, rfl, settled_light ?_ s⟩
    rw [goOn_light, closeEntry_eq, finishEntry_light]
    obtain ⟨-, -, hlsc, hwgd, -, hpgn, hplp⟩ := writtenOff_frame _ _ _ s
    exact light_eq hlsc hwgd hpgn hplp
  · exact ⟨_, rfl, settled_light (by rw [goOn_light, finishEntry_light]) s⟩
  · exact ⟨_, rfl, .refl s⟩
  · exact ⟨_, rfl, .refl s⟩

end

/-! ### Pickup and focus -/

section
variable {s : State}

/-- What a loss of focus leaves of laser and generator: that of the write's end, when the head is an ACTIVE write. -/
theorem loseFocus_sound {u : State} (h : u.light = s.light) : LaserSound s (settleCodes s (loseFocus u)) := by
  have lost : (unfocused u).light = s.light := h
  rcases hq : u.sgq.queue with - | ⟨e, rest⟩
  · rw [loseFocus_idle (by rw [hq]; rfl)]
    exact settled_light lost s
  · cases hs : e.state with
    | pending | resolving | ready | closing =>
      rw [loseFocus_idle (by simp [hq, hs])]
      exact settled_light lost s
    | arming =>
      have again : loseFocus u = judgeAgain (unfocused u) := by
        simp only [loseFocus, State.withNotices, hq, hs]; rfl
      rw [again]
      exact settled_light ((judgeAgain_light _).trans lost) s
    | armed =>
      have ends : loseFocus u = goOn (endEntry .focusLost e (unfocused u)) := by
        simp only [loseFocus, State.withNotices, hq, hs]; rfl
      rw [ends]
      exact settled_light (by rw [goOn_light, endEntry_light, lost]) s
    | active =>
      cases hc : e.copy with
      | none | read p =>
        have ends : loseFocus u = goOn (finishEntry .focusLost e (unfocused u)) := by
          simp only [loseFocus, State.withNotices, hq, hs, hc]; rfl
        rw [ends]
        exact settled_light (by rw [goOn_light, finishEntry_light, lost]) s
      | strategy wc =>
        have ends : loseFocus u = goOn (endActiveWrite .focusLost wc e (outOfWrite .read (unfocused u))) := by
          simp only [loseFocus, State.withNotices, hq, hs, hc]; rfl
        rw [ends]
        refine outOfWrite_sound lost ?_
        rw [goOn_light, endActiveWrite, finishEntry_light, partialWriteBack_light]

theorem fokRise_sound (flay : Nat) : ∃ t, exec (.fokRise flay) s = .next t ∧ LaserSound s t := by
  change ∃ t, execFokRise flay s = .next t ∧ _
  unfold execFokRise
  dsimp only
  (repeat' split)
  · refine ⟨_, rfl, settled_light ?_ s⟩
    rw [judgeAgain_light]
    rfl
  · refine ⟨_, rfl, settled_light ?_ s⟩
    rw [judgeAgain_light]
    rfl
  · exact ⟨_, rfl, .of_light rfl⟩
  · exact ⟨_, rfl, .of_light rfl⟩

theorem fokFall_sound : ∃ t, exec .fokFall s = .next t ∧ LaserSound s t := by
  change ∃ t, execFokFall s = .next t ∧ _
  unfold execFokFall
  dsimp only
  split
  · exact ⟨_, rfl, loseFocus_sound (u := { s with lines := { s.lines with fok := false } }) rfl⟩
  · exact ⟨_, rfl, .of_light rfl⟩

theorem flayChange_sound (flay : Nat) : ∃ t, exec (.flayChange flay) s = .next t ∧ LaserSound s t := by
  change ∃ t, execFlayChange flay s = .next t ∧ _
  unfold execFlayChange
  dsimp only
  (repeat' split)
  · exact ⟨_, rfl, loseFocus_sound (u := { s with lines := { s.lines with flay := flay } }) rfl⟩
  · exact ⟨_, rfl, .of_light rfl⟩
  · exact ⟨_, rfl, .of_light rfl⟩

theorem jumpTimerExpiry_sound : ∃ t, exec .jumpTimerExpiry s = .next t ∧ LaserSound s t := by
  change ∃ t, execJumpTimerExpiry s = .next t ∧ _
  unfold execJumpTimerExpiry
  (repeat' split)
  · exact ⟨_, rfl, .of_light rfl⟩
  · refine ⟨_, rfl, settled_light ?_ s⟩
    rw [goOn_light, endEntry_light]
    rfl
  · refine ⟨_, rfl, settled_light ?_ s⟩
    rw [judgeAgain_light]
    rfl
  · exact ⟨_, rfl, .of_light rfl⟩
  · exact ⟨_, rfl, .refl s⟩

theorem measurementCompletion_sound : ∃ t, exec .measurementCompletion s = .next t ∧ LaserSound s t := by
  change ∃ t, execMeasurementCompletion s = .next t ∧ _
  unfold execMeasurementCompletion
  split
  · refine ⟨_, rfl, settled_light ?_ s⟩
    rw [judgeAgain_light]
    rfl
  · exact ⟨_, rfl, .refl s⟩

theorem sledStep_sound (sla slb shome : Bool) : ∃ t, exec (.sledStep sla slb shome) s = .next t ∧ LaserSound s t := by
  refine ⟨_, exec_sledStep s sla slb shome, .of_light ?_⟩
  cases sledMove (quadrature s.lines.sla s.lines.slb) (quadrature sla slb) with
  | none | glitch => rfl
  | outward =>
    rw [SledMove.effect, stepOutward_eq]
    split <;> rfl
  | inward =>
    rw [SledMove.effect, stepInward_eq]
    (repeat' split) <;> rfl

end

/-! ### Port, resets and link bytes -/

section
variable (s : State)

theorem responseRead_sound (phase : ReadPhase) : ∃ t, exec (.responseRead phase) s = .next t ∧ LaserSound s t := by
  change ∃ t, execResponseRead phase s = .next t ∧ _
  unfold execResponseRead
  (repeat' split)
  · exact ⟨_, rfl, .of_light rfl⟩
  · exact ⟨_, rfl, .of_light rfl⟩
  · exact ⟨_, rfl, .refl s⟩
  · exact ⟨_, rfl, .refl s⟩
  · exact ⟨_, rfl, .of_light rfl⟩

theorem unknownRequest_sound (code : Byte) (w : HostWrite) : ∃ t, exec (.unknownRequest code w) s = .next t ∧ LaserSound s t := by
  change ∃ t, execUnknownRequest code w s = .next t ∧ _
  unfold execUnknownRequest
  refine ⟨_, rfl, .of_light ?_⟩
  obtain ⟨-, e⟩ | ⟨body, b, -, e⟩ | e := transaction_cases code w _ s <;> rw [e]
  · rfl
  · rw [endWrite_light]
    split <;> rfl

/-- A reset that leaves laser and accumulations at their reset values and the generator closed keeps the promises (R142, R165, R187). -/
theorem resetSound {t : State} (hlsc : t.lsc = Lsc.reset) (hkeep : t.wgd.keepalive = none) (hpgn : t.pgn = s.pgn.closed)
    (hret : t.plp.returns = ReturnAcc.empty) (htrack : t.plp.track = TrackAcc.empty) : LaserSound s t := by
  have consistent : Safety.LaserConsistent t := by
    unfold Safety.LaserConsistent
    rw [hlsc, hkeep]
    exact ⟨fun _ => rfl, nofun, ⟨nofun, nofun⟩, ⟨nofun, nofun⟩, ⟨nofun, nofun⟩, nofun⟩
  refine ⟨fun _ => consistent, fun _ => ⟨consistent, fun _ => ⟨?_, hret, htrack⟩, fun _ => ?_⟩⟩
  · rw [hpgn]
    rfl
  · rw [hpgn]
    rfl

theorem linkBytePeriod_sound (rx : Option Byte) : ∃ t, exec (.linkBytePeriod rx) s = .next t ∧ LaserSound s t := by
  change ∃ t, execLinkBytePeriod rx s = .next t ∧ _
  have transmitted : LaserSound s (transmitByte s) := .of_light rfl
  unfold execLinkBytePeriod
  split
  · exact ⟨_, rfl, transmitted.trans (receiveByte_sound _ _)⟩
  · exact ⟨_, rfl, transmitted⟩

end

/-! ### Every command -/

/-- Every command keeps the laser's promises. -/
theorem exec_laserSound (c : Instr) (s : State) : ∃ t, exec c s = .next t ∧ LaserSound s t := by
  have requested : ∀ (code : Byte) (len : Nat) (w : HostWrite) (serve : List Byte → State → State), (∀ p, LaserSound s (serve p s)) →
      ∃ t, Host.Outcome.next (φ := Fault) (ρ := Refusal) (request code len w serve s) = .next t ∧ LaserSound s t :=
    fun code len w serve h => ⟨_, rfl, request_sound code len w h⟩
  cases c with
  | mediaInstall w => exact requested _ _ w _ fun p => .of_light (serveMediaInstall_light p s)
  | mediaAmend w => exact requested _ _ w _ fun p => .of_light (serveMediaAmend_light p s)
  | mediaMount w => exact requested _ _ w _ fun p => .of_light (serveMediaMount_light p s)
  | mediaUnmount w => exact requested _ _ w _ fun p => .of_light (serveMediaUnmount_light p s)
  | mediaRetire w => exact requested _ _ w _ fun p => .of_light (serveMediaRetire_light p s)
  | mediaRead w => exact requested _ _ w _ fun p => .of_light (serveMediaRead_light p s)
  | recInstall w => exact requested _ _ w _ fun p => .of_light (serveRecInstall_light p s)
  | recAmend w => exact requested _ _ w _ fun p => .of_light (serveRecAmend_light p s)
  | recPromote w => exact requested _ _ w _ fun p => .of_light (serveRecPromote_light p s)
  | recRetire w => exact requested _ _ w _ fun p => .of_light (serveRecRetire_light p s)
  | recRetireMatch w => exact requested _ _ w _ fun p => .of_light (serveRecRetireMatch_light p s)
  | recRead w => exact requested _ _ w _ fun p => .of_light (serveRecRead_light p s)
  | recFind w => exact requested _ _ w _ fun p => .of_light (serveRecFind_light p s)
  | recScan w => exact requested _ _ w _ fun p => .of_light (serveRecScan_light p s)
  | diodeSet w => exact requested _ _ w _ serveDiodeSet_sound
  | diodeRead w => exact requested _ _ w _ fun p => .of_light (serveDiodeRead_light p s)
  | limitsSet w => exact requested _ _ w _ serveLimitsSet_sound
  | zoneMap w => exact requested _ _ w _ fun p => .of_light (serveZoneMap_light p s)
  | speedMap w => exact requested _ _ w _ fun p => .of_light (serveSpeedMap_light p s)
  | pickupRead w => exact requested _ _ w _ fun p => .of_light (servePickupRead_light p s)
  | laserOn w => exact requested _ _ w _ serveLaserOn_sound
  | laserOff w => exact requested _ _ w _ serveLaserOff_sound
  | holdClear w => exact requested _ _ w _ serveHoldClear_sound
  | supplyAck w => exact requested _ _ w _ fun p => .of_light (serveSupplyAck_light p s)
  | queueRead w => exact requested _ _ w _ fun p => .of_light (serveQueueRead_light p s)
  | queueAbort w => exact requested _ _ w _ serveQueueAbort_sound
  | counterSet w => exact requested _ _ w _ fun p => .of_light (serveCounterSet_light p s)
  | counterRead w => exact requested _ _ w _ fun p => .of_light (serveCounterRead_light p s)
  | settings w => exact requested _ _ w _ serveSettings_sound
  | status w => exact requested _ _ w _ fun p => .of_light (serveStatus_light p s)
  | noticesRead w => exact requested _ _ w _ fun p => .of_light (serveNoticesRead_light p s)
  | ident w => exact requested _ _ w _ fun p => .of_light (serveIdent_light p s)
  | softReset r => exact requested _ _ r.write _ (serveSoftReset_sound r.found)
  | unknownRequest code w => exact unknownRequest_sound s code w
  | responseRead phase => exact responseRead_sound s phase
  | powerOnReset f => exact ⟨_, rfl, resetSound s rfl rfl rfl rfl rfl⟩
  | pinReset f => exact ⟨_, rfl, resetSound s rfl rfl rfl rfl rfl⟩
  | seg b1 b2 b3 b4 => exact ⟨_, rfl, receive_sound s _⟩
  | cancel b1 => exact ⟨_, rfl, receive_sound s _⟩
  | endMsg b1 => exact ⟨_, rfl, receive_sound s _⟩
  | linkMessageDiscarded m => exact ⟨_, rfl, receive_sound s _⟩
  | resyncIdleByte => exact ⟨_, rfl, receiveByte_sound s 0⟩
  | linkBytePeriod rx => exact linkBytePeriod_sound s rx
  | segmentLookupCompletion => exact segmentLookupCompletion_sound s
  | recFindCompletion => exact recFindCompletion_sound s
  | recScanCompletion => exact recScanCompletion_sound s
  | recRetireMatchCompletion => exact recRetireMatchCompletion_sound s
  | wgateRise => exact wgateRise_sound
  | wgateFall => exact wgateFall_sound
  | writeBack => exact writeBack_sound s
  | msTick => exact ⟨_, rfl, msTick_sound⟩
  | keepaliveExpiry => exact keepaliveExpiry_sound
  | keepStrobe => exact keepStrobe_sound
  | settleExpiry => exact settleExpiry_sound
  | ldtripAssert => exact ⟨_, rfl, ldtripAssert_sound⟩
  | ldtripDeassert => exact ⟨_, rfl, .of_light rfl⟩
  | ldwarnAssert => exact ⟨_, rfl, .of_light rfl⟩
  | ldwarnDeassert => exact ⟨_, rfl, .of_light rfl⟩
  | temperatureSample reading => exact temperatureSample_sound reading
  | markRead wdata count => exact ⟨_, rfl, boundaries_sound wdata count s⟩
  | markStart => exact markStart_sound
  | outputLevelChange => exact outputLevelChange_sound
  | spaceMidpointReading reading => exact spaceMidpointReading_sound reading
  | spaceSample => exact spaceSample_sound
  | peakSample reading => exact peakSample_sound reading
  | returnSample reading => exact returnSample_sound reading
  | sledStep sla slb shome => exact sledStep_sound sla slb shome
  | wobPulse => exact ⟨_, rfl, .of_light rfl⟩
  | measurementCompletion => exact measurementCompletion_sound
  | fokRise flay => exact fokRise_sound flay
  | fokFall => exact fokFall_sound
  | flayChange flay => exact flayChange_sound flay
  | jumpTimerExpiry => exact jumpTimerExpiry_sound

/-- Settles O17, command by command. -/
theorem stepKeepsLaserSafe : Obligations.StepKeepsLaserSafe := by
  unfold Obligations.StepKeepsLaserSafe
  intro s t safe ht
  refine step_keeps (P := Safety.LaserSafe) (fun c s t hc hs => ?_) (fun _ _ h => h) s t safe ht
  obtain ⟨u, hu, sound⟩ := exec_laserSound c s
  rw [hu] at hc
  cases hc
  exact sound.safe hs

end Sys2Proof.Machine

end


section
/-! SUPPORT. What the invariants of queue, pins and write guard read of a state, and the moves of the queue that keep them (O9, O11, O12). -/

namespace Sys2Proof.Machine

open Sys2Proof.Stated

/-! ### The write guard (R91, R171) -/

/-- WRITE, the gate, the focus layer and the head agree: what WriteGuarded adds to the queue's shape and the laser's promises. -/
structure Guarded (s : State) : Prop where
  writes : s.lsc.laser = .write ↔ s.sgq.activeWrite.isSome = true
  gate : s.lsc.laser = .write → s.lines.wgate = true
  lit : ∀ e ∈ s.sgq.queue.head?, e.state = .armed ∨ e.state = .active → s.lsc.laser = .read ∨ s.lsc.laser = .write
  focus : ∀ e ∈ s.sgq.queue.head?, e.state = .armed ∨ e.state = .active → s.pkp.focus = .steady e.layer

theorem writeGuarded_iff (s : State) :
    Safety.WriteGuarded s ↔ (QueueFits s ∧ Settled s) ∧ Safety.LaserConsistent s ∧ Guarded s := by
  have head : ∀ p q : Entry → Prop, ∀ [DecidablePred p] [DecidablePred q], ∀ o : Option Entry,
      (o.all (fun e => decide (p e → q e)) = true ↔ ∀ e ∈ o, p e → q e) := by
    intro p q _ _ o
    cases o with
    | none => simp
    | some e => simp only [Option.all_some, decide_eq_true_eq, Option.mem_some_iff, forall_eq']
  have any : ∀ (p : Entry → Prop) [DecidablePred p] (b : Prop), ∀ o : Option Entry,
      ((o.any (fun e => decide (p e)) = true → b) ↔ ∀ e ∈ o, p e → b) := by
    intro p _ b o
    cases o <;> simp
  rw [← queueShaped_iff]
  unfold Safety.WriteGuarded
  rw [any (fun e => e.state = .armed ∨ e.state = .active), head (fun e => e.state = .armed ∨ e.state = .active)]
  exact ⟨fun ⟨shaped, laser, writes, gate, lit, focus⟩ => ⟨shaped, laser, writes, gate, lit, focus⟩,
    fun ⟨shaped, laser, writes, gate, lit, focus⟩ => ⟨shaped, laser, writes, gate, lit, focus⟩⟩

/-- The head neither is armed nor runs. -/
def Quiet (q : List Entry) : Prop := ∀ e ∈ q.head?, ¬ (e.state = .armed ∨ e.state = .active)

theorem quiet_activeWrite {q : Sgq} (h : Quiet q.queue) : q.activeWrite = none := by
  rw [← Option.not_isSome_iff_eq_none, Option.isSome_iff_exists]
  rintro ⟨⟨e, wc⟩, hw⟩
  obtain ⟨head, active, -⟩ := activeWrite_eq_some.mp hw
  exact h e head (.inr active)

/-- Out of WRITE and with a quiet head there is nothing to guard. -/
theorem guarded_of_quiet {s : State} (hl : s.lsc.laser ≠ .write) (hq : Quiet s.sgq.queue) : Guarded s := by
  refine ⟨⟨fun h => absurd h hl, fun h => ?_⟩, fun h => absurd h hl, fun e he h => absurd h (hq e he), fun e he h => absurd h (hq e he)⟩
  rw [quiet_activeWrite hq] at h
  cases h

/-- A quiet head stands only out of WRITE. -/
theorem Guarded.dark {s : State} (h : Guarded s) (hq : Quiet s.sgq.queue) : s.lsc.laser ≠ .write := fun hw => by
  have := h.writes.mp hw
  rw [quiet_activeWrite hq] at this
  cases this

/-- What waits is quiet. -/
theorem not_waits {e : Entry} (h : Safety.waits e = true) : ¬ (e.state = .armed ∨ e.state = .active) := by
  rintro (hs | hs) <;> rw [Safety.waits, hs] at h <;> cases h

/-! ### Entries that differ in values alone -/

/-- Entries that differ in warnings, captured values and the values of their copies. -/
structure Alike (x y : Entry) : Prop where
  badge : y.badge = x.badge
  layer : y.layer = x.layer
  state : y.state = x.state
  sources : y.sources = x.sources
  fits : Safety.copyFits x = true → Safety.copyFits y = true
  writes : (∃ wc, y.copy = .strategy wc) ↔ ∃ wc, x.copy = .strategy wc

theorem isWrite_of_badge {x y : Entry} (h : y.badge = x.badge) : y.isWrite = x.isWrite := by
  have kind : y.kind = x.kind := congrArg (·.2.2.1) h
  simp [Entry.isWrite, kind]

theorem activeWrite_isSome {q : Sgq} {e : Entry} {rest : List Entry} (hq : q.queue = e :: rest) :
    q.activeWrite.isSome = true ↔ e.state = .active ∧ ∃ wc, e.copy = .strategy wc := by
  rw [Option.isSome_iff_exists]
  constructor
  · rintro ⟨⟨x, wc⟩, h⟩
    obtain ⟨head, active, copy⟩ := activeWrite_eq_some.mp h
    rw [hq] at head
    obtain rfl : e = x := Option.some.inj head
    exact ⟨active, wc, copy⟩
  · rintro ⟨active, wc, copy⟩
    exact ⟨(e, wc), activeWrite_eq_some.mpr ⟨by rw [hq]; rfl, active, copy⟩⟩

/-! ### What moves of the queue keep -/

/-- A move keeps the fit of the queue and the pins. -/
structure Tidy (s t : State) : Prop where
  fits : QueueFits s → QueueFits t
  pinned : Pinned s → Pinned t

/-- A move keeps the fit of the queue, the pins and, from a queue that fits, the write guard. -/
structure Keeps (s t : State) : Prop extends Tidy s t where
  guarded : QueueFits s → Guarded s → Guarded t

theorem Tidy.trans {s t u : State} (h : Tidy s t) (h' : Tidy t u) : Tidy s u := ⟨h'.fits ∘ h.fits, h'.pinned ∘ h.pinned⟩

theorem Keeps.refl (s : State) : Keeps s s := ⟨⟨id, id⟩, fun _ => id⟩

theorem Keeps.trans {s t u : State} (h : Keeps s t) (h' : Keeps t u) : Keeps s u :=
  ⟨h.toTidy.trans h'.toTidy, fun hf hg => h'.guarded (h.fits hf) (h.guarded hf hg)⟩

/-- What the guard reads besides the queue. -/
def State.guards (s : State) : LaserState × Bool × FocusState := (s.lsc.laser, s.lines.wgate, s.pkp.focus)

theorem guards_iff (s t : State) : t.guards = s.guards ↔ t.lsc.laser = s.lsc.laser ∧ t.lines.wgate = s.lines.wgate ∧ t.pkp.focus = s.pkp.focus := by
  unfold State.guards
  simp only [Prod.mk.injEq]

/-- The guard stands when what it reads stands and the head that it speaks of is as it was. -/
theorem Guarded.of_head {s t : State} (h : Guarded s) (hg : t.guards = s.guards)
    (hw : t.sgq.activeWrite.isSome = true ↔ s.sgq.activeWrite.isSome = true)
    (hh : ∀ e ∈ t.sgq.queue.head?, e.state = .armed ∨ e.state = .active → ∃ x ∈ s.sgq.queue.head?, x.state = e.state ∧ x.layer = e.layer) :
    Guarded t := by
  obtain ⟨laser, gate, focus⟩ := (guards_iff s t).mp hg
  refine ⟨by rw [laser, hw]; exact h.writes, by rw [laser, gate]; exact h.gate, fun e he hs => ?_, fun e he hs => ?_⟩
  · obtain ⟨x, hx, state, -⟩ := hh e he hs
    rw [laser]
    exact h.lit x hx (by rw [state]; exact hs)
  · obtain ⟨x, hx, state, layer⟩ := hh e he hs
    rw [focus, ← layer]
    exact h.focus x hx (by rw [state]; exact hs)

theorem Guarded.of_queue {s t : State} (h : Guarded s) (hg : t.guards = s.guards) (hq : t.sgq.queue = s.sgq.queue) : Guarded t := by
  have active : t.sgq.activeWrite = s.sgq.activeWrite := by unfold Sgq.activeWrite; rw [hq]
  refine h.of_head hg (by rw [active]) fun e he _ => ⟨e, by rw [← hq]; exact he, rfl, rfl⟩

theorem QueueFits.of_queue {s t : State} (h : QueueFits s) (hq : t.sgq.queue = s.sgq.queue) : QueueFits t := h.sublist (by rw [hq])

/-- Pins agree when places and mounted slot stand and the entries hold the same sources. -/
theorem Pinned.of_stakes {s t : State} (h : Pinned s) (fits : QueueFits t)
    (hq : t.sgq.queue.map (fun e => (e.sources, e.isWrite)) = s.sgq.queue.map fun e => (e.sources, e.isWrite))
    (hstb : t.stb = s.stb) (hm : t.mountedIndex = s.mountedIndex) : Pinned t := by
  have record : ∀ i, t.record i = s.record i := fun i => by rw [State.record, hstb]; rfl
  have uses : ∀ (i : Nat) (q : List Entry), q.countP (·.uses i)
      = (q.map fun e => (e.sources, e.isWrite)).countP fun p => p.1.any (·.index = i) := fun i q => by rw [List.countP_map]; rfl
  have old : ∀ x ∈ t.sgq.queue, ∃ y ∈ s.sgq.queue, y.sources = x.sources ∧ y.isWrite = x.isWrite := fun x hx => by
    have mem : (x.sources, x.isWrite) ∈ s.sgq.queue.map fun e => (e.sources, e.isWrite) := hq ▸ List.mem_map_of_mem hx
    obtain ⟨y, hy, same⟩ := List.mem_map.mp mem
    exact ⟨y, hy, congrArg Prod.fst same, congrArg Prod.snd same⟩
  refine ⟨fits, fun i r hr => ?_, fun i r hr => ?_, fun i r hr => ?_, fun x hx k hk => ?_, fun x hx => ?_, fun x hx hw => ?_⟩
  · rw [uses, hq, ← uses]
    exact h.count i r (record i ▸ hr)
  · rw [hm]
    exact h.mounted i r (record i ▸ hr)
  · exact h.retiring i r (record i ▸ hr)
  · obtain ⟨y, hy, sources, -⟩ := old x hx
    rw [record]
    exact h.held y hy k (by rw [sources]; exact hk)
  · obtain ⟨y, hy, sources, -⟩ := old x hx
    rw [← sources]
    exact h.distinct y hy
  · obtain ⟨y, hy, -, write⟩ := old x hx
    rw [hm]
    exact h.writes y hy (write.trans hw)

theorem mountedIndex_of_mst {s t : State} (h : t.mst = s.mst) : t.mountedIndex = s.mountedIndex := by unfold State.mountedIndex; rw [h]

/-- What touches neither queue, places, slots nor what the guard reads keeps all. -/
theorem Keeps.of_frame {s t : State} (hq : t.sgq.queue = s.sgq.queue) (hstb : t.stb = s.stb) (hmst : t.mst = s.mst) (hg : t.guards = s.guards) :
    Keeps s t :=
  ⟨⟨fun h => h.of_queue hq, fun h => h.of_stakes (h.fits.of_queue hq) (by rw [hq]) hstb (mountedIndex_of_mst hmst)⟩,
    fun _ h => h.of_queue hg hq⟩

/-- The head changed, but for its badge and sources. -/
theorem Keeps.newhead {s t : State} {e x : Entry} {rest : List Entry} (hs : s.sgq.queue = e :: rest) (ht : t.sgq.queue = x :: rest)
    (badge : x.badge = e.badge) (sources : x.sources = e.sources) (copy : Safety.copyFits e = true → Safety.copyFits x = true)
    (hstb : t.stb = s.stb) (hmst : t.mst = s.mst) (guarded : QueueFits s → Guarded s → Guarded t) : Keeps s t := by
  have fits : QueueFits s → QueueFits t := fun h => by
    refine ⟨credits_of_badges ?_ h.credits, fun y hy => ?_, fun y hy => ?_⟩
    · rw [hs, ht, List.map_cons, List.map_cons, badge]
    · rw [ht] at hy
      exact h.tail y (by rw [hs]; exact hy)
    · rw [ht] at hy
      obtain rfl | hy := List.mem_cons.mp hy
      · exact copy (h.copies e (by rw [hs]; exact List.mem_cons_self))
      · exact h.copies y (by rw [hs]; exact List.mem_cons_of_mem e hy)
  refine ⟨⟨fits, fun h => h.of_stakes (fits h.fits) ?_ hstb (mountedIndex_of_mst hmst)⟩, guarded⟩
  rw [hs, ht, List.map_cons, List.map_cons, sources, isWrite_of_badge badge]

/-- The head changed in nothing but its values. -/
theorem Keeps.rehead {s t : State} {e x : Entry} {rest : List Entry} (hs : s.sgq.queue = e :: rest) (ht : t.sgq.queue = x :: rest)
    (alike : Alike e x) (hstb : t.stb = s.stb) (hmst : t.mst = s.mst) (hg : t.guards = s.guards) : Keeps s t := by
  refine .newhead hs ht alike.badge alike.sources alike.fits hstb hmst fun _ h => h.of_head hg ?_ fun y hy _ => ?_
  · rw [activeWrite_isSome hs, activeWrite_isSome ht, alike.state, alike.writes]
  · rw [ht] at hy
    obtain rfl : x = y := Option.some.inj hy
    exact ⟨e, by rw [hs]; rfl, alike.state.symm, alike.layer.symm⟩

theorem withHead_keeps {s : State} {f : Entry → Entry} (hf : ∀ e ∈ s.sgq.queue.head?, Alike e (f e)) : Keeps s (s.withHead f) := by
  cases hq : s.sgq.queue with
  | nil => exact .of_frame (by simp [State.withHead, hq]) rfl rfl rfl
  | cons e rest =>
    refine .rehead (x := f e) hq ?_ (hf e (by rw [hq]; rfl)) rfl rfl rfl
    rw [withHead_eq hq]
    rfl

/-- The head keeps its state. -/
theorem Settled.of_head {s t : State} (h : Settled s) (hq : t.sgq.queue.head?.map (·.state) = s.sgq.queue.head?.map (·.state)) : Settled t := by
  unfold Settled at *
  have all : ∀ q : List Entry, q.head?.all (fun e => decide (e.state ≠ .ready))
      = (q.head?.map (·.state)).all fun x => decide (x ≠ .ready) := fun q => by cases q <;> rfl
  rw [all, hq, ← all]
  exact h

/-! ### Entries that end -/

section
variable {s t : State} {e : Entry} (he : e ∈ s.sgq.queue) (ht : t.sgq.queue = s.sgq.queue.filter (·.pos ≠ e.pos))
include he ht

/-- An entry leaves the queue and gives up its sources. -/
theorem ended_tidy (hr : (e.sources.map (·.index)).Nodup → Unpinned e.sources s t) (hm : t.mountedIndex = s.mountedIndex) : Tidy s t := by
  have fits : QueueFits s → QueueFits t := fun h => h.sublist (by rw [ht]; exact List.filter_sublist)
  refine ⟨fits, fun h => ?_⟩
  obtain ⟨front, back, hs, left, -⟩ := queue_cut h.fits.positions he
  exact h.unpin (fits h.fits) hs (.inl (ht.trans left)) (hr (h.distinct e he)) hm

/-- An entry other than the ACTIVE write leaves the guard. -/
theorem ended_guarded (hf : QueueFits s) (h : Guarded s) (idle : e.state = .active → ∀ wc, e.copy ≠ .strategy wc) (hg : t.guards = s.guards) :
    Guarded t := by
  obtain ⟨front, back, hs, left, -⟩ := queue_cut hf.positions he
  rw [left] at ht
  cases front with
  | nil =>
    have quiet : Quiet t.sgq.queue := by
      rw [ht]
      exact fun y hy => not_waits (hf.tail y (by rw [hs]; exact List.mem_of_mem_head? hy))
    have none : ¬ s.sgq.activeWrite.isSome = true := by
      rw [activeWrite_isSome hs]
      rintro ⟨active, wc, copy⟩
      exact idle active wc copy
    refine h.of_head hg ?_ fun y hy hs => absurd hs (quiet y hy)
    rw [quiet_activeWrite quiet]
    exact ⟨nofun, fun h => absurd h none⟩
  | cons x front =>
    refine h.of_head hg ?_ fun y hy _ => ⟨y, ?_, rfl, rfl⟩
    · rw [activeWrite_isSome ht, activeWrite_isSome hs]
    · rw [ht] at hy
      rw [hs]
      exact hy

end

end Sys2Proof.Machine

end


section
/-! SUPPORT. The queue's own operations and the end of an event by what they keep (O9, O11, O12). -/

namespace Sys2Proof.Machine

open Sys2Proof.Stated

section
variable (s : State)

theorem send_keeps (m : List Byte) : Keeps s (send m s) :=
  .of_frame (by rw [send_sgq]) (send_stb ..) (send_mst ..) (by simp [State.guards])

end

/-! ### Entries that end -/

section
variable {s : State} {e : Entry}

theorem finished_queue {u : State} (hq : u.sgq.queue = s.sgq.queue) (o : DoneOutcome) {x : Entry} (hpos : x.pos = e.pos) :
    (finishEntry o x u).sgq.queue = s.sgq.queue.filter (·.pos ≠ e.pos) := by rw [finishEntry_queue, hq, hpos]

/-- The end of an entry at its position, from a state that has released its sources. -/
theorem finish_tidy (he : e ∈ s.sgq.queue) (o : DoneOutcome) {x : Entry} (hpos : x.pos = e.pos) {u : State} (hq : u.sgq.queue = s.sgq.queue)
    (hm : u.mountedIndex = s.mountedIndex) (hr : (e.sources.map (·.index)).Nodup → Unpinned e.sources s u) : Tidy s (finishEntry o x u) := by
  have records : ∀ i, (finishEntry o x u).record i = u.record i := fun i => by rw [State.record, finishEntry_stb]; rfl
  have gens : (finishEntry o x u).gens = u.gens := by rw [State.gens, finishEntry_stb]; rfl
  refine ended_tidy he (finished_queue hq o hpos) (fun hn => ?_) ?_
  · obtain ⟨g, named, unnamed, empty⟩ := hr hn
    exact ⟨gens.trans g, fun h hh r hr => by rw [records]; exact named h hh r hr, fun i hi => (records i).trans (unnamed i hi),
      fun i hi => (records i).trans (empty i hi)⟩
  · rw [mountedIndex_of_mst (finishEntry_mst ..), hm]

/-- The end of an entry other than the ACTIVE write, from a state that has released its sources and left the guard. -/
theorem finish_keeps (he : e ∈ s.sgq.queue) (o : DoneOutcome) {x : Entry} (hpos : x.pos = e.pos)
    (idle : e.state = .active → ∀ wc, e.copy ≠ .strategy wc) {u : State} (hq : u.sgq.queue = s.sgq.queue) (hg : u.guards = s.guards)
    (hm : u.mountedIndex = s.mountedIndex) (hr : (e.sources.map (·.index)).Nodup → Unpinned e.sources s u) : Keeps s (finishEntry o x u) := by
  refine ⟨finish_tidy he o hpos hq hm hr, fun hf h => ended_guarded he (finished_queue hq o hpos) hf h idle ?_⟩
  rw [← hg]
  simp [State.guards]

theorem endEntry_keeps (he : e ∈ s.sgq.queue) (o : DoneOutcome) (idle : e.state = .active → ∀ wc, e.copy ≠ .strategy wc) :
    Keeps s (endEntry o e s) :=
  finish_keeps he o rfl idle (by rw [release_sgq]) (by simp [State.guards]) (mountedIndex_of_slotStates (slotStates_release e s))
    fun hn => release_unpinned hn s

/-- An entry without a working copy ends. -/
theorem finishEntry_keeps (he : e ∈ s.sgq.queue) (o : DoneOutcome) (none : ∀ wc, e.copy ≠ .strategy wc) : Keeps s (finishEntry o e s) := by
  have sources : e.sources = [] := by
    unfold Entry.sources
    cases hc : e.copy with
    | strategy wc => exact absurd hc (none wc)
    | none | read p => rfl
  have same : finishEntry o e s = endEntry o e s := by rw [endEntry, release, sources]; rfl
  rw [same]
  exact endEntry_keeps he o fun _ => none

end

/-! ### Arming (R86 to R90) -/

section
variable {s : State} {e : Entry} {rest : List Entry}

/-- The guard under a change of the head or the pickup from one quiet head to another. -/
theorem Guarded.of_quiet {s t : State} (h : Guarded s) (hl : t.lsc.laser = s.lsc.laser) (hs : Quiet s.sgq.queue) (ht : Quiet t.sgq.queue) :
    Guarded t := guarded_of_quiet (by rw [hl]; exact h.dark hs) ht

theorem quiet_cons {x : Entry} {rest : List Entry} (h : ¬ (x.state = .armed ∨ x.state = .active)) : Quiet (x :: rest) := by
  intro y hy
  obtain rfl : x = y := Option.some.inj hy
  exact h

/-- A READY head begins arming. -/
theorem arming_keeps (hq : s.sgq.queue = e :: rest) (hr : e.state = .ready) : Keeps s (s.withHead ({ · with state := .arming })) := by
  have queue : (s.withHead ({ · with state := .arming })).sgq.queue = { e with state := .arming } :: rest := by rw [withHead_eq hq]; rfl
  refine .newhead hq queue rfl rfl (fun fits => ?_) rfl rfl fun _ h => h.of_quiet rfl ?_ ?_
  · unfold Safety.copyFits at fits ⊢
    cases hk : e.kind <;> cases hc : e.copy <;> simp_all [Safety.pins]
  · rw [hq]
    exact quiet_cons (by rw [hr]; simp)
  · rw [queue]
    exact quiet_cons (by simp)

theorem requestJump_keeps (hq : s.sgq.queue = e :: rest) (ha : e.state = .arming) : Keeps s (requestJump e s) := by
  have quiet : Quiet s.sgq.queue := by
    rw [hq]
    exact quiet_cons (by rw [ha]; simp)
  exact ⟨⟨fun h => h.of_queue rfl, fun h => h.of_stakes (h.fits.of_queue rfl) rfl rfl (mountedIndex_of_mst rfl)⟩,
    fun _ h => h.of_quiet rfl quiet quiet⟩

/-- What the checks say of an ARMING head that they pass: the laser is in READ and the focus on its layer. -/
theorem judge_pass (h : judge s e = .pass) : s.lsc.laser = .read ∧ s.pkp.focus = .steady e.layer := by
  unfold judge at h
  by_cases hl : s.lsc.laser = .read
  · rw [if_neg (not_not.mpr hl)] at h
    refine ⟨hl, ?_⟩
    cases hf : s.pkp.focus with
    | unknown | jumping t a => rw [hf] at h; cases h
    | steady l =>
      rw [hf] at h
      dsimp only at h
      by_cases hlay : l = e.layer
      · rw [hlay]
      · rw [if_pos hlay] at h
        cases h
  · rw [if_pos hl] at h
    cases h

theorem armHead_keeps (hq : s.sgq.queue = e :: rest) (ha : e.state = .arming) (hj : judge s e = .pass) : Keeps s (armHead e s) := by
  obtain ⟨laser, focus⟩ := judge_pass hj
  unfold armHead
  dsimp only
  refine Keeps.trans ?_ (send_keeps _ _)
  generalize ({ ceiling := s.effectiveCeiling e.layer, readPower := s.captureReadPower e } : Captured) = c
  set x : Entry := { e with state := if e.kind = .read then .active else .armed, captured := some c } with hx
  have queue : (s.withHead ({ · with state := if e.kind = .read then .active else .armed, captured := some c })).sgq.queue = x :: rest := by
    rw [withHead_eq hq]; rfl
  refine .newhead hq queue rfl rfl (fun fits => ?_) rfl rfl fun hf h => ?_
  · rw [hx]
    unfold Safety.copyFits at fits ⊢
    cases hk : e.kind <;> cases hc : e.copy <;> simp_all [Safety.pins]
  · have reads : ¬ (x.state = .active ∧ ∃ wc, x.copy = .strategy wc) := by
      rintro ⟨active, wc, copy⟩
      have kind : e.kind = .read := by
        by_contra hk
        rw [hx] at active
        simp [hk] at active
      obtain ⟨p, hp⟩ := (kind_of_copyFits (hf.copies e (by rw [hq]; exact List.mem_cons_self))).1.mp kind
      have : e.copy = .strategy wc := copy
      rw [hp] at this
      cases this
    have noWrite : s.lsc.laser ≠ .write := by rw [laser]; nofun
    refine ⟨⟨fun h => absurd h noWrite, fun h => absurd ((activeWrite_isSome queue).mp h) reads⟩, fun h => absurd h noWrite,
      fun y hy _ => .inl laser, fun y hy _ => ?_⟩
    rw [queue] at hy
    obtain rfl : x = y := Option.some.inj hy
    exact focus

theorem judgeHead_keeps {next : State → State} (hn : ∀ u, Keeps u (next u)) (hq : s.sgq.queue = e :: rest) (ha : e.state = .arming) :
    Keeps s (judgeHead next e s) := by
  unfold judgeHead
  split
  · exact .refl s
  · exact requestJump_keeps hq ha
  · next hj => exact armHead_keeps hq ha hj
  · refine (endEntry_keeps (by rw [hq]; exact List.mem_cons_self) _ fun h => ?_).trans (hn _)
    rw [ha] at h
    cases h

theorem advance_keeps : ∀ (fuel : Nat) (s : State), Keeps s (advance fuel s)
  | 0, s => .refl s
  | fuel + 1, s => by
    unfold advance
    cases hq : s.sgq.queue with
    | nil => exact .refl s
    | cons e rest =>
      dsimp only
      split
      · next hr =>
        refine (arming_keeps hq hr).trans (judgeHead_keeps (advance_keeps fuel) (rest := rest) ?_ rfl)
        rw [withHead_eq hq]
        rfl
      · exact .refl s

theorem goOn_keeps (s : State) : Keeps s (goOn s) := advance_keeps _ s

theorem judgeAgain_keeps (s : State) : Keeps s (judgeAgain s) := by
  unfold judgeAgain
  cases hq : s.sgq.queue with
  | nil => exact .refl s
  | cons e rest =>
    dsimp only
    split
    · next ha => exact judgeHead_keeps goOn_keeps hq ha
    · exact .refl s

/-! ### The head has begun arming -/

/-- What an ARMING head becomes is not READY, when what goes on behind a failed one is not. -/
theorem judgeHead_settled {next : State → State} (hq : s.sgq.queue = e :: rest) (ha : e.state = .arming)
    (hn : ∀ o, Settled (next (endEntry o e s))) : Settled (judgeHead next e s) := by
  have here : Settled s := by simp [Settled, hq, ha]
  unfold judgeHead
  split
  · exact here
  · exact here
  · unfold armHead Settled
    dsimp only
    rw [send_sgq, withHead_eq hq]
    simp only [queued, List.head?_cons, Option.all_some, decide_eq_true_eq]
    split <;> nofun
  · exact hn _

theorem advance_settled : ∀ (fuel : Nat) (s : State), s.sgq.queue.length ≤ fuel → Settled (advance fuel s)
  | 0, s, h => by
    have hq : s.sgq.queue = [] := List.length_eq_zero_iff.mp (Nat.le_zero.mp h)
    simp [advance, Settled, hq]
  | fuel + 1, s, h => by
    unfold advance
    cases hq : s.sgq.queue with
    | nil => simp [Settled, hq]
    | cons e rest =>
      rw [hq, List.length_cons, Nat.add_le_add_iff_right] at h
      dsimp only
      split
      · have queue : (s.withHead ({ · with state := .arming })).sgq.queue = { e with state := .arming } :: rest := by rw [withHead_eq hq]; rfl
        refine judgeHead_settled queue rfl fun o => advance_settled fuel _ ?_
        rw [endEntry, finishEntry_queue, release_sgq, queue, List.filter_cons_of_neg (by simp)]
        exact (List.length_filter_le _ _).trans h
      · next hr => simp [Settled, hq, hr]

theorem goOn_settled (s : State) : Settled (goOn s) := advance_settled _ s le_rfl

theorem judgeAgain_settled (s : State) (h : Settled s) : Settled (judgeAgain s) := by
  unfold judgeAgain
  cases hq : s.sgq.queue with
  | nil => exact h
  | cons e rest =>
    dsimp only
    split
    · next ha => exact judgeHead_settled hq ha fun o => goOn_settled _
    · exact h

end

/-! ### The arbiter and the codes -/

/-- The entry that the arbiter takes to the engine. -/
def Entry.taken (pos : Nat) (x : Entry) : Entry := if x.pos = pos then { x with state := .resolving } else x

theorem taken_of_ne {pos : Nat} {x : Entry} (h : x.pos ≠ pos) : x.taken pos = x := if_neg h

theorem arbiter_keeps (s : State) : Keeps s (arbiter s) := by
  obtain h | ⟨r, -, h⟩ | ⟨e, he, h⟩ := arbiter_cases s <;> rw [h]
  · exact .refl s
  · exact .of_frame rfl rfl rfl rfl
  · have mem := List.mem_of_find?_eq_some he
    have pend := List.find?_some he
    simp only [Bool.and_eq_true, decide_eq_true_eq] at pend
    set t : State := { s.withEntry e.pos ({ · with state := .resolving }) with rse := { s.rse with inFlight := .segment e.pos e.tag } } with ht
    have queue : t.sgq.queue = s.sgq.queue.map (Entry.taken e.pos) := rfl
    have same : QueueFits s → ∀ x ∈ s.sgq.queue, x.pos = e.pos → x = e := fun h x hx heq => mem_of_pos h.positions hx mem heq
    have fits : QueueFits s → QueueFits t := fun h => by
      refine h.map (Entry.taken e.pos) queue (fun x => ?_) (fun x _ hw => ?_) fun x hx => ?_
      · unfold Entry.taken; split <;> rfl
      · unfold Entry.taken
        split
        · rfl
        · exact hw
      · have copy := h.copies x hx
        by_cases heq : x.pos = e.pos
        · have hs : x.state = .pending := by rw [same h x hx heq]; exact pend.1
          unfold Safety.copyFits at copy ⊢
          rw [Entry.taken, if_pos heq]
          cases hk : x.kind <;> cases hc : x.copy <;> simp_all [Safety.pins]
        · rw [taken_of_ne heq]
          exact copy
    refine ⟨⟨fits, fun h => h.of_stakes (fits h.fits) ?_ rfl (mountedIndex_of_mst rfl)⟩, fun hf h => ?_⟩
    · rw [queue, List.map_map]
      refine List.map_congr_left fun x _ => ?_
      simp only [Function.comp_apply, Entry.taken]
      split <;> rfl
    · cases hq : s.sgq.queue with
      | nil => rw [hq] at mem; cases mem
      | cons x rest =>
        rw [hq, List.map_cons] at queue
        by_cases heq : x.pos = e.pos
        · have hs : x.state = .pending := by rw [same hf x (by rw [hq]; exact List.mem_cons_self) heq]; exact pend.1
          refine h.of_quiet rfl ?_ ?_
          · rw [hq]
            exact quiet_cons (by rw [hs]; simp)
          · rw [queue]
            exact quiet_cons (by rw [Entry.taken, if_pos heq]; simp)
        · rw [taken_of_ne heq] at queue
          refine h.of_head rfl (by rw [activeWrite_isSome queue, activeWrite_isSome hq]) fun y hy _ => ⟨y, ?_, rfl, rfl⟩
          rw [queue] at hy
          rw [hq]
          exact hy

theorem arbiter_settled {s : State} (hn : (s.sgq.queue.map (·.pos)).Nodup) (h : Settled s) : Settled (arbiter s) := by
  unfold Settled at *
  obtain same | ⟨x, -, -, head⟩ := arbiter_head hn
  · rw [same]
    exact h
  · rw [head]
    rfl

/-- Warnings are values alone. -/
theorem alike_warnings (e : Entry) (w : Warnings) : Alike e { e with warnings := w } := ⟨rfl, rfl, rfl, rfl, id, .rfl⟩

theorem warnGoverning_keeps (c : Computed) (s : State) : Keeps s (warnGoverning c s) := by
  unfold warnGoverning
  split
  · exact withHead_keeps fun e _ => alike_warnings e _
  · exact .refl s

theorem recompute_keeps (b : Bool) (s : State) : Keeps s (recompute b s) := by
  refine (warnGoverning_keeps s.computeCodes s).trans (.of_frame (by rw [recompute_sgq]) ?_ ?_ ?_)
  · rw [recompute_stb, warnGoverning_stb]
  · rw [recompute_mst, warnGoverning_mst]
  · simp [State.guards]

theorem settleCodes_keep (s t : State) : Keeps t (settleCodes s t) := by
  obtain h | h := settleCodes_cases s t <;> rw [h]
  · exact .refl t
  · exact recompute_keeps _ t

theorem settleCodes_settled {t : State} (s : State) (h : Settled t) : Settled (settleCodes s t) := by
  refine h.of_head ?_
  have states := settleCodes_badges s t (·.state) fun _ _ => rfl
  rw [← List.head?_map, ← List.head?_map, states]

theorem recompute_settled {t : State} (b : Bool) (h : Settled t) : Settled (recompute b t) := by
  refine h.of_head ?_
  rw [← List.head?_map, ← List.head?_map, recompute_sgq, warnGoverning_badges _ _ (·.state) fun _ _ => rfl]

/-- A whole command: what it keeps, and the head that has begun arming at its end. -/
structure Kept (s t : State) : Prop extends Keeps s t where
  settled : QueueFits s → Settled s → Settled t

theorem Kept.refl (s : State) : Kept s s := ⟨.refl s, fun _ => id⟩

theorem Kept.trans {s t u : State} (h : Kept s t) (h' : Kept t u) : Kept s u :=
  ⟨h.toKeeps.trans h'.toKeeps, fun hf hs => h'.settled (h.fits hf) (h.settled hf hs)⟩

theorem Kept.of_frame {s t : State} (hq : t.sgq.queue = s.sgq.queue) (hstb : t.stb = s.stb) (hmst : t.mst = s.mst) (hg : t.guards = s.guards) :
    Kept s t := ⟨.of_frame hq hstb hmst hg, fun _ h => h.of_head (by rw [hq])⟩

/-- The queue goes on behind a change, and the event ends. -/
theorem wentOn_kept {s u : State} (h : Keeps s u) (before : State) : Kept s (settleCodes before (goOn u)) :=
  ⟨(h.trans (goOn_keeps u)).trans (settleCodes_keep ..), fun _ _ => settleCodes_settled _ (goOn_settled u)⟩

/-- An ARMING head is judged again, and the event ends. -/
theorem judged_kept {s u : State} (h : Kept s u) (before : State) : Kept s (settleCodes before (judgeAgain u)) :=
  ⟨(h.toKeeps.trans (judgeAgain_keeps u)).trans (settleCodes_keep ..),
    fun hf hs => settleCodes_settled _ (judgeAgain_settled u (h.settled hf hs))⟩

theorem arbiter_kept (s : State) : Kept s (arbiter s) := ⟨arbiter_keeps s, fun hf h => arbiter_settled hf.positions h⟩

theorem settled_kept {s u : State} (h : Kept s u) (before : State) : Kept s (settleCodes before u) :=
  ⟨h.toKeeps.trans (settleCodes_keep ..), fun hf hs => settleCodes_settled _ (h.settled hf hs)⟩

theorem recomputed_kept {s u : State} (h : Kept s u) (b : Bool) : Kept s (recompute b u) :=
  ⟨h.toKeeps.trans (recompute_keeps ..), fun hf hs => recompute_settled _ (h.settled hf hs)⟩

end Sys2Proof.Machine

end


section
/-! SUPPORT. Records and slots by what their changes leave of the pins: re-resolution, upkeep and the requests of the tables (O9, O11, O12). -/

namespace Sys2Proof.Machine

open Sys2Proof.Stated

/-! ### Changes of records -/

/-- From `s` to `t` records in place keep pins and key, a record that is freed has no pin, and one that is placed neither. -/
structure Upkept (s t : State) : Prop where
  kept : ∀ i r, s.record i = some r → (t.record i = none ∧ r.pins = 0)
    ∨ ∃ q, t.record i = some q ∧ q.pins = r.pins ∧ q.key = r.key ∧ (q.state = .retiring → q.pins ≠ 0 ∨ r.state = .retiring)
  fresh : ∀ i, s.record i = none → ∀ q, t.record i = some q → q.pins = 0 ∧ q.state ≠ .retiring

theorem Pinned.upkept {s t : State} (h : Pinned s) (hq : t.sgq.queue = s.sgq.queue) (hm : t.mountedIndex = s.mountedIndex) (up : Upkept s t) :
    Pinned t := by
  have old : ∀ i q, t.record i = some q → (∃ r, s.record i = some r ∧ q.pins = r.pins ∧ q.key = r.key
      ∧ (q.state = .retiring → q.pins ≠ 0 ∨ r.state = .retiring)) ∨ s.record i = none ∧ q.pins = 0 ∧ q.state ≠ .retiring := by
    intro i q hi
    cases hr : s.record i with
    | none => exact .inr ⟨rfl, up.fresh i hr q hi⟩
    | some r =>
      obtain ⟨gone, -⟩ | ⟨p, hp, same⟩ := up.kept i r hr
      · rw [gone] at hi; cases hi
      · obtain rfl : p = q := Option.some.inj (hp.symm.trans hi)
        exact .inl ⟨r, rfl, same⟩
  have unused : ∀ i, s.record i = none → s.sgq.queue.countP (·.uses i) = 0 := fun i hi => by
    rw [List.countP_eq_zero]
    intro e he hu
    obtain ⟨k, hk, rfl⟩ := (uses_iff e i).mp hu
    have := h.held e he k hk
    rw [hi] at this
    cases this
  refine ⟨h.fits.of_queue hq, fun i q hi => ?_, fun i q hi hp => ?_, fun i q hi hs => ?_, fun e he k hk => ?_, fun e he => ?_, fun e he hw => ?_⟩
  · rw [hq]
    obtain ⟨r, hr, pins, -⟩ | ⟨hr, pins, -⟩ := old i q hi
    · rw [pins]; exact h.count i r hr
    · rw [pins, unused i hr]
  · obtain ⟨r, hr, pins, key, -⟩ | ⟨-, pins, -⟩ := old i q hi
    · rw [hm, key]; exact h.mounted i r hr (pins ▸ hp)
    · exact absurd pins hp
  · obtain ⟨r, hr, pins, -, retiring⟩ | ⟨-, -, service⟩ := old i q hi
    · obtain pinned | was := retiring hs
      · exact pinned
      · rw [pins]; exact h.retiring i r hr was
    · exact absurd hs service
  · rw [hq] at he
    obtain ⟨r, hr⟩ := Option.isSome_iff_exists.mp (h.held e he k hk)
    obtain ⟨-, unpinned⟩ | ⟨q, hq, -⟩ := up.kept _ r hr
    · have counted := h.count _ r hr
      rw [unpinned] at counted
      exact absurd ((uses_iff e _).mpr ⟨k, hk, rfl⟩) (List.countP_eq_zero.mp counted.symm e he)
    · rw [hq]; rfl
  · rw [hq] at he
    exact h.distinct e he
  · rw [hq] at he
    rw [hm]
    exact h.writes e he hw

/-- A change of records and slots that leaves queue and guard. -/
theorem upkept_kept {s t : State} (hq : t.sgq.queue = s.sgq.queue) (hg : t.guards = s.guards) (hm : Pinned s → t.mountedIndex = s.mountedIndex)
    (up : Pinned s → Upkept s t) : Kept s t :=
  ⟨⟨⟨fun h => h.of_queue hq, fun h => h.upkept hq (hm h) (up h)⟩, fun _ h => h.of_queue hg hq⟩, fun _ h => h.of_head (by rw [hq])⟩

/-- One record changed but for pins and key. -/
theorem upkept_record {s t : State} (i : Nat) (h : ∀ j, i ≠ j → t.record j = s.record j)
    (hi : ∀ r, s.record i = some r → (t.record i = none ∧ r.pins = 0)
      ∨ ∃ q, t.record i = some q ∧ q.pins = r.pins ∧ q.key = r.key ∧ (q.state = .retiring → q.pins ≠ 0 ∨ r.state = .retiring))
    (hn : s.record i = none → ∀ q, t.record i = some q → q.pins = 0 ∧ q.state ≠ .retiring) : Upkept s t := by
  refine ⟨fun j r hr => ?_, fun j hj q hq => ?_⟩
  · by_cases heq : i = j
    · subst heq; exact hi r hr
    · exact .inr ⟨r, (h j heq).trans hr, rfl, rfl, .inr⟩
  · by_cases heq : i = j
    · subst heq; exact hn hj q hq
    · rw [h j heq, hj] at hq; cases hq

theorem leaveService_kept (i : Nat) (s : State) : Kept s (leaveService i s) := by
  have only := leaveService_tablesOnly i s
  obtain ⟨lsc, -, pkp, -, -, -, -, lines, -⟩ := only.rest
  have queue : (leaveService i s).sgq.queue = s.sgq.queue := by
    unfold leaveService freePlace
    split
    · split
      · rfl
      · split
        · split <;> rfl
        · rfl
    · rfl
  have slots : (leaveService i s).slotStates = s.slotStates := by
    unfold leaveService
    split
    · split
      · rfl
      · split
        · exact slotStates_freePlace i s
        · rfl
    · rfl
  refine upkept_kept queue (by rw [State.guards, lsc, pkp, lines]; rfl) (fun _ => mountedIndex_of_slotStates slots) fun _ => ?_
  refine upkept_record i (fun j hne => by rw [record_leaveService, if_neg hne]) (fun r hr => ?_) fun hn q hq => ?_
  · rw [record_leaveService, if_pos rfl, hr, Option.bind_some, Record.outOfService]
    split
    · next retiring => exact .inr ⟨r, rfl, rfl, rfl, .inr⟩
    · split
      · next unpinned => exact .inl ⟨rfl, unpinned⟩
      · next pinned => exact .inr ⟨_, rfl, rfl, rfl, fun _ => .inl pinned⟩
  · rw [record_leaveService, if_pos rfl, hn] at hq
    cases hq

theorem placeRecord_kept {s : State} {i : Nat} {r : Record} (hi : s.record i = none ∧ i < s.stb.length) (hp : r.pins = 0)
    (hs : r.state ≠ .retiring) : Kept s (placeRecord i r s) := by
  refine upkept_kept rfl rfl (fun _ => mountedIndex_of_slotStates ?_) fun _ => ?_
  · exact slotStates_withSlot (f := fun m => { m with records := m.records + 1 }) (fun _ => rfl) _ _
  · refine upkept_record i (fun j hne => by rw [record_placeRecord hi.2, if_neg hne]) (fun q hq => ?_) fun _ q hq => ?_
    · rw [hi.1] at hq; cases hq
    · rw [record_placeRecord hi.2, if_pos rfl] at hq
      obtain rfl := Option.some.inj hq
      exact ⟨hp, hs⟩

/-- A record in place changed in what neither pins nor key are. -/
theorem withPlace_kept {s : State} {i : Nat} {f : Place → Place}
    (hf : ∀ p, s.stb[i]? = some p → ∀ r, p.held = some r → ∃ q, (f p).held = some q ∧ q.pins = r.pins ∧ q.key = r.key
      ∧ (q.state = .retiring → r.state = .retiring))
    (hn : ∀ p, s.stb[i]? = some p → p.held = none → (f p).held = none) : Kept s (s.withPlace i f) := by
  refine upkept_kept rfl rfl (fun _ => mountedIndex_of_mst rfl) fun _ => ?_
  refine upkept_record i (fun j hne => by rw [record_withPlace, if_neg hne]) (fun r hr => ?_) fun hr q hq => ?_
  · obtain ⟨p, hp, held⟩ := Option.bind_eq_some_iff.mp hr
    obtain ⟨q, hq, pins, key, state⟩ := hf p hp r held
    refine .inr ⟨q, ?_, pins, key, fun h => .inr (state h)⟩
    rw [record_withPlace, if_pos rfl, hp]
    exact hq
  · rw [record_withPlace, if_pos rfl] at hq
    obtain ⟨p, hp, held⟩ := Option.bind_eq_some_iff.mp hq
    have empty : p.held = none := by
      rw [State.record, hp] at hr
      exact hr
    rw [hn p hp empty] at held
    cases held

/-! ### Re-resolution -/

theorem reResolve_guarded {s : State} {p : Entry → Bool} (hf : QueueFits s)
    (hk : ∀ e ∈ s.sgq.queue, e.state = .ready → p e = true → e.kind ≠ .read) (h : Guarded s) : Guarded (reResolve p s) := by
  obtain ⟨lsc, -, pkp, -, -, -, -, lines, -⟩ := (reResolve_tablesOnly p s).rest
  have guards : (reResolve p s).guards = s.guards := by rw [State.guards, lsc, pkp, lines]; rfl
  have queue := (reResolve_spec hf.positions hk).1
  cases hq : s.sgq.queue with
  | nil => exact h.of_queue guards (by rw [queue, hq]; rfl)
  | cons e rest =>
    rw [hq, List.map_cons] at queue
    by_cases ready : e.state = .ready ∧ p e = true
    · rw [if_pos ready] at queue
      refine h.of_quiet (by rw [lsc]) ?_ ?_
      · rw [hq]
        exact quiet_cons (by rw [ready.1]; simp)
      · rw [queue]
        exact quiet_cons (by simp [Entry.sent])
    · rw [if_neg ready] at queue
      refine h.of_head guards (by rw [activeWrite_isSome queue, activeWrite_isSome hq]) fun y hy _ => ⟨y, ?_, rfl, rfl⟩
      rw [queue] at hy
      rw [hq]
      exact hy

/-- READY entries other than READs go back to PENDING. -/
theorem reResolve_kept {s : State} {p : Entry → Bool} (hk : ∀ e, Safety.copyFits e = true → p e = true → e.kind ≠ .read) :
    Kept s (reResolve p s) := by
  have chosen : QueueFits s → ∀ e ∈ s.sgq.queue, e.state = .ready → p e = true → e.kind ≠ .read := fun hf e he _ hp => hk e (hf.copies e he) hp
  exact ⟨⟨⟨fun hf => (reResolve_spec hf.positions (chosen hf)).2.1 hf, fun h => (reResolve_spec h.fits.positions (chosen h.fits)).2.2 h⟩,
    fun hf h => reResolve_guarded hf (chosen hf) h⟩, fun hf h => reResolve_settled hf.positions (chosen hf) h⟩

/-- Only writes approximate a key. -/
theorem kind_of_approximates {e : Entry} (hc : Safety.copyFits e = true) {k : Key} (h : e.approximates k = true) : e.kind ≠ .read := by
  intro hk
  obtain ⟨p, hp⟩ := (kind_of_copyFits hc).1.mp hk
  unfold Entry.approximates at h
  rw [hp] at h
  cases h

theorem kind_of_any_uses {e : Entry} (hc : Safety.copyFits e = true) {l : List Nat} (h : l.any e.uses = true) : e.kind ≠ .read := by
  obtain ⟨i, -, hu⟩ := List.any_eq_true.mp h
  exact kind_of_uses hc hu

end Sys2Proof.Machine

end


section
/-! SUPPORT. The requests of records and slots by what they keep of queue, pins and write guard (O9, O11, O12). -/

namespace Sys2Proof.Machine

open Sys2Proof.Stated

section
variable {s : State}

theorem answered_kept {t : State} (h : Kept s t) (code : Byte) (st : Status) (p : List Byte) : Kept s (answer code st p t) :=
  h.trans (.of_frame rfl rfl rfl rfl)

theorem refused_kept (code : Byte) (st : Status) : Kept s (answerStatus code st s) := .of_frame rfl rfl rfl rfl

theorem acknowledged_kept {t : State} (h : Kept s t) (code : Byte) (st : Status) : Kept s (answerStatus code st t) :=
  h.trans (.of_frame rfl rfl rfl rfl)

theorem withHandle_kept (code : Byte) (index gen : Nat) {work : Record → State → State}
    (h : ∀ r, s.record index = some r → Kept s (work r s)) : Kept s (withHandle code index gen work s) := by
  unfold withHandle
  split
  · exact refused_kept code _
  · next p hp =>
    split
    · exact refused_kept code _
    · next r hr =>
      split
      · exact refused_kept code _
      · exact h r (by rw [State.record, hp]; exact hr)

/-! ### Records -/

theorem serveRecInstall_kept (p : List Byte) : Kept s (serveRecInstall p s) := by
  unfold serveRecInstall
  dsimp only
  split
  · exact refused_kept 32 _
  · next st hst =>
    have service : st ≠ .retiring := by
      split at hst
      · cases hst; nofun
      · split at hst
        · cases hst; nofun
        · cases hst
    (repeat' split)
    iterate 7 (· exact refused_kept 32 _)
    · exact .of_frame rfl rfl rfl rfl
    · exact refused_kept 32 _
    · next i hi =>
      refine answered_kept ?_ _ _ _
      refine (placeRecord_kept (record_none_of_findIdx? hi) rfl service).trans ((reResolve_kept fun e hc hp => ?_).trans (arbiter_kept _))
      exact kind_of_approximates hc (Bool.and_eq_true_iff.mp hp).2

theorem serveRecAmend_kept (p : List Byte) : Kept s (serveRecAmend p s) := by
  unfold serveRecAmend
  refine withHandle_kept _ _ _ fun r hr => ?_
  dsimp only
  split
  · exact refused_kept 33 _
  · next service =>
    (repeat' split)
    iterate 4 (· exact refused_kept 33 _)
    refine answered_kept ?_ _ _ _
    refine (withPlace_kept (fun q hq o ho => ?_) fun q hq ho => ?_).trans ((reResolve_kept fun e hc => kind_of_uses hc).trans (arbiter_kept _))
    · have same : o = r := by
        rw [State.record, hq] at hr
        exact Option.some.inj (ho.symm.trans hr)
      subst same
      refine ⟨_, rfl, rfl, rfl, fun h => ?_⟩
      unfold Groups.apply at h
      dsimp only at h
      split at h
      · cases h
      · exact h
    · rw [State.record, hq] at hr
      rw [show q.held = some r from hr] at ho
      cases ho

theorem serveRecPromote_kept (p : List Byte) : Kept s (serveRecPromote p s) := by
  unfold serveRecPromote
  refine withHandle_kept _ _ _ fun r hr => ?_
  dsimp only
  split
  · exact refused_kept 34 _
  · refine answered_kept (Kept.trans ?_ (arbiter_kept _)) _ _ _
    have back : Kept s (reResolve (fun e => (usableRecord s.stb r.key).any e.uses || e.uses (u8 p 0) || e.approximates r.key) s) := by
      refine reResolve_kept fun e hc h => ?_
      obtain h | h := Bool.or_eq_true_iff.mp h
      · obtain h | h := Bool.or_eq_true_iff.mp h
        · obtain ⟨j, -, hu⟩ := (Option.any_eq_true _ _).mp h
          exact kind_of_uses hc hu
        · exact kind_of_uses hc h
      · exact kind_of_approximates hc h
    have promoted : ∀ u : State, Kept u ((u.withRecord (u8 p 0) ({ · with state := .active })).withPlace (u8 p 0)
        fun q => { q with gen := (q.gen + 1) % 256 }) := fun u => by
      refine Kept.trans (t := u.withRecord (u8 p 0) ({ · with state := .active })) ?_ ?_
      · refine withPlace_kept (fun q _ o ho => ⟨{ o with state := .active }, ?_, rfl, rfl, nofun⟩) fun q _ ho => ?_
        · show q.held.map _ = _
          rw [ho]
          rfl
        · show q.held.map _ = _
          rw [ho]
          rfl
      · exact withPlace_kept (fun q _ o ho => ⟨o, ho, rfl, rfl, id⟩) fun q _ ho => ho
    refine Kept.trans ?_ (promoted _)
    split
    · exact back.trans (leaveService_kept _ _)
    · exact back

theorem serveRecRetire_kept (p : List Byte) : Kept s (serveRecRetire p s) := by
  unfold serveRecRetire
  refine withHandle_kept _ _ _ fun r _ => ?_
  dsimp only
  split
  · exact .of_frame rfl rfl rfl rfl
  · exact answered_kept ((reResolve_kept fun e hc => kind_of_uses hc).trans ((leaveService_kept _ _).trans (arbiter_kept _))) _ _ _

/-! ### Slots -/

/-- With the queue empty no record is pinned, so that any slot may be mounted. -/
theorem idle_kept {t : State} (empty : s.queueOccupied = false) (hq : t.sgq.queue = s.sgq.queue) (hstb : t.stb = s.stb)
    (hg : t.guards = s.guards) : Kept s t := by
  have none : s.sgq.queue = [] := by simpa [State.queueOccupied] using empty
  have noEntry : ∀ e, e ∉ t.sgq.queue := fun e he => by rw [hq, none] at he; cases he
  have record : ∀ i, t.record i = s.record i := fun i => by rw [State.record, hstb]; rfl
  refine ⟨⟨⟨fun h => h.of_queue hq, fun h => ?_⟩, fun _ h => h.of_queue hg hq⟩, fun _ h => h.of_head (by rw [hq])⟩
  have unpinned : ∀ i r, s.record i = some r → r.pins = 0 := fun i r hr => by rw [h.count i r hr, none]; rfl
  refine ⟨h.fits.of_queue hq, fun i r hr => ?_, fun i r hr hp => ?_, fun i r hr => h.retiring i r (record i ▸ hr), fun e he => absurd he (noEntry e),
    fun e he => absurd he (noEntry e), fun e he => absurd he (noEntry e)⟩
  · rw [hq]; exact h.count i r (record i ▸ hr)
  · exact absurd (unpinned i r (record i ▸ hr)) hp

/-- A slot changed but for its being mounted. -/
theorem mountedIndex_modify {l : List Slot} {i : Nat} {f : Slot → Slot} (h : ∀ m, l[i]? = some m → ((f m).state = .mounted ↔ m.state = .mounted)) :
    (l.modify i f).findIdx? (·.state = .mounted) = l.findIdx? (·.state = .mounted) := by
  have mounted : ∀ q : List Slot, q.findIdx? (·.state = .mounted) = (q.map fun m => decide (m.state = .mounted)).findIdx? id := fun q => by
    rw [List.findIdx?_map]; rfl
  rw [mounted, mounted]
  congr 1
  refine List.ext_getElem? fun j => ?_
  rw [List.getElem?_map, List.getElem?_map, List.getElem?_modify]
  cases hm : l[j]? with
  | none => rfl
  | some m =>
    by_cases heq : i = j
    · subst heq
      simp [h m hm]
    · simp [heq]

/-- A slot changed but for its being mounted. -/
theorem withSlot_kept {i : Nat} {f : Slot → Slot} (h : ∀ m, s.mst[i]? = some m → ((f m).state = .mounted ↔ m.state = .mounted)) :
    Kept s (s.withSlot i f) :=
  upkept_kept rfl rfl (fun _ => mountedIndex_modify h) fun _ => ⟨fun i r hr => .inr ⟨r, hr, rfl, rfl, .inr⟩, fun i hi q hq => by
    rw [show (s.withSlot _ f).record i = s.record i from rfl, hi] at hq
    cases hq⟩

theorem serveMediaInstall_kept (p : List Byte) : Kept s (serveMediaInstall p s) := by
  unfold serveMediaInstall
  dsimp only
  (repeat' split)
  · exact refused_kept 16 _
  · exact refused_kept 16 _
  · exact .of_frame rfl rfl rfl rfl
  · exact refused_kept 16 _
  · next i hi =>
    refine answered_kept (withSlot_kept fun m hm => ⟨fun h => ?_, fun h => ?_⟩) _ _ _
    · cases h
    obtain ⟨m', hm', free⟩ := findIdx?_spec hi
    obtain rfl : m = m' := Option.some.inj (hm.symm.trans hm')
    rw [of_decide_eq_true free] at h
    cases h

theorem serveMediaAmend_kept (p : List Byte) : Kept s (serveMediaAmend p s) := by
  unfold serveMediaAmend
  dsimp only
  (repeat' split)
  iterate 5 (· exact refused_kept 17 _)
  exact acknowledged_kept (withSlot_kept (f := fun m => { m with
    layers := m.layers.mapIdx fun k l => if (selectedLayers (u8 p 1)).contains k then readLayer p 2 k else l }) fun m _ => .rfl) _ _

theorem serveMediaMount_kept (p : List Byte) : Kept s (serveMediaMount p s) := by
  unfold serveMediaMount
  dsimp only
  (repeat' split)
  iterate 4 (· exact refused_kept 18 _)
  next empty =>
    refine acknowledged_kept (s := s) (t := { s with mst := (s.mst.map Slot.unmount).modify (u8 p 0) ({ · with state := .mounted }) }) ?_ _ _
    exact idle_kept (by simpa using empty) rfl rfl rfl

theorem serveMediaUnmount_kept (p : List Byte) : Kept s (serveMediaUnmount p s) := by
  unfold serveMediaUnmount
  (repeat' split)
  iterate 2 (· exact refused_kept 19 _)
  next empty =>
    refine acknowledged_kept (s := s) (t := { s with mst := s.mst.map Slot.unmount }) ?_ _ _
    exact idle_kept (by simpa using empty) rfl rfl rfl

theorem record_freeOf (i j : Nat) (u : State) (hu : u.stb = s.stb.map (Place.freeOf i)) :
    u.record j = (s.record j).filter fun r => decide (r.key.media ≠ i) := by
  rw [State.record, State.record, hu, List.getElem?_map]
  cases s.stb[j]? with
  | none => rfl
  | some p =>
    obtain ⟨g, none | r⟩ := p
    · rfl
    · by_cases h : r.key.media = i <;> simp [Place.freeOf, h, Option.filter]

theorem serveMediaRetire_kept (p : List Byte) : Kept s (serveMediaRetire p s) := by
  unfold serveMediaRetire
  dsimp only
  split
  · exact refused_kept 20 _
  · next m hm =>
    (repeat' split)
    iterate 2 (· exact refused_kept 20 _)
    next known =>
    set t : State := { s with stb := s.stb.map (Place.freeOf (u8 p 0)), mst := s.mst.set (u8 p 0) Slot.empty } with ht
    have record := fun j => record_freeOf (s := s) (u8 p 0) j t rfl
    refine answered_kept (s := s) (t := t) (upkept_kept rfl rfl (fun _ => ?_) fun h => ⟨fun j r hr => ?_, fun j hj q hq => ?_⟩) _ _ _
    · show (s.mst.set _ _).findIdx? _ = _
      rw [List.set_eq_modify]
      refine mountedIndex_modify fun m' hm' => ⟨nofun, fun mounted => absurd ?_ known⟩
      rw [Option.some.inj (hm.symm.trans hm')]
      exact mounted
    · by_cases media : r.key.media = u8 p 0
      · refine .inl ⟨by rw [record, hr]; simp [media], ?_⟩
        by_contra pinned
        obtain ⟨m', hm', mounted⟩ := findIdx?_spec (h.mounted j r hr pinned)
        rw [media] at hm'
        rw [Option.some.inj (hm.symm.trans hm')] at known
        exact known (of_decide_eq_true mounted)
      · exact .inr ⟨r, by rw [record, hr]; simp [media], rfl, rfl, .inr⟩
    · rw [record, hj] at hq
      cases hq

/-! ### Lookups -/

theorem joinWaitList_kept (code : Byte) (r : HostLookup) : Kept s (joinWaitList code r s) := by
  unfold joinWaitList
  refine Kept.trans ?_ (arbiter_kept _)
  exact .of_frame rfl rfl rfl rfl

theorem serveRecRetireMatch_kept (p : List Byte) : Kept s (serveRecRetireMatch p s) := by
  unfold serveRecRetireMatch
  split
  · exact refused_kept 36 _
  · exact joinWaitList_kept ..

theorem serveRecFind_kept (p : List Byte) : Kept s (serveRecFind p s) := by
  unfold serveRecFind
  dsimp only
  (repeat' split)
  iterate 5 (· exact refused_kept 38 _)
  · exact joinWaitList_kept ..
  · exact joinWaitList_kept ..

theorem serveRecScan_kept (p : List Byte) : Kept s (serveRecScan p s) := by
  unfold serveRecScan
  (repeat' split)
  iterate 2 (· exact refused_kept 39 _)
  exact joinWaitList_kept ..

end

end Sys2Proof.Machine

end


section
/-! SUPPORT. Lookups, the intake and the link by what they keep of queue, pins and write guard (O9, O11, O12). -/

namespace Sys2Proof.Machine

open Sys2Proof.Stated

/-! ### Using what is kept -/

/-- Every promise stands on the queue's fit, which may therefore be assumed. -/
theorem Keeps.of_fits {s t : State} (h : QueueFits s → Keeps s t) : Keeps s t :=
  ⟨⟨fun hf => (h hf).fits hf, fun hp => (h hp.fits).pinned hp⟩, fun hf => (h hf).guarded hf⟩

theorem went_kept {s u : State} (h : Keeps s u) : Kept s (goOn u) := ⟨h.trans (goOn_keeps u), fun _ _ => goOn_settled u⟩

/-- An entry without pins holds no working copy. -/
theorem copy_of_unpinned {e : Entry} (hc : Safety.copyFits e = true) (hs : e.state = .pending ∨ e.state = .resolving) : e.copy = .none := by
  unfold Safety.copyFits at hc
  cases hk : e.kind <;> cases hcopy : e.copy <;> simp_all [Safety.pins]
  all_goals obtain h | h := hs <;> simp [h] at hc

/-! ### The sources of a resolution (R41 to R47) -/

section
variable {s : State} {k : Key}

theorem findRecord_spec {ok : Record → Bool} {i : Nat} (h : findRecord s.stb k ok = some i) :
    ∃ r, s.record i = some r ∧ r.key = k ∧ ok r = true := by
  obtain ⟨p, hp, held⟩ := findIdx?_spec h
  obtain ⟨r, hr, both⟩ := (Option.any_eq_true _ _).mp held
  obtain ⟨key, hok⟩ := Bool.and_eq_true_iff.mp both
  exact ⟨r, by rw [State.record, hp]; exact hr, of_decide_eq_true key, hok⟩

/-- A place that a lookup for the key can name: it holds a record in service of the key's slot. -/
def Sourced (s : State) (k : Key) (i : Nat) : Prop := ∃ r, s.record i = some r ∧ r.key.media = k.media ∧ r.state ≠ .retiring

theorem firstNeighbour_spec {zs : List Nat} {n : Neighbour} (h : firstNeighbour s.stb k zs = some n) :
    ∃ r, s.record n.index = some r ∧ r.key = { k with zone := n.zone } ∧ r.usable = true := by
  obtain ⟨z, -, hn⟩ := List.exists_of_findSome?_eq_some h
  obtain ⟨i, hi, rfl⟩ := Option.map_eq_some_iff.mp hn
  exact findRecord_spec hi

theorem service_of_usable {r : Record} (h : r.usable = true) : r.state ≠ .retiring := fun hs => by
  rw [usable_retiring hs] at h
  cases h

theorem neighbour_sourced {zs : List Nat} {n : Neighbour} (h : firstNeighbour s.stb k zs = some n) : Sourced s k n.index := by
  obtain ⟨r, hr, key, usable⟩ := firstNeighbour_spec h
  exact ⟨r, hr, by rw [key], service_of_usable usable⟩

/-- A lookup names one place, or two for a derivation, each holding a record of the key's slot in service. -/
theorem working_sources {set : Settings} {mode : Mode} {w : Working} (hw : working s.stb k (resolve s.stb set mode k) = some w) :
    w.sources.length = (if w.kind = .derived then 2 else 1) ∧ (w.sources.map (·.index)).Nodup ∧ ∀ h ∈ w.sources, Sourced s k h.index := by
  have single : ∀ kind i, kind ≠ .derived → resolve s.stb set mode k = .found kind [i] → Sourced s k i →
      w.sources.length = (if w.kind = .derived then 2 else 1) ∧ (w.sources.map (·.index)).Nodup ∧ ∀ h ∈ w.sources, Sourced s k h.index := by
    intro kind i hk hr hs
    rw [hr] at hw
    obtain ⟨r, -, rfl⟩ := Option.map_eq_some_iff.1 hw
    refine ⟨by simp [hk], by simp, fun h hh => ?_⟩
    obtain rfl : h = handleOf s.stb i := by simpa using hh
    exact hs
  obtain ⟨i, hr, hi⟩ | ⟨i, hr, hi⟩ | ⟨l, u, hr, hl, hu⟩ | ⟨n, hr, hn⟩ | hr | hr := resolve_cases s.stb set mode k
  · refine single .exactTrial i (by simp) hr ?_
    obtain ⟨r, hr, key, state⟩ := findRecord_spec hi
    exact ⟨r, hr, by rw [key], by rw [of_decide_eq_true state]; nofun⟩
  · refine single .exact i (by simp) hr ?_
    obtain ⟨r, hr, key, usable⟩ := findRecord_spec hi
    exact ⟨r, hr, by rw [key], service_of_usable usable⟩
  · rw [hr] at hw
    obtain ⟨rl, -, hw⟩ := Option.bind_eq_some_iff.1 hw
    obtain ⟨ru, -, rfl⟩ := Option.map_eq_some_iff.1 hw
    have apart : l.index ≠ u.index := fun heq => by
      obtain ⟨r, hr, key, -⟩ := firstNeighbour_spec hl
      obtain ⟨q, hq, key', -⟩ := firstNeighbour_spec hu
      rw [heq, hq] at hr
      obtain rfl := Option.some.inj hr
      rw [key'] at key
      have zone : u.zone = l.zone := congrArg Key.zone key
      have := lowerNeighbour_lt hl
      have := lt_upperNeighbour hu
      omega
    refine ⟨rfl, by simpa [handleOf] using apart, fun h hh => ?_⟩
    obtain rfl | rfl : h = handleOf s.stb l.index ∨ h = handleOf s.stb u.index := by simpa using hh
    · exact neighbour_sourced hl
    · exact neighbour_sourced hu
  · exact single .borrowed n.index (by simp) hr (hn.elim neighbour_sourced neighbour_sourced)
  · rw [hr] at hw; cases hw
  · rw [hr] at hw; cases hw

end

/-- Of distinct sources at most one is at an index. -/
theorem countP_of_nodup {l : List Handle} (h : (l.map (·.index)).Nodup) (i : Nat) :
    l.countP (fun h => decide (h.index = i)) = if l.any (fun h => decide (h.index = i)) = true then 1 else 0 := by
  have counts : l.countP (fun h => decide (h.index = i)) = (l.map (·.index)).count i := by
    rw [List.count, List.countP_map]
    exact List.countP_congr fun h _ => by simp
  have mem : l.any (fun h => decide (h.index = i)) = true ↔ i ∈ l.map (·.index) := by simp
  rw [counts]
  split
  · next hm => exact List.count_eq_one_of_mem h (mem.mp hm)
  · next hm => exact List.count_eq_zero_of_not_mem (mt mem.mpr hm)

/-! ### An entry that takes its sources -/

section
variable {s t : State} {e x : Entry} {front back : List Entry} (hs : s.sgq.queue = front ++ e :: back) (ht : t.sgq.queue = front ++ x :: back)
include hs ht

/-- An entry changed in its place. -/
theorem QueueFits.replace (h : QueueFits s) (badge : x.badge = e.badge) (waits : Safety.waits x = true) (copy : Safety.copyFits x = true) :
    QueueFits t := by
  have tail := h.tail
  rw [hs] at tail
  refine ⟨credits_of_badges ?_ h.credits, fun y hy => ?_, fun y hy => ?_⟩
  · rw [ht, hs]
    simp only [List.map_append, List.map_cons, badge]
    exact .refl _
  · rw [ht] at hy
    cases front with
    | nil => exact tail y hy
    | cons z front =>
      obtain hy | rfl | hy := by simpa using hy
      · exact tail y (by simp [hy])
      · exact waits
      · exact tail y (by simp [hy])
  · rw [ht] at hy
    obtain hy | rfl | hy := by simpa using hy
    · exact h.copies y (by rw [hs]; simp [hy])
    · exact copy
    · exact h.copies y (by rw [hs]; simp [hy])

/-- The guard under a quiet entry that changes to a quiet one. -/
theorem Guarded.replace (h : Guarded s) (hg : t.guards = s.guards) (quiet : ¬ (e.state = .armed ∨ e.state = .active))
    (quiet' : ¬ (x.state = .armed ∨ x.state = .active)) : Guarded t := by
  cases front with
  | nil =>
    refine h.of_quiet (congrArg Prod.fst hg) ?_ ?_
    · rw [hs]
      exact quiet_cons quiet
    · rw [ht]
      exact quiet_cons quiet'
  | cons y front =>
    refine h.of_head hg (by rw [activeWrite_isSome (rest := front ++ x :: back) ht, activeWrite_isSome (rest := front ++ e :: back) hs])
      fun z hz _ => ⟨z, ?_, rfl, rfl⟩
    rw [ht] at hz
    rw [hs]
    exact hz

/-- An entry without sources takes some, each of which has one pin more. -/
theorem Pinned.pin (h : Pinned s) (fits : QueueFits t) (none : e.sources = []) (write : x.isWrite = e.isWrite)
    (distinct : (x.sources.map (·.index)).Nodup)
    (record : ∀ i, t.record i = (s.record i).map fun r => { r with pins := r.pins + x.sources.countP (fun h => decide (h.index = i)) })
    (sourced : ∀ k ∈ x.sources, ∃ r, s.record k.index = some r ∧ s.mountedIndex = some r.key.media) (hm : t.mountedIndex = s.mountedIndex) :
    Pinned t := by
  have count : ∀ i, t.sgq.queue.countP (·.uses i) = s.sgq.queue.countP (·.uses i) + x.sources.countP (fun h => decide (h.index = i)) := by
    intro i
    have unused : e.uses i = false := by simp [Entry.uses, none]
    have used : x.uses i = x.sources.any fun h => decide (h.index = i) := rfl
    rw [ht, hs, List.countP_append, List.countP_append, List.countP_cons, List.countP_cons, unused, used, countP_of_nodup distinct]
    simp only [Bool.false_eq_true, if_false]
    omega
  have old : ∀ y ∈ t.sgq.queue, y = x ∨ y ∈ s.sgq.queue := fun y hy => by
    rw [ht] at hy
    rw [hs]
    simp at hy ⊢
    tauto
  have pinned : ∀ i r, t.record i = some r →
      ∃ q, s.record i = some q ∧ r = { q with pins := q.pins + x.sources.countP (fun h => decide (h.index = i)) } := fun i r hi => by
    rw [record] at hi
    obtain ⟨q, hq, rfl⟩ := Option.map_eq_some_iff.mp hi
    exact ⟨q, hq, rfl⟩
  refine ⟨fits, fun i r hi => ?_, fun i r hi hp => ?_, fun i r hi hs => ?_, fun y hy k hk => ?_, fun y hy => ?_, fun y hy hw => ?_⟩
  · obtain ⟨q, hq, rfl⟩ := pinned i r hi
    rw [count, ← h.count i q hq]
  · obtain ⟨q, hq, rfl⟩ := pinned i r hi
    rw [hm]
    by_cases before : q.pins = 0
    · have named : x.sources.countP (fun h => decide (h.index = i)) ≠ 0 := fun none => hp (by show q.pins + _ = 0; omega)
      obtain ⟨k, hk, hki⟩ := List.countP_pos_iff.mp (Nat.pos_of_ne_zero named)
      obtain ⟨o, ho, slot⟩ := sourced k hk
      rw [of_decide_eq_true hki, hq] at ho
      rw [slot, ← Option.some.inj ho]
    · exact h.mounted i q hq before
  · obtain ⟨q, hq, rfl⟩ := pinned i r hi
    have := h.retiring i q hq hs
    show q.pins + _ ≠ 0
    omega
  · rw [record, Option.isSome_map]
    obtain rfl | hy := old y hy
    · obtain ⟨o, ho, -⟩ := sourced k hk
      rw [ho]
      rfl
    · exact h.held y hy k hk
  · obtain rfl | hy := old y hy
    · exact distinct
    · exact h.distinct y hy
  · rw [hm]
    obtain rfl | hy := old y hy
    · exact h.writes e (by rw [hs]; simp) (write ▸ hw)
    · exact h.writes y hy hw

end

/-! ### The lookup of an entry (R48 to R50) -/

section
variable {s : State} {e : Entry} {w : Working} (he : e ∈ s.sgq.queue) (hr : e.state = .resolving)

theorem copied_fits {key : Key} (hk : e.kind ≠ .read) (hlen : w.sources.length = if w.kind = .derived then 2 else 1) :
    Safety.copyFits (e.copied key w) = true := by
  have sources : ∀ wc : WorkingCopy, wc.kind = w.kind → wc.sources = w.sources → Safety.sourcesFit wc = true := fun wc hkind hs => by
    unfold Safety.sourcesFit
    rw [hkind, hs]
    cases hkind : w.kind <;> simp_all
  unfold Safety.copyFits
  simp only [Entry.copied]
  cases hkind : e.kind with
  | read => exact absurd hkind hk
  | write | trial => exact sources _ rfl rfl

include he hr

/-- A lookup that resolves gives its entry the copy and each source a pin. -/
theorem lookedUp_keeps {set : Settings} {mode : Mode} (hw : working s.stb (s.entryKey e) (resolve s.stb set mode (s.entryKey e)) = some w) :
    Keeps s (lookedUp e w s) := .of_fits fun hf => by
  obtain ⟨len, distinct, sourced⟩ := working_sources hw
  have record := lookedUp_record e w s
  set t := lookedUp e w s with ht
  have looked : t = _ := ht.trans (lookedUp_eq e w s)
  have stb : t.stb = (w.sources.foldl (fun s h => pin h.index s) s).stb := by rw [looked]
  have mst : t.mst = s.mst := by rw [looked]
  have guards : t.guards = s.guards := by rw [looked]; rfl
  obtain ⟨front, back, hq, -, change, -⟩ := queue_cut hf.positions he
  have queue : t.sgq.queue = front ++ e.copied (s.entryKey e) w :: back := by
    rw [looked]
    exact change fun x => x.copied (s.entryKey e) w
  have copy := copy_of_unpinned (hf.copies e he) (.inr hr)
  have kind : e.kind ≠ .read := fun hk => by
    obtain ⟨p, hp⟩ := (kind_of_copyFits (hf.copies e he)).1.mp hk
    rw [copy] at hp; cases hp
  have fits : QueueFits t := hf.replace hq queue rfl rfl (copied_fits kind len)
  refine ⟨⟨fun _ => fits, fun h => ?_⟩, fun _ h => h.replace hq queue guards (by rw [hr]; simp) (by simp [Entry.copied])⟩
  refine h.pin hq queue fits (by rw [Entry.sources, copy]) rfl distinct record (fun k hk => ?_) (mountedIndex_of_mst mst)
  obtain ⟨i, hi⟩ := Option.isSome_iff_exists.mp (h.writes e he (by simp [Entry.isWrite, kind]))
  obtain ⟨o, ho, media, -⟩ := sourced k hk
  refine ⟨o, ho, ?_⟩
  rw [media, State.entryKey, copy, hi]
  rfl

end

end Sys2Proof.Machine

end


section
/-! SUPPORT. The completions of lookups, the intake and the link by what they keep of queue, pins and write guard (O9, O11, O12). -/

namespace Sys2Proof.Machine

open Sys2Proof.Stated

/-! ### Completions -/

section
variable {s : State} {e : Entry} (he : e ∈ s.sgq.queue) (hr : e.state = .resolving)
include he hr

/-- A lookup that finds no record ends its entry, which holds no pin. -/
theorem unresolved_keeps : Keeps s (unresolved e s) := .of_fits fun hf => by
  have copy := copy_of_unpinned (hf.copies e he) (.inr hr)
  set u : State := if e.kind = .trial then countEvent .lookupMiss (some (s.entryKey e)) 1 s
    else (countEvent .lookupMiss (some (s.entryKey e)) 1 s).withNotices ({ · with needsRecord := some (s.entryKey e) }) with hu
  have same : u.sgq = s.sgq ∧ u.stb = s.stb ∧ u.mst = s.mst ∧ u.guards = s.guards := by
    rw [hu]
    split <;> exact ⟨rfl, rfl, rfl, rfl⟩
  obtain ⟨sgq, stb, mst, guards⟩ := same
  refine (Keeps.of_frame (by rw [sgq]) stb mst guards).trans (finishEntry_keeps (s := u) (by rw [sgq]; exact he) _ fun wc => ?_)
  rw [copy]
  nofun

theorem completeSegment_kept : Kept s (completeSegment e s) := by
  cases hw : working s.stb (s.entryKey e)
      (resolve s.stb s.cpt.settings (if e.kind = .trial then .trial else .normal) (s.entryKey e)) with
  | some w =>
    rw [completeSegment_found hw]
    exact went_kept (lookedUp_keeps he hr hw)
  | none =>
    rw [completeSegment_none hw]
    exact went_kept (unresolved_keeps he hr)

end

section
variable (s : State)

theorem lookupDone_kept : Kept s (lookupDone s) := .of_frame rfl rfl rfl rfl

theorem segmentLookupCompletion_kept : ∃ t, exec .segmentLookupCompletion s = .next t ∧ Kept s t := by
  change ∃ t, execSegmentLookupCompletion s = .next t ∧ _
  unfold execSegmentLookupCompletion
  dsimp only
  split
  · split
    · next e found =>
      have named := List.find?_some found
      simp only [decide_eq_true_eq] at named
      have completed := completeSegment_kept (s := lookupDone s) (List.mem_of_find?_eq_some found) named.2.2
      exact ⟨_, rfl, settled_kept (((lookupDone_kept s).trans completed).trans (arbiter_kept _)) s⟩
    · exact ⟨_, rfl, settled_kept ((lookupDone_kept s).trans (arbiter_kept _)) s⟩
  · exact ⟨_, rfl, (lookupDone_kept s).trans (arbiter_kept _)⟩
  · exact ⟨s, rfl, .refl s⟩

theorem hostDone_kept (code : Byte) (p : List Byte) : Kept s (hostDone code p s) := by
  unfold hostDone
  refine Kept.trans ?_ (arbiter_kept _)
  exact .of_frame rfl rfl rfl rfl

theorem recFindCompletion_kept : ∃ t, exec .recFindCompletion s = .next t ∧ Kept s t := by
  change ∃ t, execRecFindCompletion s = .next t ∧ _
  unfold execRecFindCompletion
  split
  · exact ⟨_, rfl, hostDone_kept s _ _⟩
  · exact ⟨s, rfl, .refl s⟩

theorem recScanCompletion_kept : ∃ t, exec .recScanCompletion s = .next t ∧ Kept s t := by
  change ∃ t, execRecScanCompletion s = .next t ∧ _
  unfold execRecScanCompletion
  split
  · exact ⟨_, rfl, hostDone_kept s _ _⟩
  · exact ⟨s, rfl, .refl s⟩

theorem leaveServices_kept : ∀ (l : List Nat) (s : State), Kept s (l.foldl (fun s i => leaveService i s) s)
  | [], s => .refl s
  | i :: l, s => (leaveService_kept i s).trans (leaveServices_kept l _)

theorem matchesRetired_kept (l : List Nat) : Kept s (matchesRetired l s) :=
  (reResolve_kept fun _ hc => kind_of_any_uses hc).trans (leaveServices_kept l _)

theorem recRetireMatchCompletion_kept : ∃ t, exec .recRetireMatchCompletion s = .next t ∧ Kept s t := by
  change ∃ t, execRecRetireMatchCompletion s = .next t ∧ _
  unfold execRecRetireMatchCompletion
  split
  · refine ⟨_, rfl, ?_⟩
    rw [completeRetireMatch_eq]
    exact (matchesRetired_kept s _).trans (hostDone_kept _ _ _)
  · exact ⟨s, rfl, .refl s⟩

end

/-! ### The intake (R83, R84) -/

section
variable {s : State}

/-- An entry that waits and holds no source joins the queue's end. -/
theorem appended_keeps {t : State} {x : Entry} (queue : t.sgq.queue = s.sgq.queue ++ [x]) (hstb : t.stb = s.stb) (hmst : t.mst = s.mst)
    (hg : t.guards = s.guards) (credits : Safety.QueueWithinCredits s → Safety.QueueWithinCredits t) (waits : Safety.waits x = true)
    (copy : Safety.copyFits x = true) (sources : x.sources = []) (mounted : x.isWrite = true → s.mountedIndex.isSome = true) : Keeps s t := by
  have fits : QueueFits s → QueueFits t := fun h => by
    refine ⟨credits h.credits, fun y hy => ?_, fun y hy => ?_⟩
    · have tail := h.tail
      rw [queue] at hy
      cases hq : s.sgq.queue with
      | nil =>
        rw [hq] at hy
        cases hy
      | cons z rest =>
        rw [hq] at hy tail
        obtain hy | rfl : y ∈ rest ∨ y = x := by simpa using hy
        · exact tail y hy
        · exact waits
    · rw [queue] at hy
      obtain hy | rfl : y ∈ s.sgq.queue ∨ y = x := by simpa using hy
      · exact h.copies y hy
      · exact copy
  have unused : ∀ i, x.uses i = false := fun i => by simp [Entry.uses, sources]
  have old : ∀ y ∈ t.sgq.queue, y = x ∨ y ∈ s.sgq.queue := fun y hy => by
    rw [queue] at hy
    simp at hy
    tauto
  have record : ∀ i, t.record i = s.record i := fun i => by rw [State.record, hstb]; rfl
  have slot : t.mountedIndex = s.mountedIndex := mountedIndex_of_mst hmst
  refine ⟨⟨fits, fun h => ⟨fits h.fits, fun i r hr => ?_, fun i r hr => ?_, fun i r hr => ?_, fun y hy k hk => ?_, fun y hy => ?_,
    fun y hy hw => ?_⟩⟩, fun _ h => ?_⟩
  · rw [queue, List.countP_append, List.countP_singleton, unused]
    exact h.count i r (record i ▸ hr)
  · rw [slot]
    exact h.mounted i r (record i ▸ hr)
  · exact h.retiring i r (record i ▸ hr)
  · obtain rfl | hy := old y hy
    · rw [sources] at hk; cases hk
    · rw [record]
      exact h.held y hy k hk
  · obtain rfl | hy := old y hy
    · rw [sources]; exact List.nodup_nil
    · exact h.distinct y hy
  · rw [slot]
    obtain rfl | hy := old y hy
    · exact mounted hw
    · exact h.writes y hy hw
  · cases hq : s.sgq.queue with
    | nil =>
      rw [hq] at queue
      refine h.of_quiet (congrArg Prod.fst hg) ?_ ?_
      · rw [hq]
        intro e he
        cases he
      · rw [queue]
        exact quiet_cons (not_waits waits)
    | cons z rest =>
      rw [hq] at queue
      refine h.of_head hg (by rw [activeWrite_isSome (rest := rest ++ [x]) queue, activeWrite_isSome hq]) fun y hy _ => ⟨y, ?_, rfl, rfl⟩
      rw [queue] at hy
      rw [hq]
      exact hy

/-- A descriptor that passes the intake checks joins the queue's end. -/
theorem joined_keeps {d : Descriptor} {kind : SegKind} {cls : CreditClass} (ha : Accepted s d kind cls) (htag : d.tag < 16) :
    Keeps s { s with sgq := { s.sgq with queue := s.sgq.queue ++ [newEntry s d kind cls] } } := by
  refine appended_keeps rfl rfl rfl rfl (intake_keeps_credits ha htag) ?_ ?_ ?_ fun hw => ?_
  · cases kind <;> rfl
  · cases kind <;> rfl
  · cases kind <;> rfl
  · exact Option.isSome_iff_ne_none.mpr (ha.mounted (of_decide_eq_true hw))

theorem send_kept (m : List Byte) : Kept s (send m s) := ⟨send_keeps s m, fun _ h => h.of_head (by rw [send_sgq])⟩

theorem takeSeg_kept {d : Descriptor} (htag : d.tag < 16) : Kept s (takeSeg d s) := by
  unfold takeSeg
  split
  · exact send_kept _
  · next kind cls check =>
    exact settled_kept ((went_kept (joined_keeps (accepted_of_intakeCheck check) htag)).trans (arbiter_kept _)) s

theorem takeCancel_kept (tag : Nat) : Kept s (takeCancel tag s) := by
  unfold takeCancel
  split
  · next e found =>
    split
    · exact .of_frame rfl rfl rfl rfl
    · next idle =>
      exact wentOn_kept (endEntry_keeps (List.mem_of_find?_eq_some found) _ fun h => absurd (.inl h) idle) s
  · exact .of_frame rfl rfl rfl rfl

theorem takeEnd_kept (tag : Nat) : Kept s (takeEnd tag s) := by
  unfold takeEnd
  split
  · next e rest hq =>
    split
    · next named =>
      have mem : e ∈ s.sgq.queue := by rw [hq]; exact List.mem_cons_self
      refine wentOn_kept (.of_fits fun hf => finishEntry_keeps mem _ fun wc hc => ?_) s
      obtain ⟨p, hp⟩ := (kind_of_copyFits (hf.copies e mem)).1.mp named.2.1
      rw [hc] at hp
      cases hp
    · exact .of_frame rfl rfl rfl rfl
  · exact .of_frame rfl rfl rfl rfl

theorem deliver_kept (m : LinkMessage) : Kept s (deliver m s) := by
  unfold deliver
  (repeat' split)
  · exact takeSeg_kept (by have := m.b1.isLt; simp only [readDescriptor]; omega)
  · exact takeCancel_kept _
  · exact takeEnd_kept _

end

theorem receiveByte_kept (s : State) (b : Byte) : Kept s (receiveByte s b) := by
  have taken : ∀ rx, Kept s (s.withRx rx) := fun rx => .of_frame rfl rfl rfl rfl
  unfold receiveByte
  (repeat' split)
  · exact .of_frame rfl rfl rfl rfl
  · exact .refl s
  · exact .refl s
  · exact taken _
  · unfold completeMessage
    split
    · exact (taken _).trans (deliver_kept _)
    · exact .of_frame rfl rfl rfl rfl
  · exact taken _

theorem receive_kept : ∀ (m : List Byte) (s : State), Kept s (receive m s)
  | [], s => .refl s
  | b :: m, s => (receiveByte_kept s b).trans (receive_kept m _)

end Sys2Proof.Machine

end


section
/-! SUPPORT. Flushes, write-backs, ticks and samples by what they keep of queue, pins and write guard (O9, O11, O12). -/

namespace Sys2Proof.Machine

open Sys2Proof.Stated

/-! ### The flush (R99, R100) -/

theorem Tidy.refl (s : State) : Tidy s s := ⟨id, id⟩

theorem Tidy.of_frame {s t : State} (hq : t.sgq.queue = s.sgq.queue) (hstb : t.stb = s.stb) (hmst : t.mst = s.mst) : Tidy s t :=
  ⟨fun h => h.of_queue hq, fun h => h.of_stakes (h.fits.of_queue hq) (by rw [hq]) hstb (mountedIndex_of_mst hmst)⟩

theorem Tidy.of_fits {s t : State} (h : QueueFits s → Tidy s t) : Tidy s t := ⟨fun hf => (h hf).fits hf, fun hp => (h hp.fits).pinned hp⟩

section
variable {s : State} {e : Entry}

/-- The ACTIVE write ends with its partial write-back. -/
theorem endActiveWrite_tidy (he : e ∈ s.sgq.queue) {wc : WorkingCopy} (hc : e.copy = .strategy wc) (o : DoneOutcome) {u : State}
    (hq : u.sgq.queue = s.sgq.queue) (hstb : u.stb = s.stb) (hmst : u.mst = s.mst) : Tidy s (endActiveWrite o wc e u) := by
  have sources : e.sources = wc.sources := by rw [Entry.sources, hc]
  refine finish_tidy he o rfl (by rw [partialWriteBack_sgq, hq]) ?_ fun hn => ?_
  · rw [mountedIndex_of_slotStates (slotStates_partialWriteBack wc u), mountedIndex_of_mst hmst]
  · rw [sources] at hn ⊢
    obtain ⟨gens, named, unnamed, empty⟩ := partialWriteBack_unpinned hn u
    have record : ∀ i, u.record i = s.record i := fun i => by rw [State.record, hstb]; rfl
    exact ⟨gens.trans (by rw [State.gens, hstb]; rfl), fun h hh r hr => named h hh r ((record _).trans hr),
      fun i hi => (unnamed i hi).trans (record i), fun i hi => empty i ((record i).trans hi)⟩

theorem flushEntry_tidy (he : e ∈ s.sgq.queue) (o : DoneOutcome) : Tidy s (flushEntry o s e) := by
  obtain ⟨-, h⟩ | ⟨wc, -, copy, h⟩ | ⟨-, copy, h⟩ | ⟨-, idle, h⟩ := flushEntry_cases o s e <;> rw [h]
  · exact .refl s
  · exact endActiveWrite_tidy he copy o rfl rfl rfl
  · exact (finishEntry_keeps he _ copy).toTidy
  · exact (endEntry_keeps he _ fun h => absurd h idle).toTidy

/-- A flush of one entry leaves the others in the queue. -/
theorem mem_flushEntry {x : Entry} (hx : x ∈ s.sgq.queue) (o : DoneOutcome) (apart : x.pos ≠ e.pos) : x ∈ (flushEntry o s e).sgq.queue := by
  have left : ∀ (o : DoneOutcome) (u : State), u.sgq = s.sgq → x ∈ (finishEntry o e u).sgq.queue := fun o u hu => by
    rw [finishEntry_queue, hu]
    exact List.mem_filter.mpr ⟨hx, by simpa using apart⟩
  obtain ⟨-, h⟩ | ⟨wc, -, -, h⟩ | ⟨-, -, h⟩ | ⟨-, -, h⟩ := flushEntry_cases o s e <;> rw [h]
  · exact hx
  · exact left _ _ (partialWriteBack_sgq wc s)
  · exact left _ _ rfl
  · exact left _ _ (release_sgq e s)

theorem flushes_tidy (o : DoneOutcome) : ∀ (l : List Entry) (s : State), (l.map (·.pos)).Nodup → (∀ e ∈ l, e ∈ s.sgq.queue) →
    Tidy s (l.foldl (flushEntry o) s)
  | [], s, _, _ => .refl s
  | e :: l, s, hn, hm => by
    rw [List.map_cons, List.nodup_cons] at hn
    refine (flushEntry_tidy (hm e List.mem_cons_self) o).trans (flushes_tidy o l _ hn.2 fun x hx => ?_)
    exact mem_flushEntry (hm x (List.mem_cons_of_mem e hx)) o fun heq => hn.1 (heq ▸ List.mem_map_of_mem hx)

theorem flush_tidy (o : DoneOutcome) (s : State) : Tidy s (flush o s) :=
  .of_fits fun hf => flushes_tidy o s.sgq.queue s hf.positions fun _ => id

/-- What a flush leaves is CLOSING. -/
theorem flush_closing (hf : QueueFits s) (o : DoneOutcome) : ∀ e ∈ (flush o s).sgq.queue, e.state = .closing := fun e he => by
  rw [(flush_queue hf o).1] at he
  exact of_decide_eq_true (List.mem_filter.mp he).2

/-- A queue flushed with the laser out of WRITE. -/
theorem flushed_kept {u : State} (h : Tidy s u) (o : DoneOutcome) (dark : Guarded s → u.lsc.laser ≠ .write) : Kept s (flush o u) := by
  refine ⟨⟨h.trans (flush_tidy o u), fun hf hg => guarded_of_quiet (by rw [flush_lsc]; exact dark hg) fun e he => ?_⟩, fun hf _ => ?_⟩
  · have := flush_closing (h.fits hf) o e (List.mem_of_mem_head? he)
    rw [this]
    simp
  · unfold Settled
    rw [Option.all_eq_true]
    intro e he
    have := flush_closing (h.fits hf) o e (List.mem_of_mem_head? he)
    rw [this]
    rfl

/-! ### Holds (R172 to R174) -/

theorem outOfWrite_tidy (l : LaserState) (s : State) : Tidy s (outOfWrite l s) := .of_frame (by simp) (by simp) (by simp)

theorem outOfWrite_laser {l : LaserState} (hl : l ≠ .write) (s : State) : (outOfWrite l s).lsc.laser ≠ .write := by
  rw [outOfWrite_lsc]
  split
  · exact hl
  · next h => exact h

theorem raiseCause_kept (c : HoldCause) (s : State) : Kept s (raiseCause c s) := by
  by_cases hold : s.lsc.laser = .hold
  · cases hc : s.lsc.causes.has c with
    | true =>
      rw [raiseCause_again c s hold hc]
      exact .refl s
    | false =>
      rw [raiseCause_joins c s hold hc]
      exact .of_frame rfl rfl rfl rfl
  · rw [raiseCause_enters c s hold, enterHold_eq]
    have held : Tidy s (holding c s) := (outOfWrite_tidy .hold s).trans (.of_frame rfl rfl rfl)
    have entered : Kept s (flush .guard (holding c s)) := flushed_kept held _ fun _ h => by cases h
    exact entered.trans (.of_frame rfl rfl rfl rfl)

theorem held_kept {u : State} (c : HoldCause) (h : Kept s u) (before : State) : Kept s (held c before u) :=
  settled_kept (h.trans (raiseCause_kept c u)) before

end

/-! ### The write-back of a CLOSING entry (R95) -/

section
variable {s : State} {e : Entry}

theorem writtenOff_mst (wc : WorkingCopy) (limit stale : Bool) (s : State) : (writtenOff wc limit stale s).mst = (fullWriteBack wc limit s).mst := by
  unfold writtenOff
  dsimp only
  split <;> split <;> rfl

theorem closeEntry_keeps (he : e ∈ s.sgq.queue) (hs : e.state = .closing) {wc : WorkingCopy} (hc : e.copy = .strategy wc) :
    Keeps s (closeEntry e wc s) := by
  have sources : e.sources = wc.sources := by rw [Entry.sources, hc]
  rw [closeEntry_eq]
  dsimp only
  generalize (wc.kind.stores && wc.sources.any fun h => !s.generationMatches h) = stale
  obtain ⟨sgq, -, lsc, wgd, pkp, -, -⟩ := writtenOff_frame wc e.warnings.corrLimit stale s
  have lines : (writtenOff wc e.warnings.corrLimit stale s).lines = s.lines := by
    unfold writtenOff
    dsimp only
    split <;> split <;> simp
  refine finish_keeps he .ok ?_ (fun h => ?_) (by rw [sgq]) (by rw [State.guards, lsc, pkp, lines]; rfl) ?_ fun hn => ?_
  · rfl
  · rw [hs] at h; cases h
  · rw [mountedIndex_of_mst (writtenOff_mst ..), mountedIndex_of_slotStates (slotStates_fullWriteBack ..)]
  · rw [sources] at hn ⊢
    obtain ⟨gens, named, unnamed, empty⟩ := fullWriteBack_unpinned hn e.warnings.corrLimit s
    have stb := writtenOff_stb wc e.warnings.corrLimit stale s
    have record : ∀ i, (writtenOff wc e.warnings.corrLimit stale s).record i = (fullWriteBack wc e.warnings.corrLimit s).record i :=
      fun i => by rw [State.record, stb]; rfl
    exact ⟨by rw [← gens, State.gens, stb]; rfl, fun h hh r hr => by rw [record]; exact named h hh r hr,
      fun i hi => (record i).trans (unnamed i hi), fun i hi => (record i).trans (empty i hi)⟩

theorem writeBack_kept (s : State) : ∃ t, exec .writeBack s = .next t ∧ Kept s t := by
  change ∃ t, execWriteBack s = .next t ∧ _
  unfold execWriteBack
  split
  · next e rest hq =>
    have mem : e ∈ s.sgq.queue := by rw [hq]; exact List.mem_cons_self
    split
    · next closing =>
      split
      · next wc hc => exact ⟨_, rfl, wentOn_kept (closeEntry_keeps mem closing hc) s⟩
      · next none => exact ⟨_, rfl, wentOn_kept (finishEntry_keeps mem _ none) s⟩
    · exact ⟨s, rfl, .refl s⟩
  · exact ⟨s, rfl, .refl s⟩

/-! ### The gate (R92, R94) -/

theorem settled_cons {x : Entry} {rest : List Entry} (hq : s.sgq.queue = x :: rest) (hs : x.state ≠ .ready) : Settled s := by
  simp [Settled, hq, hs]

/-- An ARMED write head runs, in READ under the gate. -/
theorem enterWrite_kept {rest : List Entry} (hq : s.sgq.queue = e :: rest) (ha : e.state = .armed)
    (hw : e.isWrite = true) : Kept s (enterWrite (s.observeGate true)) := by
  have queue : (enterWrite (s.observeGate true)).sgq.queue = { e with state := .active } :: rest := by
    unfold enterWrite
    rw [withHead_eq (s := s.observeGate true) hq]
    rfl
  have kind : e.kind ≠ .read := of_decide_eq_true hw
  refine ⟨.newhead hq queue rfl rfl (fun fits => ?_) rfl rfl fun hf h => ?_, fun _ _ => settled_cons queue nofun⟩
  · unfold Safety.copyFits at fits ⊢
    cases hk : e.kind <;> cases hc : e.copy <;> simp_all [Safety.pins]
  · obtain ⟨wc, hc⟩ := (kind_of_copyFits (hf.copies e (by rw [hq]; exact List.mem_cons_self))).2 kind (by rw [ha]; nofun) (by rw [ha]; nofun)
    refine ⟨⟨fun _ => (activeWrite_isSome queue).mpr ⟨rfl, wc, hc⟩, fun _ => rfl⟩, fun _ => rfl, fun _ _ _ => .inr rfl, fun x hx _ => ?_⟩
    rw [queue] at hx
    obtain rfl := Option.some.inj hx
    exact h.focus e (by rw [hq]; rfl) (.inl ha)

theorem wgateRise_kept (s : State) : ∃ t, exec .wgateRise s = .next t ∧ Kept s t := by
  change ∃ t, execWgateRise s = .next t ∧ _
  have observed : Kept s (s.observeGate true) := ⟨⟨.of_frame rfl rfl rfl, fun _ h => ⟨h.writes, fun _ => rfl, h.lit, h.focus⟩⟩, fun _ => id⟩
  unfold execWgateRise
  cases hl : s.lsc.laser with
  | hold | write => exact ⟨_, rfl, observed⟩
  | off | settling => exact ⟨_, rfl, held_kept .gateEarly observed s⟩
  | read =>
    dsimp only
    cases ha : s.sgq.headArmedWrite with
    | false => exact ⟨_, rfl, held_kept .gateEarly observed s⟩
    | true =>
      refine ⟨_, rfl, settled_kept ?_ s⟩
      unfold Sgq.headArmedWrite at ha
      cases hq : s.sgq.queue with
      | nil =>
        rw [hq] at ha
        cases ha
      | cons e rest =>
        rw [hq] at ha
        obtain ⟨armed, write⟩ := Bool.and_eq_true_iff.mp ha
        exact enterWrite_kept hq (of_decide_eq_true armed) write

/-- An ACTIVE write head closes with the laser out of WRITE. -/
theorem closing_kept {s : State} {e : Entry} {wc : WorkingCopy} (hw : s.sgq.activeWrite = some (e, wc)) :
    Kept s (leaveWrite .read ((s.observeGate false).withHead ({ · with state := .closing }))) := by
  obtain ⟨head, active, copy⟩ := activeWrite_eq_some.mp hw
  obtain ⟨rest, hq⟩ := List.head?_eq_some_iff.mp head
  have queue : (leaveWrite .read ((s.observeGate false).withHead ({ · with state := .closing }))).sgq.queue
      = { e with state := .closing } :: rest := by
    rw [withHead_eq (s := s.observeGate false) hq]
    rfl
  refine ⟨.newhead hq queue rfl rfl (fun fits => ?_) rfl rfl fun _ _ => guarded_of_quiet (fun h => ?_) ?_, fun _ _ => settled_cons queue nofun⟩
  · unfold Safety.copyFits at fits ⊢
    cases hk : e.kind <;> simp_all [Safety.pins]
  · cases h
  · rw [queue]
    exact quiet_cons (by simp)

theorem wgateFall_kept (s : State) : ∃ t, exec .wgateFall s = .next t ∧ Kept s t := by
  change ∃ t, execWgateFall s = .next t ∧ _
  unfold execWgateFall
  dsimp only
  split
  · next e hl hw => exact ⟨_, rfl, settled_kept (closing_kept hw) s⟩
  · next no =>
    refine ⟨_, rfl, ⟨⟨.of_frame rfl rfl rfl, fun _ h => ⟨h.writes, fun hw => ?_, h.lit, h.focus⟩⟩, fun _ => id⟩⟩
    obtain ⟨e, he⟩ := Option.isSome_iff_exists.mp (h.writes.mp hw)
    exact absurd he (no e hw)

end

end Sys2Proof.Machine

end


section
/-! SUPPORT. WDATA, samples, ticks, focus and the laser's requests by what they keep of queue, pins and write guard (O9, O11, O12). -/

namespace Sys2Proof.Machine

open Sys2Proof.Stated

theorem withHead_settled {s : State} {f : Entry → Entry} (hf : ∀ e, (f e).state = e.state) (h : Settled s) : Settled (s.withHead f) := by
  refine h.of_head ?_
  cases hq : s.sgq.queue with
  | nil => simp [State.withHead, hq]
  | cons e rest => simp [State.withHead, hq, hf]

theorem withHead_kept {s : State} {f : Entry → Entry} (hf : ∀ e ∈ s.sgq.queue.head?, Alike e (f e)) (hs : ∀ e, (f e).state = e.state) :
    Kept s (s.withHead f) := ⟨withHead_keeps hf, fun _ => withHead_settled hs⟩

theorem countEvent_kept (ev : CounterEvent) (k : Option Key) (n : Nat) (s : State) : Kept s (countEvent ev k n s) := .of_frame rfl rfl rfl rfl

/-! ### WDATA (R126 to R134) -/

section
variable (wc : WorkingCopy) (s : State)

theorem pgn_kept (g : Pgn) : Kept s { s with pgn := g } := .of_frame rfl rfl rfl rfl

theorem warnShape_kept : Kept s (warnShape s) := withHead_kept (fun e _ => alike_warnings e _) fun _ => rfl

theorem countTimes_kept (ev : CounterEvent) (key : Option Key) : ∀ (n : Nat) (s : State), Kept s (countTimes ev key n s)
  | 0, s => .refl s
  | n + 1, s => (countEvent_kept ev key 1 s).trans (countTimes_kept ev key n _)

theorem reportCollisions_kept (shape : Bool) (n : Nat) : Kept s (reportCollisions wc shape n s) := by
  refine Kept.trans ?_ (countTimes_kept ..)
  split
  · exact warnShape_kept s
  · exact .refl s

theorem addPulse_kept (rise : Int) (width : Nat) : Kept s (addPulse wc rise width s) :=
  (pgn_kept s _).trans (reportCollisions_kept wc _ _ _)

theorem buildTrain_kept (start : Int) (n : Nat) : Kept s (buildTrain wc start n s) :=
  (pgn_kept s _).trans (reportCollisions_kept wc _ _ _)

theorem openLong_kept (start : Int) : Kept s (openLong wc start s) :=
  ((pgn_kept s _).trans (reportCollisions_kept wc _ _ _)).trans (countEvent_kept ..)

theorem closeLong_kept (start : Int) (n : Nat) : Kept s (closeLong wc start n s) := (addPulse_kept wc s _ _).trans (pgn_kept _ _)

theorem growMark_kept (i m : Nat) : Kept s (growMark wc i m s) := by
  unfold growMark
  (repeat' split)
  · exact .refl s
  · exact openLong_kept wc s _
  · exact addPulse_kept wc s _ _

theorem endMark_kept (i n : Nat) : Kept s (endMark wc i n s) := by
  unfold endMark
  dsimp only
  refine (pgn_kept s { s.pgn with lastEnd := some i }).trans ?_
  (repeat' split)
  · exact (warnShape_kept _).trans (countEvent_kept ..)
  · exact buildTrain_kept wc _ _ n
  · exact closeLong_kept wc _ _ n

theorem readT_kept (w : Bool) : Kept s (readT wc w s) := by
  unfold readT
  dsimp only
  (repeat' split)
  · refine Kept.trans ?_ (growMark_kept ..)
    exact pgn_kept s _
  · exact pgn_kept s _
  · exact pgn_kept s _
  · refine Kept.trans ?_ (endMark_kept ..)
    exact pgn_kept s _
  · exact pgn_kept s _
  · exact pgn_kept s _

theorem boundary_kept (w : Bool) : Kept s (boundary w s) := by
  obtain ⟨h, -⟩ | ⟨-, e, wc, -, ⟨-, h⟩ | ⟨-, h⟩⟩ := boundary_cases w s <;> rw [h]
  · exact pgn_kept s _
  · exact .refl s
  · exact readT_kept wc s w

theorem boundaries_kept (w : Bool) : ∀ (n : Nat) (s : State), Kept s (boundaries w n s)
  | 0, s => .refl s
  | n + 1, _ => (boundary_kept _ w).trans (boundaries_kept w n _)

end

/-! ### Ticks and samples -/

section
variable {s : State} {e : Entry} {wc : WorkingCopy}

/-- A working copy with other values under the same sources. -/
theorem alike_strategy (hc : e.copy = .strategy wc) {new : WorkingCopy} (hk : new.kind = wc.kind) (hs : new.sources = wc.sources) (w : Warnings) :
    Alike e { e with copy := .strategy new, warnings := w } := by
  refine ⟨rfl, rfl, rfl, ?_, fun fits => ?_, by simp [hc]⟩
  · rw [Entry.sources, Entry.sources, hc]
    exact hs
  · have sources : Safety.sourcesFit new = Safety.sourcesFit wc := by
      unfold Safety.sourcesFit
      rw [hk, hs]
    unfold Safety.copyFits at fits ⊢
    cases hkind : e.kind <;> simp_all [Safety.pins]

/-- The ACTIVE write's copy with other values. -/
theorem revalued_kept (hw : s.sgq.activeWrite = some (e, wc)) {new : WorkingCopy} (hk : new.kind = wc.kind) (hs : new.sources = wc.sources)
    (w : Entry → Warnings) : Kept s (s.withHead fun x => { x with copy := .strategy new, warnings := w x }) := by
  obtain ⟨head, -, copy⟩ := activeWrite_eq_some.mp hw
  refine withHead_kept (fun x hx => ?_) fun _ => rfl
  rw [head] at hx
  obtain rfl := Option.some.inj hx
  exact alike_strategy copy hk hs _

theorem tickQueue_kept (s : State) : Kept s (tickQueue s) := by
  unfold tickQueue
  dsimp only
  refine Kept.trans ?_ (countEvent_kept ..)
  cases hw : s.sgq.activeWrite with
  | none => exact .refl s
  | some p =>
    obtain ⟨e, wc⟩ := p
    exact (revalued_kept hw (new := { wc with tally := min Config.maxOnTime (wc.tally + 1) }) rfl rfl (·.warnings)).trans (countEvent_kept ..)

theorem tickTimers_kept (s : State) : Kept s (tickTimers s) := .of_frame rfl rfl rfl rfl

theorem correctionUpdate_kept (hw : s.sgq.activeWrite = some (e, wc)) (sum : Nat) : Kept s (correctionUpdate wc sum s) := by
  unfold correctionUpdate
  dsimp only
  generalize hold (-Config.maxCorr) Config.maxCorr (wc.running + correctionStep sum wc.strat.dt s.cpt.settings.gain) = new
  generalize decide (wc.running + correctionStep sum wc.strat.dt s.cpt.settings.gain ≤ -Config.maxCorr
    ∨ Config.maxCorr ≤ wc.running + correctionStep sum wc.strat.dt s.cpt.settings.gain) = limit
  have corrected := revalued_kept hw (new := { wc with running := new }) rfl rfl
    fun x => { x.warnings with corrLimit := x.warnings.corrLimit || limit }
  have counted : ∀ u : State, Kept u (if limit = true then countEvent .corrLimit (some wc.key) 1 u else u) := fun u => by
    split
    · exact countEvent_kept ..
    · exact .refl u
  split
  · exact recomputed_kept (corrected.trans (counted _)) false
  · exact corrected.trans (counted _)

theorem completeTracking_kept (key : Option Key) (a : TrackAcc) (s : State) : Kept s (completeTracking key a s) := by
  have powered : ∀ (u : State) (l : Plp), Kept u { u with plp := l } := fun u l => .of_frame rfl rfl rfl rfl
  have noted : ∀ (p : Prop) [Decidable p] (u : State), Kept u (if p then u.withNotices ({ · with diodeTrackLimit := true }) else u) := by
    intro p _ u
    split
    · exact .of_frame rfl rfl rfl rfl
    · exact .refl u
  unfold completeTracking
  dsimp only
  split
  · exact (powered s _).trans (countEvent_kept ..)
  · split
    · exact recomputed_kept ((powered s _).trans (noted _ _)) false
    · exact (powered s _).trans (noted _ _)

theorem takeOffered_kept (o : OfferedSample) (m : Nat) (s : State) : Kept s (takeOffered o m s) := by
  have taken : Kept s { s with lsc := { s.lsc with offered := none } } := .of_frame rfl rfl rfl rfl
  unfold takeOffered
  dsimp only
  split
  · exact held_kept .overpower taken s
  · exact taken

theorem spaceSample_kept (s : State) : ∃ t, exec .spaceSample s = .next t ∧ Kept s t := by
  change ∃ t, execSpaceSample s = .next t ∧ _
  unfold execSpaceSample
  (repeat' split)
  · exact ⟨s, rfl, .refl s⟩
  · exact ⟨_, rfl, held_kept .overpower (pgn_kept s _) s⟩
  · exact ⟨_, rfl, .of_frame rfl rfl rfl rfl⟩
  · exact ⟨_, rfl, takeOffered_kept _ _ s⟩
  · exact ⟨s, rfl, .refl s⟩
  · exact ⟨s, rfl, .refl s⟩

theorem peakSample_kept (m : Nat) (s : State) : ∃ t, exec (.peakSample m) s = .next t ∧ Kept s t := by
  change ∃ t, execPeakSample m s = .next t ∧ _
  unfold execPeakSample
  dsimp only
  (repeat' split)
  · exact ⟨s, rfl, .refl s⟩
  · exact ⟨_, rfl, held_kept .overpower (pgn_kept s _) s⟩
  · exact ⟨_, rfl, (pgn_kept s _).trans (completeTracking_kept ..)⟩
  · exact ⟨_, rfl, .of_frame rfl rfl rfl rfl⟩
  · exact ⟨_, rfl, takeOffered_kept _ _ s⟩
  · exact ⟨s, rfl, .refl s⟩
  · exact ⟨s, rfl, .refl s⟩
  · exact ⟨s, rfl, .refl s⟩

theorem returnSample_kept (m : Nat) (s : State) : ∃ t, exec (.returnSample m) s = .next t ∧ Kept s t := by
  change ∃ t, execReturnSample m s = .next t ∧ _
  unfold execReturnSample
  dsimp only
  split
  · next e wc p later _ hw _ =>
    (repeat' split)
    · exact ⟨s, rfl, .refl s⟩
    · refine ⟨_, rfl, Kept.trans ?_ (correctionUpdate_kept
        (s := { s with pgn := { s.pgn with returns := later }, plp := { s.plp with returns := ReturnAcc.empty } }) hw _)⟩
      exact .of_frame rfl rfl rfl rfl
    · exact ⟨_, rfl, .of_frame rfl rfl rfl rfl⟩
  · exact ⟨s, rfl, .refl s⟩

end

end Sys2Proof.Machine

end


section
/-! SUPPORT. Focus, jumps, the laser's requests and resets by what they keep of queue, pins and write guard (O9, O11, O12). -/

namespace Sys2Proof.Machine

open Sys2Proof.Stated

/-! ### Focus and jumps (R119 to R121) -/

section
variable {s : State} {e : Entry} {rest : List Entry}

/-- The focus layer changed under a quiet head. -/
theorem refocused_kept {t : State} (hq : t.sgq.queue = s.sgq.queue) (hstb : t.stb = s.stb) (hmst : t.mst = s.mst)
    (hl : t.lsc.laser = s.lsc.laser) (quiet : Guarded s → Quiet s.sgq.queue) : Kept s t :=
  ⟨⟨.of_frame hq hstb hmst, fun _ h => h.of_quiet hl (quiet h) (by rw [hq]; exact quiet h)⟩, fun _ h => h.of_head (by rw [hq])⟩

/-- The head leaves the queue with the laser out of WRITE. -/
theorem left_keeps {t : State} (hq : s.sgq.queue = e :: rest) (tidy : Tidy s t) (queue : t.sgq.queue = s.sgq.queue.filter (·.pos ≠ e.pos))
    (dark : Guarded s → t.lsc.laser ≠ .write) : Keeps s t := by
  refine ⟨tidy, fun hf h => guarded_of_quiet (dark h) fun y hy => not_waits (hf.tail y ?_)⟩
  rw [queue, hq, List.filter_cons_of_neg (by simp)] at hy
  rw [hq]
  exact (List.mem_filter.mp (List.mem_of_mem_head? hy)).1

theorem unfocused_kept (quiet : Guarded s → Quiet s.sgq.queue) : Kept s (unfocused s) := refocused_kept rfl rfl rfl rfl quiet

/-- A head other than an ACTIVE write stands only out of WRITE. -/
theorem dark_of_head (hq : s.sgq.queue = e :: rest) (idle : e.state = .active → ∀ wc, e.copy ≠ .strategy wc) (h : Guarded s) :
    s.lsc.laser ≠ .write := fun hw => by
  obtain ⟨active, wc, copy⟩ := (activeWrite_isSome hq).mp (h.writes.mp hw)
  exact idle active wc copy

theorem loseFocus_kept (s : State) : Kept s (loseFocus s) := by
  have tidy : Tidy s (unfocused s) := .of_frame rfl rfl rfl
  rcases hq : s.sgq.queue with - | ⟨e, rest⟩
  · rw [loseFocus_idle (by rw [hq]; rfl)]
    refine unfocused_kept fun _ => ?_
    rw [hq]
    intro x hx
    cases hx
  · have mem : e ∈ s.sgq.queue := by rw [hq]; exact List.mem_cons_self
    cases hs : e.state with
    | pending | resolving | ready | closing =>
      rw [loseFocus_idle (by simp [hq, hs])]
      refine unfocused_kept fun _ => ?_
      rw [hq]
      exact quiet_cons (by simp [hs])
    | arming =>
      have again : loseFocus s = judgeAgain (unfocused s) := by
        simp only [loseFocus, State.withNotices, hq, hs]; rfl
      rw [again]
      have kept : Kept s (unfocused s) := unfocused_kept fun _ => by
        rw [hq]
        exact quiet_cons (by simp [hs])
      exact ⟨kept.toKeeps.trans (judgeAgain_keeps _), fun hf h => judgeAgain_settled _ (kept.settled hf h)⟩
    | armed =>
      have ends : loseFocus s = goOn (endEntry .focusLost e (unfocused s)) := by
        simp only [loseFocus, State.withNotices, hq, hs]; rfl
      have idle : e.state = .active → ∀ wc, e.copy ≠ .strategy wc := fun h => by rw [hs] at h; cases h
      rw [ends]
      refine went_kept (left_keeps hq (tidy.trans (endEntry_keeps (s := unfocused s) mem _ idle).toTidy) ?_ fun h => ?_)
      · rw [endEntry, finishEntry_queue, release_sgq]
        rfl
      · rw [endEntry, finishEntry_lsc, release_lsc]
        exact dark_of_head (s := s) hq idle h
    | active =>
      cases hc : e.copy with
      | none | read p =>
        have ends : loseFocus s = goOn (finishEntry .focusLost e (unfocused s)) := by
          simp only [loseFocus, State.withNotices, hq, hs, hc]; rfl
        have none : ∀ wc, e.copy ≠ .strategy wc := fun wc => by rw [hc]; nofun
        rw [ends]
        refine went_kept (left_keeps hq (tidy.trans (finishEntry_keeps (s := unfocused s) mem _ none).toTidy) ?_ fun h => ?_)
        · rw [finishEntry_queue]
          rfl
        · rw [finishEntry_lsc]
          exact dark_of_head (s := s) hq (fun _ => none) h
      | strategy wc =>
        have ends : loseFocus s = goOn (endActiveWrite .focusLost wc e (outOfWrite .read (unfocused s))) := by
          simp only [loseFocus, State.withNotices, hq, hs, hc]; rfl
        rw [ends]
        refine went_kept (left_keeps hq (endActiveWrite_tidy mem hc _ ?_ ?_ ?_) ?_ fun _ => ?_)
        · rw [outOfWrite_sgq]; rfl
        · rw [outOfWrite_stb]; rfl
        · rw [outOfWrite_mst]; rfl
        · rw [endActiveWrite, finishEntry_queue, partialWriteBack_sgq, outOfWrite_sgq]; rfl
        · rw [endActiveWrite, finishEntry_lsc, partialWriteBack_lsc]
          exact outOfWrite_laser (by simp) _

/-- Without a STEADY focus no head is armed or runs. -/
theorem Guarded.unsteady (h : Guarded s) (hf : ∀ l, s.pkp.focus ≠ .steady l) : Quiet s.sgq.queue :=
  fun e he hs => hf e.layer (h.focus e he hs)

theorem fokRise_kept (flay : Nat) : ∃ t, exec (.fokRise flay) s = .next t ∧ Kept s t := by
  change ∃ t, execFokRise flay s = .next t ∧ _
  unfold execFokRise
  dsimp only
  split
  · next hf =>
    refine ⟨_, rfl, judged_kept (refocused_kept ?_ ?_ ?_ ?_ fun h => h.unsteady fun l => by rw [hf]; nofun) s⟩ <;> rfl
  · next t a hf =>
    split
    · refine ⟨_, rfl, judged_kept (refocused_kept ?_ ?_ ?_ ?_ fun h => h.unsteady fun l => by rw [hf]; nofun) s⟩ <;> rfl
    · exact ⟨_, rfl, .of_frame rfl rfl rfl rfl⟩
  · exact ⟨_, rfl, .of_frame rfl rfl rfl rfl⟩

theorem fokFall_kept : ∃ t, exec .fokFall s = .next t ∧ Kept s t := by
  change ∃ t, execFokFall s = .next t ∧ _
  have observed : Kept s { s with lines := { s.lines with fok := false } } := .of_frame rfl rfl rfl rfl
  unfold execFokFall
  dsimp only
  split
  · exact ⟨_, rfl, settled_kept (observed.trans (loseFocus_kept _)) s⟩
  · exact ⟨_, rfl, observed⟩

theorem flayChange_kept (flay : Nat) : ∃ t, exec (.flayChange flay) s = .next t ∧ Kept s t := by
  change ∃ t, execFlayChange flay s = .next t ∧ _
  have observed : Kept s { s with lines := { s.lines with flay := flay } } := .of_frame rfl rfl rfl rfl
  unfold execFlayChange
  dsimp only
  (repeat' split)
  · exact ⟨_, rfl, settled_kept (observed.trans (loseFocus_kept _)) s⟩
  · exact ⟨_, rfl, observed⟩
  · exact ⟨_, rfl, observed⟩

theorem jumpTimerExpiry_kept : ∃ t, exec .jumpTimerExpiry s = .next t ∧ Kept s t := by
  change ∃ t, execJumpTimerExpiry s = .next t ∧ _
  unfold execJumpTimerExpiry
  split
  · next hf _ => exact ⟨_, rfl, refocused_kept rfl rfl rfl rfl fun h => h.unsteady fun l => by rw [hf]; nofun⟩
  · next hf _ =>
    have stopped : Kept s (endJump .unknown s) := refocused_kept rfl rfl rfl rfl fun h => h.unsteady fun l => by rw [hf]; nofun
    dsimp only
    split
    · next e rest hq =>
      split
      · next named =>
        have mem : e ∈ (endJump .unknown s).sgq.queue := by
          show e ∈ s.sgq.queue
          rw [hq]
          exact List.mem_cons_self
        exact ⟨_, rfl, wentOn_kept (stopped.toKeeps.trans (endEntry_keeps mem _ fun h => by rw [named.1] at h; cases h)) s⟩
      · exact ⟨_, rfl, judged_kept stopped s⟩
    · exact ⟨_, rfl, stopped⟩
  · exact ⟨s, rfl, .refl s⟩

theorem measurementCompletion_kept : ∃ t, exec .measurementCompletion s = .next t ∧ Kept s t := by
  change ∃ t, execMeasurementCompletion s = .next t ∧ _
  unfold execMeasurementCompletion
  split
  · next k hk =>
    have focus : k.focus = s.pkp.focus := by
      unfold Pkp.complete at hk
      split at hk
      · cases hk; rfl
      · split at hk
        · cases hk; rfl
        · cases hk
    refine ⟨_, rfl, judged_kept (s := s) (u := { s with pkp := k }) (.of_frame rfl rfl rfl ?_) s⟩
    exact congrArg (fun f => (s.lsc.laser, s.lines.wgate, f)) focus
  · exact ⟨s, rfl, .refl s⟩

theorem sledStep_kept (sla slb shome : Bool) : ∃ t, exec (.sledStep sla slb shome) s = .next t ∧ Kept s t := by
  refine ⟨_, exec_sledStep s sla slb shome, ?_⟩
  cases sledMove (quadrature s.lines.sla s.lines.slb) (quadrature sla slb) with
  | none | glitch => exact .of_frame rfl rfl rfl rfl
  | outward =>
    rw [SledMove.effect, stepOutward_eq]
    split <;> exact .of_frame rfl rfl rfl rfl
  | inward =>
    rw [SledMove.effect, stepInward_eq]
    (repeat' split) <;> exact .of_frame rfl rfl rfl rfl

/-! ### Laser timers -/

/-- Outside READ and WRITE no head is armed or runs. -/
theorem Guarded.unlit (h : Guarded s) (hr : s.lsc.laser ≠ .read) (hw : s.lsc.laser ≠ .write) : Quiet s.sgq.queue :=
  fun e he hs => (h.lit e he hs).elim hr hw

/-- The laser goes to a state other than WRITE under a quiet head. -/
theorem darkened_kept {t : State} (hq : t.sgq.queue = s.sgq.queue) (hstb : t.stb = s.stb) (hmst : t.mst = s.mst) (hl : t.lsc.laser ≠ .write)
    (quiet : Guarded s → Quiet s.sgq.queue) : Kept s t :=
  ⟨⟨.of_frame hq hstb hmst, fun _ h => guarded_of_quiet hl (by rw [hq]; exact quiet h)⟩, fun _ h => h.of_head (by rw [hq])⟩

theorem settleExpiry_kept : ∃ t, exec .settleExpiry s = .next t ∧ Kept s t := by
  change ∃ t, execSettleExpiry s = .next t ∧ _
  unfold execSettleExpiry
  split
  · next h =>
    refine ⟨_, rfl, judged_kept (s := s) (u := { s with lsc := { s.lsc with laser := .read, settle := none } })
      (darkened_kept rfl rfl rfl ?_ fun hg => hg.unlit ?_ ?_) s⟩
    · simp
    · rw [h.1]; nofun
    · rw [h.1]; nofun
  · exact ⟨s, rfl, .refl s⟩

theorem keepaliveExpiry_kept : ∃ t, exec .keepaliveExpiry s = .next t ∧ Kept s t := by
  change ∃ t, execKeepaliveExpiry s = .next t ∧ _
  unfold execKeepaliveExpiry
  (repeat' split)
  · exact ⟨_, rfl, held_kept .keepExpired (.refl s) s⟩
  · refine ⟨_, rfl, held_kept (s := s) (u := { s with wgd := { s.wgd with tickTaken := true } }) .keepExpired ?_ s⟩
    exact .of_frame rfl rfl rfl rfl
  · exact ⟨s, rfl, .refl s⟩
  · exact ⟨s, rfl, .refl s⟩

theorem keepStrobe_kept : ∃ t, exec .keepStrobe s = .next t ∧ Kept s t := by
  change ∃ t, execKeepStrobe s = .next t ∧ _
  unfold execKeepStrobe
  (repeat' split)
  · exact ⟨_, rfl, held_kept .keepEarly (.refl s) s⟩
  · exact ⟨_, rfl, .of_frame rfl rfl rfl rfl⟩
  · exact ⟨s, rfl, .refl s⟩

theorem ldtripAssert_kept : Kept s (keepSample s.sampleDue (held .supplyTrip s (tripped s))) := by
  have observed : Kept s (tripped s) := .of_frame rfl rfl rfl rfl
  have raised := held_kept .supplyTrip observed s
  obtain ⟨-, hk⟩ | ⟨o, -, hk⟩ := keepSample_cases s.sampleDue (held .supplyTrip s (tripped s)) <;> rw [hk]
  · exact raised
  · exact raised.trans (.of_frame rfl rfl rfl rfl)

end

end Sys2Proof.Machine

end


section
/-! SUPPORT. The other requests and the resets by what they keep of queue, pins and write guard, and with them every command (O9, O11, O12). -/

namespace Sys2Proof.Machine

open Sys2Proof.Stated

section
variable {s : State} (p : List Byte)

/-! ### Requests that touch neither queue nor records -/

theorem serveCounterSet_kept : Kept s (serveCounterSet p s) := by
  unfold serveCounterSet
  (repeat' split) <;> exact .of_frame rfl rfl rfl rfl

theorem serveCounterRead_kept : Kept s (serveCounterRead p s) := by
  unfold serveCounterRead
  split <;> exact .of_frame rfl rfl rfl rfl

theorem serveSupplyAck_kept : Kept s (serveSupplyAck p s) := by
  unfold serveSupplyAck
  split <;> exact .of_frame rfl rfl rfl rfl

theorem serveMediaRead_kept : Kept s (serveMediaRead p s) := by
  unfold serveMediaRead
  split <;> exact .of_frame rfl rfl rfl rfl

theorem serveZoneMap_kept : Kept s (serveZoneMap p s) := by
  unfold serveZoneMap
  dsimp only
  (repeat' split) <;> exact .of_frame rfl rfl rfl rfl

theorem serveSpeedMap_kept : Kept s (serveSpeedMap p s) := by
  unfold serveSpeedMap
  dsimp only
  (repeat' split) <;> exact .of_frame rfl rfl rfl rfl

theorem serveRecRead_kept : Kept s (serveRecRead p s) := by
  unfold serveRecRead
  exact withHandle_kept _ _ _ fun r _ => .of_frame rfl rfl rfl rfl

theorem serveDiodeSet_kept : Kept s (serveDiodeSet p s) := by
  unfold serveDiodeSet
  (repeat' split)
  · exact refused_kept 48 _
  · exact refused_kept 48 _
  · have set : Kept s { s with plp := { s.plp with diode := readDiode p, diodeValid := true } } := .of_frame rfl rfl rfl rfl
    exact acknowledged_kept (recomputed_kept set false) _ _

theorem serveLimitsSet_kept : Kept s (serveLimitsSet p s) := by
  unfold serveLimitsSet
  dsimp only
  (repeat' split)
  · exact refused_kept 50 _
  · exact refused_kept 50 _
  · have set : Kept s { s with plp := { s.plp with limits := some { pd := u16 p 0, imax := u16 p 2 } } } := .of_frame rfl rfl rfl rfl
    exact acknowledged_kept (recomputed_kept set false) _ _

theorem serveSettings_kept : Kept s (serveSettings p s) := by
  unfold serveSettings
  dsimp only
  split
  · exact refused_kept 128 _
  · have set : Kept s { s with cpt := { s.cpt with settings := Settings.select (u16 p 0) (offeredSettings p) s.cpt.settings } } :=
      .of_frame rfl rfl rfl rfl
    exact answered_kept (recomputed_kept set false) _ _ _

/-! ### The laser's requests -/

theorem startSettling_kept (quiet : Guarded s → Quiet s.sgq.queue) : Kept s (startSettling s) := darkened_kept rfl rfl rfl nofun quiet

theorem laserToOff_kept (quiet : Guarded s → Quiet s.sgq.queue) : Kept s (laserToOff s) := darkened_kept rfl rfl rfl nofun quiet

theorem serveLaserOn_kept : Kept s (serveLaserOn p s) := by
  unfold serveLaserOn
  split
  · exact refused_kept 80 _
  · next hoff =>
    have off : s.lsc.laser = .off := not_not.mp hoff
    (repeat' split)
    iterate 3 (· exact refused_kept 80 _)
    exact acknowledged_kept (settled_kept (startSettling_kept fun h => h.unlit (by rw [off]; nofun) (by rw [off]; nofun)) s) _ _

theorem serveLaserOff_kept : Kept s (serveLaserOff p s) := by
  unfold serveLaserOff
  cases hl : s.lsc.laser with
  | off | write => exact refused_kept 81 _
  | hold => exact acknowledged_kept (settled_kept (laserToOff_kept fun h => h.unlit (by rw [hl]; nofun) (by rw [hl]; nofun)) s) _ _
  | settling | read =>
    dsimp only
    split
    · next empty =>
      refine acknowledged_kept (settled_kept (laserToOff_kept fun _ => ?_) s) _ _
      rw [List.isEmpty_iff.mp empty]
      intro e he
      cases he
    · exact refused_kept 81 _

theorem serveHoldClear_kept : Kept s (serveHoldClear p s) := by
  unfold serveHoldClear
  cases hl : s.lsc.laser with
  | settling | read | write => exact refused_kept 82 _
  | off =>
    dsimp only
    (repeat' split)
    · exact refused_kept 82 _
    · exact refused_kept 82 _
    · have emptied : Kept s { s with lsc := { s.lsc with causes := HoldCauses.empty } } := .of_frame rfl rfl rfl rfl
      exact acknowledged_kept emptied _ _
  | hold =>
    have quiet : Guarded s → Quiet s.sgq.queue := fun h => h.unlit (by rw [hl]; nofun) (by rw [hl]; nofun)
    dsimp only
    (repeat' split)
    · exact refused_kept 82 _
    · exact acknowledged_kept (settled_kept (startSettling_kept quiet) s) _ _
    · have off : Kept s { s with lsc := Lsc.reset } := darkened_kept rfl rfl rfl nofun quiet
      exact acknowledged_kept (settled_kept off s) _ _

theorem serveQueueAbort_kept : Kept s (serveQueueAbort p s) := by
  unfold serveQueueAbort
  dsimp only
  split
  · next h =>
    have out : outOfWrite .read s = leaveWrite .read s := if_pos h.2
    have tidy := outOfWrite_tidy .read s
    rw [out] at tidy
    exact answered_kept (settled_kept (flushed_kept tidy _ fun _ h => by cases h) s) _ _ _
  · next no =>
    refine answered_kept (settled_kept (flushed_kept (.refl s) _ fun h hw => no ⟨h.writes.mp hw, hw⟩) s) _ _ _

/-! ### Resets -/

/-- A state with an empty queue, no pinned record and the laser out of WRITE keeps everything. -/
theorem reset_kept {t : State} (hq : t.sgq.queue = []) (hr : ∀ i r, t.record i = some r → r.pins = 0 ∧ r.state ≠ .retiring)
    (hl : t.lsc.laser ≠ .write) : Kept s t := by
  have noEntry : ∀ e, e ∉ t.sgq.queue := fun e he => by rw [hq] at he; cases he
  have fits : QueueFits t := by
    refine ⟨?_, fun e he => absurd (List.mem_of_mem_drop he) (noEntry e), fun e he => absurd he (noEntry e)⟩
    unfold Safety.QueueWithinCredits Sgq.occupied
    rw [hq]
    simp
  refine ⟨⟨⟨fun _ => fits, fun _ => ?_⟩, fun _ _ => guarded_of_quiet hl fun e he => absurd (List.mem_of_mem_head? he) (noEntry e)⟩, fun _ _ => ?_⟩
  · refine ⟨fits, fun i r h => ?_, fun i r h hp => absurd (hr i r h).1 hp, fun i r h hs => absurd hs (hr i r h).2, fun e he => absurd he (noEntry e),
      fun e he => absurd he (noEntry e), fun e he => absurd he (noEntry e)⟩
    rw [(hr i r h).1, hq]
    rfl
  · simp [Settled, hq]

theorem serveSoftReset_kept (found : FoundLines) : Kept s (serveSoftReset found p s) := by
  refine reset_kept rfl (fun i r h => ?_) nofun
  have record : (serveSoftReset found p s).record i = (s.record i).bind Record.softReset := by
    show ((s.stb.map Place.softReset)[i]?).bind (·.held) = _
    rw [List.getElem?_map, State.record]
    cases s.stb[i]? <;> rfl
  rw [record] at h
  obtain ⟨q, -, hq⟩ := Option.bind_eq_some_iff.mp h
  obtain ⟨service, rfl⟩ := record_softReset_eq_some.mp hq
  exact ⟨rfl, service⟩

/-- After a reset that empties the tables. -/
theorem hardReset_kept {t : State} (hq : t.sgq = Sgq.reset) (hstb : t.stb = State.reset.stb) (hl : t.lsc = Lsc.reset) : Kept s t := by
  refine reset_kept (by rw [hq]; rfl) (fun i r h => ?_) (by rw [hl]; nofun)
  obtain ⟨p, hp, held⟩ := Option.bind_eq_some_iff.mp h
  rw [hstb] at hp
  have free := List.eq_of_mem_replicate (List.mem_of_getElem? (show (List.replicate _ _)[i]? = some p from hp))
  rw [free] at held
  cases held

end

/-! ### Every command -/

/-- What a request's service keeps, the request keeps. -/
theorem request_kept {s : State} (code : Byte) (len : Nat) (w : HostWrite) {serve : List Byte → State → State} (h : ∀ p, Kept s (serve p s)) :
    Kept s (request code len w serve s) := by
  unfold request
  obtain ⟨-, e⟩ | ⟨body, b, -, e⟩ | e := transaction_cases code w (takeRequest code len serve) s <;> rw [e]
  · exact .of_frame rfl rfl rfl rfl
  · refine Kept.trans (t := takeRequest code len serve body s) ?_ (.of_frame rfl rfl rfl rfl)
    unfold takeRequest
    (repeat' split)
    · exact h _
    · exact refused_kept code _
    · exact .of_frame rfl rfl rfl rfl
  · exact .refl s

section
variable (s : State)

theorem unknownRequest_kept (code : Byte) (w : HostWrite) : ∃ t, exec (.unknownRequest code w) s = .next t ∧ Kept s t := by
  change ∃ t, execUnknownRequest code w s = .next t ∧ _
  unfold execUnknownRequest
  refine ⟨_, rfl, ?_⟩
  obtain ⟨-, e⟩ | ⟨body, b, -, e⟩ | e := transaction_cases code w _ s <;> rw [e]
  · exact .of_frame rfl rfl rfl rfl
  · split <;> exact .of_frame rfl rfl rfl rfl
  · exact .refl s

theorem responseRead_kept (phase : ReadPhase) : ∃ t, exec (.responseRead phase) s = .next t ∧ Kept s t := by
  change ∃ t, execResponseRead phase s = .next t ∧ _
  unfold execResponseRead
  (repeat' split)
  · exact ⟨_, rfl, .of_frame rfl rfl rfl rfl⟩
  · exact ⟨_, rfl, .of_frame rfl rfl rfl rfl⟩
  · exact ⟨s, rfl, .refl s⟩
  · exact ⟨s, rfl, .refl s⟩
  · exact ⟨_, rfl, .of_frame rfl rfl rfl rfl⟩

theorem linkBytePeriod_kept (rx : Option Byte) : ∃ t, exec (.linkBytePeriod rx) s = .next t ∧ Kept s t := by
  change ∃ t, execLinkBytePeriod rx s = .next t ∧ _
  have transmitted : Kept s (transmitByte s) := .of_frame rfl rfl rfl rfl
  unfold execLinkBytePeriod
  split
  · exact ⟨_, rfl, transmitted.trans (receiveByte_kept _ _)⟩
  · exact ⟨_, rfl, transmitted⟩

theorem temperatureSample_kept (reading : Int) : ∃ t, exec (.temperatureSample reading) s = .next t ∧ Kept s t := by
  change ∃ t, execTemperatureSample reading s = .next t ∧ _
  unfold execTemperatureSample
  split
  · refine ⟨_, rfl, ?_⟩
    have powered : ∀ (u : State) (l : Plp), Kept u { u with plp := l } := fun u l => .of_frame rfl rfl rfl rfl
    have warned : ∀ (q : Prop) [Decidable q], Kept s (if q then s.withNotices ({ · with tempRange := true }) else s) := by
      intro q _
      split
      · exact .of_frame rfl rfl rfl rfl
      · exact .refl s
    unfold takeTemperature
    dsimp only
    split
    · exact recomputed_kept ((warned _).trans (powered _ _)) false
    · exact (warned _).trans (powered _ _)
  · exact ⟨s, rfl, .refl s⟩

theorem markStart_kept : ∃ t, exec .markStart s = .next t ∧ Kept s t := by
  change ∃ t, execMarkStart s = .next t ∧ _
  unfold execMarkStart
  (repeat' split)
  · exact ⟨s, rfl, .refl s⟩
  · exact ⟨_, rfl, pgn_kept s _⟩
  · exact ⟨s, rfl, .refl s⟩

theorem outputLevelChange_kept : ∃ t, exec .outputLevelChange s = .next t ∧ Kept s t := by
  change ∃ t, execOutputLevelChange s = .next t ∧ _
  unfold execOutputLevelChange
  (repeat' split)
  · exact ⟨s, rfl, .refl s⟩
  · exact ⟨_, rfl, pgn_kept s _⟩
  · exact ⟨s, rfl, .refl s⟩

theorem spaceMidpointReading_kept (reading : Nat) : ∃ t, exec (.spaceMidpointReading reading) s = .next t ∧ Kept s t := by
  change ∃ t, execSpaceMidpointReading reading s = .next t ∧ _
  unfold execSpaceMidpointReading
  (repeat' split)
  · exact ⟨_, rfl, pgn_kept s _⟩
  · exact ⟨s, rfl, .refl s⟩
  · exact ⟨_, rfl, pgn_kept s _⟩
  · exact ⟨s, rfl, .refl s⟩

/-- Every command keeps the queue's shape, the pins and the write guard. -/
theorem exec_kept (c : Instr) (s : State) : ∃ t, exec c s = .next t ∧ Kept s t := by
  have requested : ∀ (code : Byte) (len : Nat) (w : HostWrite) (serve : List Byte → State → State), (∀ p, Kept s (serve p s)) →
      ∃ t, Host.Outcome.next (φ := Fault) (ρ := Refusal) (request code len w serve s) = .next t ∧ Kept s t :=
    fun code len w serve h => ⟨_, rfl, request_kept code len w h⟩
  cases c with
  | mediaInstall w => exact requested _ _ w _ serveMediaInstall_kept
  | mediaAmend w => exact requested _ _ w _ serveMediaAmend_kept
  | mediaMount w => exact requested _ _ w _ serveMediaMount_kept
  | mediaUnmount w => exact requested _ _ w _ serveMediaUnmount_kept
  | mediaRetire w => exact requested _ _ w _ serveMediaRetire_kept
  | mediaRead w => exact requested _ _ w _ serveMediaRead_kept
  | recInstall w => exact requested _ _ w _ serveRecInstall_kept
  | recAmend w => exact requested _ _ w _ serveRecAmend_kept
  | recPromote w => exact requested _ _ w _ serveRecPromote_kept
  | recRetire w => exact requested _ _ w _ serveRecRetire_kept
  | recRetireMatch w => exact requested _ _ w _ serveRecRetireMatch_kept
  | recRead w => exact requested _ _ w _ serveRecRead_kept
  | recFind w => exact requested _ _ w _ serveRecFind_kept
  | recScan w => exact requested _ _ w _ serveRecScan_kept
  | diodeSet w => exact requested _ _ w _ serveDiodeSet_kept
  | limitsSet w => exact requested _ _ w _ serveLimitsSet_kept
  | zoneMap w => exact requested _ _ w _ serveZoneMap_kept
  | speedMap w => exact requested _ _ w _ serveSpeedMap_kept
  | laserOn w => exact requested _ _ w _ serveLaserOn_kept
  | laserOff w => exact requested _ _ w _ serveLaserOff_kept
  | holdClear w => exact requested _ _ w _ serveHoldClear_kept
  | supplyAck w => exact requested _ _ w _ serveSupplyAck_kept
  | queueAbort w => exact requested _ _ w _ serveQueueAbort_kept
  | counterSet w => exact requested _ _ w _ serveCounterSet_kept
  | counterRead w => exact requested _ _ w _ serveCounterRead_kept
  | settings w => exact requested _ _ w _ serveSettings_kept
  | diodeRead w => exact requested _ _ w _ fun _ => .of_frame rfl rfl rfl rfl
  | pickupRead w => exact requested _ _ w _ fun _ => .of_frame rfl rfl rfl rfl
  | queueRead w => exact requested _ _ w _ fun _ => .of_frame rfl rfl rfl rfl
  | status w => exact requested _ _ w _ fun _ => .of_frame rfl rfl rfl rfl
  | noticesRead w => exact requested _ _ w _ fun _ => .of_frame rfl rfl rfl rfl
  | ident w => exact requested _ _ w _ fun _ => .of_frame rfl rfl rfl rfl
  | softReset r => exact requested _ _ r.write _ fun p => serveSoftReset_kept p r.found
  | unknownRequest code w => exact unknownRequest_kept s code w
  | responseRead phase => exact responseRead_kept s phase
  | powerOnReset f => exact ⟨_, rfl, hardReset_kept rfl rfl rfl⟩
  | pinReset f => exact ⟨_, rfl, hardReset_kept rfl rfl rfl⟩
  | seg b1 b2 b3 b4 => exact ⟨_, rfl, receive_kept _ s⟩
  | cancel b1 => exact ⟨_, rfl, receive_kept _ s⟩
  | endMsg b1 => exact ⟨_, rfl, receive_kept _ s⟩
  | linkMessageDiscarded m => exact ⟨_, rfl, receive_kept _ s⟩
  | resyncIdleByte => exact ⟨_, rfl, receiveByte_kept s 0⟩
  | linkBytePeriod rx => exact linkBytePeriod_kept s rx
  | segmentLookupCompletion => exact segmentLookupCompletion_kept s
  | recFindCompletion => exact recFindCompletion_kept s
  | recScanCompletion => exact recScanCompletion_kept s
  | recRetireMatchCompletion => exact recRetireMatchCompletion_kept s
  | wgateRise => exact wgateRise_kept s
  | wgateFall => exact wgateFall_kept s
  | writeBack => exact writeBack_kept s
  | msTick => exact ⟨_, rfl, (tickQueue_kept s).trans (tickTimers_kept _)⟩
  | keepaliveExpiry => exact keepaliveExpiry_kept
  | keepStrobe => exact keepStrobe_kept
  | settleExpiry => exact settleExpiry_kept
  | ldtripAssert => exact ⟨_, rfl, ldtripAssert_kept⟩
  | ldtripDeassert => exact ⟨_, rfl, .of_frame rfl rfl rfl rfl⟩
  | ldwarnAssert => exact ⟨_, rfl, .of_frame rfl rfl rfl rfl⟩
  | ldwarnDeassert => exact ⟨_, rfl, .of_frame rfl rfl rfl rfl⟩
  | temperatureSample reading => exact temperatureSample_kept s reading
  | markRead wdata count => exact ⟨_, rfl, boundaries_kept wdata count s⟩
  | markStart => exact markStart_kept s
  | outputLevelChange => exact outputLevelChange_kept s
  | spaceMidpointReading reading => exact spaceMidpointReading_kept s reading
  | spaceSample => exact spaceSample_kept s
  | peakSample reading => exact peakSample_kept reading s
  | returnSample reading => exact returnSample_kept reading s
  | sledStep sla slb shome => exact sledStep_kept sla slb shome
  | wobPulse => exact ⟨_, rfl, .of_frame rfl rfl rfl rfl⟩
  | measurementCompletion => exact measurementCompletion_kept
  | fokRise flay => exact fokRise_kept flay
  | fokFall => exact fokFall_kept
  | flayChange flay => exact flayChange_kept flay
  | jumpTimerExpiry => exact jumpTimerExpiry_kept

end

/-- What a kept command's promises give, every step gives. -/
theorem step_kept {P : State → Prop} (hkept : ∀ c s t, exec c s = .next t → Kept s t → P s → P t)
    (hpending : ∀ s is, P s → P { s with pending := is }) (s t : State) (h : P s) (ht : step s = .next t) : P t := by
  refine step_keeps (fun c s t hc hs => ?_) hpending s t h ht
  obtain ⟨u, hu, kept⟩ := exec_kept c s
  rw [hu] at hc
  cases hc
  exact hkept c s _ hu kept hs

/-- Settles O11, by what every command keeps. -/
theorem stepKeepsQueueShape : Obligations.StepKeepsQueueShape := by
  unfold Obligations.StepKeepsQueueShape
  refine step_kept (P := Safety.QueueShaped) (fun c s t _ kept h => ?_) fun _ _ h => h
  obtain ⟨fits, settled⟩ := (queueShaped_iff s).mp h
  exact (queueShaped_iff t).mpr ⟨kept.fits fits, kept.settled fits settled⟩

/-- Settles O9, by what every command keeps. -/
theorem stepKeepsPinCounts : Obligations.StepKeepsPinCounts := by
  unfold Obligations.StepKeepsPinCounts
  refine step_kept (P := Safety.PinsAgree) (fun c s t _ kept h => ?_) fun _ _ h => h
  obtain ⟨pinned, settled⟩ := (pinsAgree_iff s).mp h
  exact (pinsAgree_iff t).mpr ⟨kept.pinned pinned, kept.settled pinned.fits settled⟩

/-- Settles O12, by what every command keeps of queue and guard, and by the laser's promises. -/
theorem stepKeepsWriteGuarded : Obligations.StepKeepsWriteGuarded := by
  unfold Obligations.StepKeepsWriteGuarded
  refine step_kept (P := Safety.WriteGuarded) (fun c s t ht kept h => ?_) fun _ _ h => h
  obtain ⟨⟨fits, settled⟩, laser, guarded⟩ := (writeGuarded_iff s).mp h
  obtain ⟨u, hu, sound⟩ := exec_laserSound c s
  rw [hu] at ht
  cases ht
  exact (writeGuarded_iff _).mpr ⟨⟨kept.fits fits, kept.settled fits settled⟩, sound.consistent laser, kept.guarded fits guarded⟩

end Sys2Proof.Machine

end
